-- ==== Sys2Proof/Word.lean ====
section
/-! DEFINITION. The bytes and words of the telegram line (R177, R186): what the description treats as bits. -/

namespace Sys2Proof

/-- One byte of a telegram line. -/
abbrev Byte := BitVec 8

/-- One 16-bit word: the check of a frame (R177) and every two-byte number (0.7.6). -/
abbrev Word16 := BitVec 16

/-- A number as one byte. -/
def byteOf (n : Nat) : Byte := BitVec.ofNat 8 n

/-- A number as two bytes, high byte first (0.7.6). -/
def wordBytes (n : Nat) : List Byte := [byteOf (n / 256), byteOf n]

/-- The number that two bytes carry, high byte first (0.7.6). -/
def wordValue (hi lo : Byte) : Nat := 256 * hi.toNat + lo.toNat

end Sys2Proof
end

