-- ==== Sys2Proof/Syntax.lean ====
section
/-! DEFINITION. The commands of the DY48: one constructor of `Instr` for each row of spec/opcode_table.json, and the types
of their operands. A telegram command carries the port it stands on and its tag byte; a report from the field carries the
link it arrives on. -/

namespace Sys2Proof

/-- The two telegram ports (0.3). -/
inductive Port where
  | plan
  | desk
  deriving DecidableEq, Repr

/-- The other port. -/
def Port.other : Port → Port
  | .plan => .desk
  | .desk => .plan

/-- Which tables a thing stands in: the real yard's, or a rehearsal session's copies (R172). -/
inductive Side where
  | real
  | copy
  deriving DecidableEq, Repr

/-- A point position. -/
inductive Position where
  | normal
  | reverse
  deriving DecidableEq, Repr

/-- The opposite position. -/
def Position.opposite : Position → Position
  | .normal => .reverse
  | .reverse => .normal

/-- A signal aspect (3.3.1). -/
inductive Aspect where
  | stop
  | proceed
  deriving DecidableEq, Repr

/-- A proved lamp state as a station reports it (R47). -/
inductive Lamp where
  | ok
  | failed
  deriving DecidableEq, Repr

/-- What a section report carries (R42). -/
inductive Occupancy where
  | clear
  | occupied
  | disturbed
  deriving DecidableEq, Repr

/-- What a gate reader sends: a tram number, or UNREADABLE (R52). -/
inductive GateRead where
  | tram (number : Nat)
  | unreadable
  deriving DecidableEq, Repr

/-- A berth road: a stabling road B1 to B16, or a headshunt H1, H2 (0.7.4). -/
inductive Berth where
  | road (number : Nat)
  | headshunt (number : Nat)
  deriving DecidableEq, Repr

/-- A route endpoint (Table 1-2). -/
inductive Endpoint where
  | g1
  | g2
  | berth (b : Berth)
  deriving DecidableEq, Repr

/-- A record key: kind and number (Table 1-1). -/
inductive Key where
  | point (number : Nat)
  | track (number : Nat)
  | signal (number : Nat)
  | road (number : Nat)
  | headshunt (number : Nat)
  | gate (number : Nat)
  | route (number : Nat)
  deriving DecidableEq, Repr

/-- POINT record (R2). -/
structure PointRecord where
  number : Nat
  link : Nat
  track : Nat
  deriving DecidableEq, Repr

/-- SECTION record (R2). -/
structure TrackRecord where
  number : Nat
  link : Nat
  deriving DecidableEq, Repr

/-- SIGNAL record (R2). -/
structure SignalRecord where
  number : Nat
  link : Nat
  deriving DecidableEq, Repr

/-- ROAD record (R3). Bit k - 1 of the class mask admits class k. Table 1-5, check 4, asks whether the departure signal and
the entry section are given. -/
structure RoadRecord where
  number : Nat
  usable : Nat
  classMask : BitVec 4
  signal : Option Nat
  entry : Option Nat
  deriving DecidableEq, Repr

/-- HEADSHUNT record (R3). -/
structure HeadshuntRecord where
  number : Nat
  signal : Option Nat
  entry : Option Nat
  deriving DecidableEq, Repr

/-- GATE record (R4). The signal and the approach section are those of G1; the record of G2 holds its link alone. -/
structure GateRecord where
  number : Nat
  signal : Option Nat
  approach : Option Nat
  link : Nat
  deriving DecidableEq, Repr

/-- ROUTE record (R5, Table 1-2). A release time left unstated is 60 s. -/
structure RouteRecord where
  number : Nat
  source : Endpoint
  target : Endpoint
  signal : Nat
  points : List (Nat × Position)
  flanks : List (Nat × Position)
  tracks : List Nat
  approach : Option Nat
  releaseTime : Option Nat
  deriving DecidableEq, Repr

/-- One layout record, as LAYOUT RECORD PUT carries it (R11). -/
inductive LayoutRecord where
  | point (r : PointRecord)
  | track (r : TrackRecord)
  | signal (r : SignalRecord)
  | road (r : RoadRecord)
  | headshunt (r : HeadshuntRecord)
  | gate (r : GateRecord)
  | route (r : RouteRecord)
  deriving DecidableEq, Repr

/-- Start form of LAYOUT BEGIN (R9). -/
inductive StartForm where
  | empty
  | copy
  deriving DecidableEq, Repr

/-- Source of READ LAYOUT (R20). -/
inductive LayoutSource where
  | committed
  | staging
  deriving DecidableEq, Repr

/-- The permit a telegram names (R181). -/
inductive PermitName where
  | layout
  | settings
  | record
  | release
  | other (code : Nat)
  deriving DecidableEq, Repr

/-- The nine report class enables (R180). -/
structure Enables where
  route : Bool
  element : Bool
  berth : Bool
  plan : Bool
  faultCorrected : Bool
  faultElement : Bool
  faultYard : Bool
  link : Bool
  system : Bool
  deriving DecidableEq, Repr

/-- One entry of TRAM ENTRY as carried (R142); the departure 65535 means NONE. -/
structure TramFields where
  tram : Nat
  length : Nat
  cls : Nat
  departure : Nat
  deriving DecidableEq, Repr

/-- Trams named by a telegram: a list of numbers, or the word ALL (R143, R148). -/
inductive TramNames where
  | all
  | list (trams : List Nat)
  deriving DecidableEq, Repr

/-- Subject of ALLOCATE QUERY (R136). -/
inductive Subject where
  | head
  | tram (number : Nat)
  deriving DecidableEq, Repr

/-- What READ FAULT asks for (R160). -/
inductive FaultPlace where
  | position (n : Nat)
  | freeze
  deriving DecidableEq, Repr

/-- Injection kinds of REHEARSAL ACT (R175). -/
inductive Injection where
  | obstruct
  | noDetect
  | disturb
  | readFail
  deriving DecidableEq, Repr

/-- One signal's part of a full-state report: aspect, lamp and the number of the last ASPECT command the station took. -/
structure SignalFieldState where
  signal : Nat
  aspect : Aspect
  lamp : Lamp
  number : Nat
  deriving DecidableEq, Repr

/-- The full state a station sends as its link comes UP (R168): detection of its points, condition of its sections, aspect
and lamp of its signals. -/
structure FullState where
  points : List (Nat × Option Position)
  tracks : List (Nat × Occupancy)
  signals : List SignalFieldState
  deriving DecidableEq, Repr

/-- Whether the check of each of the two copies of one non-volatile store is good when a cold reset reads it (R8). -/
structure CopyChecks where
  latest : Bool
  earlier : Bool
  deriving DecidableEq, Repr

/-- The checks found by a cold reset on the five non-volatile stores (R8, R38, R125, R142, R183). -/
structure StoreChecks where
  layout : CopyChecks
  settings : CopyChecks
  register : CopyChecks
  record : CopyChecks
  outOfUse : CopyChecks
  deriving DecidableEq, Repr

/-- Every copy's check good: the ordinary cold reset. -/
def StoreChecks.good : StoreChecks :=
  ⟨⟨true, true⟩, ⟨true, true⟩, ⟨true, true⟩, ⟨true, true⟩, ⟨true, true⟩⟩

/-- The commands: one constructor for each row of spec/opcode_table.json, in the table's order. -/
inductive Instr where
  | status (p : Port) (tag : Byte)
  | setClock (p : Port) (tag : Byte) (minute second : Nat)
  | takeControl (p : Port) (tag : Byte)
  | returnControl (p : Port) (tag : Byte)
  | reset (p : Port) (tag : Byte)
  | openPermit (p : Port) (tag : Byte) (name : PermitName)
  | closePermit (p : Port) (tag : Byte) (name : PermitName)
  | setParameter (p : Port) (tag : Byte) (number value : Nat)
  | readParameter (p : Port) (tag : Byte) (number : Nat)
  | setReporting (p : Port) (tag : Byte) (enables : Enables)
  | requestRoute (p : Port) (tag : Byte) (route tram : Nat)
  | cancelRoute (p : Port) (tag : Byte) (route : Nat)
  | grantReleasePermit (p : Port) (tag : Byte)
  | emergencyRelease (p : Port) (tag : Byte) (route : Nat)
  | throwPoint (p : Port) (tag : Byte) (point : Nat) (target : Position)
  | pointUseOut (p : Port) (tag : Byte) (point : Nat)
  | pointUseIn (p : Port) (tag : Byte) (point : Nat)
  | allStop (p : Port) (tag : Byte)
  | freezeAcknowledge (p : Port) (tag : Byte)
  | readRoutes (p : Port) (tag : Byte)
  | readElement (p : Port) (tag : Byte) (key : Key)
  | tramEntry (p : Port) (tag : Byte) (entries : List TramFields)
  | tramRemove (p : Port) (tag : Byte) (names : TramNames)
  | runOutPlan (p : Port) (tag : Byte) (pairs : List (Nat × Nat))
  | runOutClear (p : Port) (tag : Byte) (names : TramNames)
  | readRunOut (p : Port) (tag : Byte)
  | allocateQuery (p : Port) (tag : Byte) (subject : Subject)
  | readRoad (p : Port) (tag : Byte) (berth : Berth)
  | roadCensus (p : Port) (tag : Byte) (berth : Berth) (trams : List Nat)
  | roadClose (p : Port) (tag : Byte) (berth : Berth)
  | roadOpen (p : Port) (tag : Byte) (berth : Berth)
  | readArrivals (p : Port) (tag : Byte)
  | readFault (p : Port) (tag : Byte) (place : FaultPlace)
  | clearFault (p : Port) (tag : Byte) (number : Nat)
  | layoutBegin (p : Port) (tag : Byte) (expected fresh : Nat) (form : StartForm)
  | layoutRecordPut (p : Port) (tag : Byte) (record : LayoutRecord)
  | layoutRecordRemove (p : Port) (tag : Byte) (key : Key)
  | layoutCommit (p : Port) (tag : Byte)
  | layoutAbandon (p : Port) (tag : Byte)
  | layoutErase (p : Port) (tag : Byte) (expected : Nat)
  | readLayout (p : Port) (tag : Byte) (source : LayoutSource) (key : Key)
  | linkRetrain (p : Port) (tag : Byte) (link : Nat)
  | linkDisable (p : Port) (tag : Byte) (link : Nat)
  | linkEnable (p : Port) (tag : Byte) (link : Nat)
  | rehearsalBegin (p : Port) (tag : Byte) (rate : Nat)
  | rehearsalEnd (p : Port) (tag : Byte)
  | rehearsalActArrive (p : Port) (tag : Byte) (tram : Nat)
  | rehearsalActOccupy (p : Port) (tag : Byte) (key : Key)
  | rehearsalActClear (p : Port) (tag : Byte) (key : Key)
  | rehearsalActInject (p : Port) (tag : Byte) (kind : Injection) (key : Option Key)
  | rehearsalActRemove (p : Port) (tag : Byte) (kind : Injection) (key : Option Key)
  | unknownKindFrame (p : Port) (tag : Byte) (kind : Byte)
  | validFrameReceived (p : Port) (bytes : List Byte)
  | frameGapTimeout (p : Port) (bytes : List Byte)
  | frameSent (p : Port)
  | coldReset (checks : StoreChecks)
  | warmResetInput
  | warmResetTelegram
  | pointDetectionReport (link point : Nat) (detected : Option Position)
  | currentSample (link point value : Nat)
  | driveStopped (link point : Nat)
  | sectionReport (link track : Nat) (condition : Occupancy)
  | signalReport (link signal : Nat) (aspect : Aspect) (lamp : Lamp) (number : Nat)
  | gateRead (link gate : Nat) (read : GateRead)
  | trainingAnswer (link number : Nat) (full : FullState)
  | linkBadFrame (link : Nat)
  | trainingTimeout (link : Nat)
  | linkSilenceTimeout (link : Nat)
  | downWaitExpiry (link : Nat)
  | linkPoll (link : Nat)
  | driveTimeLimitExpiry (point : Nat)
  | retryPauseEnd (point : Nat)
  | settingLimitExpiry (slot : Nat)
  | approachReleaseExpiry (slot : Nat)
  | emergencyReleaseExpiry (slot : Nat)
  | releasePermitLapse
  | requestExpiry (route : Nat)
  | restartHoldEnd
  | planSilenceTimeout
  | minuteChange (side : Side)
  | simCurrentSample (point : Nat)
  | simDriveDetection (point : Nat)
  | simTramStep (run : Nat)
  | frameLengthOutsideRange (p : Port) (bytes : List Byte)
  deriving DecidableEq, Repr

end Sys2Proof
end

