-- ==== Sys2Proof/Config.lean ====
section
/-! DEFINITION. What the DY48 fixes once: the durations and capacities of the description, the factory values, the model's
own constants, and the one value the description leaves open (the byte that stands for an aspect in a fault record). -/

namespace Sys2Proof.Config

/-- The erased layout identity (1.3). -/
def erasedIdentity : Nat := 0xFFFFFFFF

/-- Milliseconds from entering TRAINING to its end without an answer (Table 1-11). -/
def trainingWindow : Nat := 5000

/-- Milliseconds a link stays DOWN (Table 1-11). -/
def downWait : Nat := 10000

/-- Milliseconds without a good frame that take an UP link DOWN (Table 1-11). -/
def linkSilence : Nat := 1000

/-- Consecutive bad frames that take an UP link DOWN (Table 1-11). -/
def badFrameLimit : Nat := 3

/-- Milliseconds after which a TRAINING or UP link is sent a frame (R168). -/
def pollPeriod : Nat := 250

/-- Milliseconds of the retry pause (R27). -/
def retryPause : Nat := 1000

/-- Obstruction run that ends a drive (R27). -/
def obstructionLimit : Nat := 5

/-- Open-circuit run that ends a throw (R29). -/
def openCircuitLimit : Nat := 10

/-- First sample of a drive that counts in the open-circuit run (R26). -/
def openCircuitFrom : Nat := 6

/-- Milliseconds for which a release permit stays open (R89). -/
def permitLapse : Nat := 10000

/-- Requests the route request queue holds (R94). -/
def queueCapacity : Nat := 12

/-- Entries the arrival queue holds (R110). -/
def arrivalCapacity : Nat := 6

/-- Expectations the outbound expectation list holds (R110). -/
def expectationCapacity : Nat := 4

/-- Entries a stabling road holds (R109). -/
def roadCapacity : Nat := 8

/-- Trams the tram register holds (R142). -/
def registerCapacity : Nat := 160

/-- Entries the run-out list holds (R145). -/
def runOutCapacity : Nat := 64

/-- Records the fault list holds (R158). -/
def faultCapacity : Nat := 16

/-- Further causes the freeze record holds (R161). -/
def furtherCapacity : Nat := 3

/-- Reports a report queue holds (R180). -/
def reportCapacity : Nat := 24

/-- Frames a receive buffer holds (R177). -/
def receiveCapacity : Nat := 4

/-- The last service minute (0.7.5). -/
def lastMinute : Nat := 2159

/-- What D* takes for a departure NONE (8.1). -/
def noDeparture : Nat := 2160

/-- The departure value that means NONE in a telegram (R142, R147). -/
def departureNone : Nat := 65535

/-- Length, in dm, taken for a tram that is not in the register (R120). -/
def unknownLength : Nat := 450

/-- Class taken for a tram that is not in the register (R120). -/
def unknownClass : Nat := 1

/-- Rehearsal milliseconds between the samples of a simulated drive (R174). -/
def simSamplePeriod : Nat := 100

/-- Rehearsal milliseconds from a simulated DRIVE to its detection (R174). -/
def simDriveTime : Nat := 3000

/-- Rehearsal milliseconds between the steps of a simulated tram run (R174). -/
def simStepTime : Nat := 5000

/-- Milliseconds by which an idle step moves the part's own time base on. DESIGN CHOICE (notes/assumptions/1). -/
def tick : Nat := 10

/-- Most scans and rounds worked inside one command; any left over are worked first by the next command that works any.
DESIGN CHOICE (notes/assumptions/5). -/
def settleBound : Nat := 400

/-- The byte that stands for an aspect in the check data of a fault record. R186 gives no code for an aspect, so this is a
free value: it has no body, and nothing can be proved of it (notes/assumptions/24). -/
opaque aspectCode : Aspect → Byte

end Sys2Proof.Config
end

