-- ==== Sys2Proof/Machine/State.lean ====
section
/-! DEFINITION. The state of the DY48 as plain data: every register, table, queue, timer, mode and port buffer that the
description gives the part, the queue of waiting commands, and the state right after a cold reset of a factory-new part. -/

namespace Sys2Proof.Machine

open Sys2Proof

/-- A time of the service day (0.7.5); an absent one is UNSET. -/
structure ServiceTime where
  minute : Nat
  second : Nat
  deriving DecidableEq, Repr

/-- The service clock (R144). `past` is the time, in ms, that has run since the second shown; it grows beyond 1000 only while
the second is 59 and the minute change is still to come (notes/assumptions/2). -/
structure Clock where
  set : Bool
  minute : Nat
  second : Nat
  past : Nat
  deriving DecidableEq, Repr

/-- A slot's timer: none, running to an expiry, or held at the time remaining by a freeze (R93). Times are milliseconds
on the part's own time base, or on the rehearsal time base during a session. -/
inductive Timer where
  | off
  | running (expiry : Nat)
  | held (remaining : Nat)
  deriving DecidableEq, Repr

/-- Point states (Table 2-2). -/
inductive PointState where
  | normal
  | reverse
  | moving
  | restoring
  | retryWait
  | failed
  | unknown
  deriving DecidableEq, Repr

/-- How a slot holds a point (Table 2-1). -/
inductive LockMark where
  | route
  | flank
  deriving DecidableEq, Repr

/-- One entry of a point's lock set, with the position in which it holds the point. -/
structure Lock where
  slot : Nat
  mark : LockMark
  position : Position
  deriving DecidableEq, Repr

/-- What a throw was begun for (R24). -/
inductive ThrowOrigin where
  | slot (number : Nat)
  | desk
  deriving DecidableEq, Repr

/-- The working state of a throw in progress (R24, R26): captured parameters, peak, elapsed time from `startedAt`, and the
runs and time of the present drive. `pauseEnd` is present in RETRY_WAIT. -/
structure Throw where
  target : Position
  origin : ThrowOrigin
  timeLimit : Nat
  obstruction : Nat
  openCircuit : Nat
  retries : Nat
  peak : Nat
  startedAt : Nat
  driveAt : Nat
  samples : Nat
  obstructionRun : Nat
  openRun : Nat
  pauseEnd : Option Nat
  deriving DecidableEq, Repr

/-- The point record (Table 2-1). `detected` is what the last detection report said (2.1). -/
structure Point where
  number : Nat
  state : PointState
  detected : Option Position
  outOfUse : Bool
  claim : Option Nat
  locks : List Lock
  attempts : Nat
  lastDuration : Nat
  lastPeak : Nat
  throw : Option Throw
  deriving DecidableEq, Repr

/-- Section states (Table 3-1). -/
inductive TrackState where
  | clear
  | occupied
  | disturbed
  | unknown
  deriving DecidableEq, Repr

/-- The section record (R41). -/
structure Track where
  number : Nat
  state : TrackState
  reservedBy : Option Nat
  deriving DecidableEq, Repr

/-- The signal record (Table 3-2). An absent reported aspect or lamp is unknown. -/
structure Signal where
  number : Nat
  commanded : Aspect
  command : Nat
  reported : Option Aspect
  lamp : Option Lamp
  answered : Option Nat
  wrongRaised : Bool
  deriving DecidableEq, Repr

/-- A gate reader (R52); gate 1 is inbound, gate 2 outbound. -/
structure Reader where
  gate : Nat
  lastRead : Option GateRead
  time : Option ServiceTime
  deriving DecidableEq, Repr

/-- Berth entry states (Table 7-2). -/
inductive BerthState where
  | arriving
  | stabled
  | departing
  deriving DecidableEq, Repr

/-- A berth entry (Table 7-2). -/
structure BerthEntry where
  tram : Nat
  length : Nat
  cls : Nat
  departure : Option Nat
  state : BerthState
  timeStabled : Option ServiceTime
  deriving DecidableEq, Repr

/-- The record of a berth road (Table 7-1); entries run from the buffer stop to the front. -/
structure Road where
  berth : Berth
  entries : List BerthEntry
  closed : Bool
  verified : Bool
  deriving DecidableEq, Repr

/-- An arrival entry (R110). -/
structure Arrival where
  tram : Nat
  length : Nat
  cls : Nat
  departure : Option Nat
  known : Bool
  reserved : Option Nat
  deriving DecidableEq, Repr

/-- An expectation of the outbound list (R110). -/
structure Expectation where
  tram : Nat
  berth : Berth
  time : Option ServiceTime
  deriving DecidableEq, Repr

/-- Readiness of a run-out entry (R138). -/
inductive ReadinessKind where
  | free
  | behind
  | blocked
  | lost
  deriving DecidableEq, Repr

/-- A readiness result: the readiness, d and the blockers (R138). -/
structure Readiness where
  kind : ReadinessKind
  depth : Nat
  blockers : List Nat
  deriving DecidableEq, Repr

/-- Run-out entry states (Table 9-2). -/
inductive RunOutState where
  | waiting
  | due
  | blocked
  | lost
  | requested
  | departing
  | gone
  | missed
  | setAside
  deriving DecidableEq, Repr

/-- A run-out entry (Table 9-1). The readiness is the one last handed, absent before the first. -/
structure RunOut where
  tram : Nat
  departure : Option Nat
  clamped : Bool
  state : RunOutState
  readiness : Option Readiness
  route : Option Nat
  deriving DecidableEq, Repr

/-- Fault kinds, in the order of Table 10-1. -/
inductive FaultKind where
  | throwRetried
  | throwObstructed
  | throwNoDetection
  | motorOpen
  | throwInterrupted
  | detectionLost
  | sectionDisturbed
  | aspectLost
  | lampFailed
  | linkDown
  | sequence
  | passedAtStop
  | identity
  | pointTrailed
  | wrongAspect
  | allStop
  deriving DecidableEq, Repr

/-- Fault classes (R156). -/
inductive FaultClass where
  | corrected
  | element
  | yard
  deriving DecidableEq, Repr

/-- The element a fault names (Table 10-1). -/
inductive FaultElement where
  | point (number : Nat)
  | track (number : Nat)
  | signal (number : Nat)
  | reader (gate : Nat)
  | link (number : Nat)
  deriving DecidableEq, Repr

/-- Route slot states (Table 4-2). -/
inductive SlotState where
  | free
  | setting
  | locked
  | opened
  | approachTiming
  | entered
  | releaseStopped
  | emergencyTiming
  deriving DecidableEq, Repr

/-- Route context of a fault (Table 10-2). -/
structure RouteContext where
  route : Nat
  state : SlotState
  tram : Option Nat
  deriving DecidableEq, Repr

/-- Check data of a fault (Table 10-2). -/
inductive CheckData where
  | throwData (target : Position) (attempts peak duration : Nat)
  | identity (expected : Option Nat) (read : Nat)
  | aspects (commanded reported : Aspect)
  | sequence (firstClear occupied : Nat)
  deriving DecidableEq, Repr

/-- One cause of the freeze record (R161). -/
structure Cause where
  number : Nat
  kind : FaultKind
  element : Option FaultElement
  time : Option ServiceTime
  context : Option RouteContext
  check : Option CheckData
  deriving DecidableEq, Repr

/-- A fault record (Table 10-2); the class follows from the kind (R156). -/
structure FaultRecord where
  number : Nat
  kind : FaultKind
  element : Option FaultElement
  time : Option ServiceTime
  context : Option RouteContext
  check : Option CheckData
  further : List Cause
  more : Bool
  cleared : Bool
  marker : Bool
  deriving DecidableEq, Repr

/-- The fault list with its next number and list-full indicator (R157, R158). -/
structure FaultList where
  records : List FaultRecord
  next : Nat
  full : Bool
  deriving DecidableEq, Repr

/-- The freeze record (R161). -/
structure FreezeRecord where
  primary : Cause
  further : List Cause
  more : Bool
  deriving DecidableEq, Repr

/-- The tables a rehearsal session copies (R172): element table, stabling record, run-out list, fault list and clock. -/
structure Yard where
  points : List Point
  tracks : List Track
  signals : List Signal
  readers : List Reader
  roads : List Road
  arrivals : List Arrival
  expectations : List Expectation
  runOut : List RunOut
  faults : FaultList
  clock : Clock
  deriving DecidableEq, Repr

/-- Route kinds (Table 1-3). -/
inductive RouteKind where
  | arrival
  | arrivalToHeadshunt
  | departure
  | departureFromHeadshunt
  | shuntOut
  | shuntIn
  deriving DecidableEq, Repr

/-- Origin of a request or a route (Table 6-1). -/
inductive Origin where
  | plan
  | desk
  | automatic
  deriving DecidableEq, Repr

/-- The route slot record (Table 4-1). -/
structure Slot where
  number : Nat
  state : SlotState
  route : Option Nat
  kind : Option RouteKind
  origin : Option Origin
  tram : Option Nat
  openedOnce : Bool
  aspectHeld : Bool
  claimed : List (Nat × Position)
  marks : List Bool
  released : Nat
  settingLimit : Nat
  timer : Timer
  takenAt : Option ServiceTime
  deriving DecidableEq, Repr

/-- A FREE slot: every other field absent or zero (R55). -/
def Slot.free (n : Nat) : Slot :=
  { number := n, state := .free, route := none, kind := none, origin := none, tram := none, openedOnce := false,
    aspectHeld := false, claimed := [], marks := [], released := 0, settingLimit := 0, timer := .off, takenAt := none }

/-- A route request (Table 6-1). `stopped` is the time remaining to its expiry that a freeze holds, absent while the expiry runs
(R101); `held` is the state HELD. -/
structure Request where
  route : Nat
  origin : Origin
  tram : Option Nat
  queuedAt : Nat
  queuedTime : Option ServiceTime
  expiry : Nat
  stopped : Option Nat
  bypass : Nat
  held : Bool
  deriving DecidableEq, Repr

/-- Field link states (R168). -/
inductive LinkState where
  | disabled
  | training
  | up
  | down
  deriving DecidableEq, Repr

/-- A field link: its state, the end of the training window or of the wait in DOWN, when it last carried a good frame and was
last sent one, its run of bad frames, and whether a LINK RETRAINED report is owed (R168, R170). -/
structure Link where
  number : Nat
  state : LinkState
  windowEnd : Nat
  lastGood : Nat
  lastSent : Nat
  bad : Nat
  retrainOwed : Bool
  deriving DecidableEq, Repr

/-- A frame sent on a field link (R22, R46, R168, R172). -/
inductive LinkFrame where
  | trainingRequest (number : Nat)
  | poll
  | drive (point : Nat) (target : Position)
  | stop (point : Nat)
  | aspect (signal : Nat) (aspect : Aspect) (number : Nat)
  | holdSafe
  | releaseSafe
  deriving DecidableEq, Repr

/-- Control mode (R103). -/
inductive Mode where
  | manual
  | automatic
  deriving DecidableEq, Repr

/-- Yard mode (0.9). -/
inductive YardMode where
  | uncommissioned
  | normal
  | hold
  | frozen
  | rehearsal
  deriving DecidableEq, Repr

/-- Reset causes (0.8). -/
inductive ResetCause where
  | cold
  | warmInput
  | warmTelegram
  deriving DecidableEq, Repr

/-- Outcome of a rehearsal session (R176). -/
structure Summary where
  departures : Nat
  missed : Nat
  blocked : Nat
  arrivals : Nat
  faults : Nat
  clock : Clock
  deriving DecidableEq, Repr

/-- A simulated drive of a copy point (R174). -/
structure SimDrive where
  point : Nat
  target : Position
  startedAt : Nat
  obstructed : Bool
  undetected : Bool
  samples : Nat
  deriving DecidableEq, Repr

/-- A simulated tram run (R174): the steps taken and when the next is due (absent while it waits at STOP). -/
structure SimRun where
  number : Nat
  slot : Nat
  signal : Nat
  tram : Option Nat
  tracks : List Nat
  outbound : Bool
  step : Nat
  due : Option Nat
  deriving DecidableEq, Repr

/-- The rehearsal session (R172 to R176): rate, time base, copies, injections, simulated drives and runs, and the counts of
the summary. -/
structure Session where
  rate : Nat
  base : Nat
  copy : Yard
  obstruct : List Nat
  noDetect : List Nat
  disturb : List Nat
  readFail : Bool
  drives : List SimDrive
  runs : List SimRun
  nextRun : Nat
  departures : Nat
  missed : Nat
  arrivals : Nat
  faults : Nat
  deriving DecidableEq, Repr

/-- Refusal reasons, in the order of Table 12-2. -/
inductive Reason where
  | notAuthority
  | noPermit
  | frozen
  | hold
  | queueFull
  | duplicate
  | unknownItem
  | notQuiescent
  | stillPresent
  | state
  | length
  | unfit
  | closed
  | noTram
  | inUse
  | busy
  | noLayout
  | layoutMismatch
  | rehearsal
  | malformed
  deriving DecidableEq, Repr

/-- Reply outcomes (R179). -/
inductive ReplyOutcome where
  | done
  | accepted
  | doneClamped
  | refused
  deriving DecidableEq, Repr

/-- Telegram kinds (Table 12-1). -/
inductive TelegramKind where
  | status
  | setClock
  | takeControl
  | returnControl
  | reset
  | openPermit
  | closePermit
  | setParameter
  | readParameter
  | setReporting
  | requestRoute
  | cancelRoute
  | grantReleasePermit
  | emergencyRelease
  | throwPoint
  | pointUse
  | allStop
  | freezeAcknowledge
  | readRoutes
  | readElement
  | tramEntry
  | tramRemove
  | runOutPlan
  | runOutClear
  | readRunOut
  | allocateQuery
  | readRoad
  | roadCensus
  | roadCloseOpen
  | readArrivals
  | readFault
  | clearFault
  | layoutBegin
  | layoutRecord
  | layoutCommit
  | layoutAbandon
  | layoutErase
  | readLayout
  | linkRetrain
  | linkDisableEnable
  | rehearsalBegin
  | rehearsalEnd
  | rehearsalAct
  deriving DecidableEq, Repr

/-- Order mark of an allocation (R132). -/
inductive OrderMark where
  | empty
  | order (s : Int)
  deriving DecidableEq, Repr

/-- A candidate of an allocation (R137). -/
structure Candidate where
  road : Nat
  entries : Nat
  score : Nat
  mark : OrderMark
  blocking : Bool
  spare : Nat
  orderTerm : Nat
  lengthTerm : Nat
  deriving DecidableEq, Repr

/-- What READ ROUTES returns of a slot in use: its record, and the reserved-by field of each route section (R56). -/
structure SlotView where
  slot : Slot
  reserved : List (Nat × Option Nat)
  deriving DecidableEq, Repr

/-- What READ ROUTES returns of a queued request: every field of Table 6-1, and the time remaining to its expiry, held or not
(R107). -/
structure RequestView where
  request : Request
  remaining : Nat
  deriving DecidableEq, Repr

/-- The fields of a reply (R179), each as the rule of its telegram gives them. -/
inductive ReplyFields where
  | none
  | status (yard : YardMode) (mode : Mode) (cause : ResetCause) (minute second : Nat) (set : Bool) (holdSeconds : Nat)
      (slots queue arrivals throws : Nat) (identity : Nat) (listFull overrun planSilent rehearsal : Bool)
  | stored (value : Nat)
  | parameter (stored : Nat) (inForce : Option Nat)
  | faulty (key : Key) (check : Nat)
  | routes (slots : List SlotView) (queue : List RequestView)
  | point (record : Point) (elapsed : Nat)
  | track (state : TrackState) (reservedBy : Option Nat)
  | signal (commanded : Aspect) (reported : Option Aspect) (lamp : Option Lamp) (current : Bool)
  | gate (lastRead : Option GateRead) (time : Option ServiceTime) (link : LinkState)
  | runOut (clock : Clock) (entries : List RunOut)
  | allocation (tram length cls : Nat) (departure : Option Nat) (eligible : Nat) (candidates : List Candidate)
      (codes : List (Nat × Option Nat))
  | road (closed verified : Bool) (usable : Option Nat) (used : Nat) (entries : List BerthEntry)
  | arrivals (queue : List Arrival) (count : Nat) (expected : List Expectation) (readers : List Reader)
  | fault (record : FaultRecord) (held next : Nat) (full : Bool)
  | freeze (record : Option FreezeRecord)
  | layout (identity : Nat) (pair : Option (Nat × Nat)) (record : LayoutRecord) (kind : Option RouteKind)
      (conflicts : List Nat)
  | summary (s : Summary)
  deriving DecidableEq, Repr

/-- A reply (R179, Table 12-6): its kind byte, the tag echoed, the outcome, the reason of a refusal, and the fields. -/
structure Reply where
  kind : Byte
  tag : Byte
  outcome : ReplyOutcome
  reason : Option Reason
  fields : ReplyFields
  deriving DecidableEq, Repr

/-- Causes of ROUTE STATE reports, in the order of R186's codes. -/
inductive RouteCause where
  | taken
  | settingDone
  | opened
  | reverted
  | aspectLost
  | frozen
  | entered
  | passedAtStop
  | cancelled
  | sequence
  | emergency
  | freed
  | approachExpired
  | emergencyExpired
  | freeze
  deriving DecidableEq, Repr

/-- The condition a REVERTED report names (Table 12-8). -/
inductive FailedCondition where
  | none
  | point
  | track
  | link
  | lamp
  deriving DecidableEq, Repr

/-- Causes of a throw end (Table 2-3). -/
inductive ThrowCause where
  | completed
  | obstructed
  | motorOpen
  | noDetection
  | interrupted
  | linkLost
  | frozen
  | notDriven
  deriving DecidableEq, Repr

/-- What abandoned a route (R65). -/
inductive AbandonCause where
  | throwEnd (point : Nat) (cause : ThrowCause)
  | settingLimit
  | passedAtStop
  deriving DecidableEq, Repr

/-- Reasons of REQUEST DROPPED (R107). -/
inductive DropReason where
  | unfit
  | expired
  | cancelled
  | withdrawn
  | freeze
  | rehearsalEnd
  | abandoned
  deriving DecidableEq, Repr

/-- The route events handed to the stabling record, and a reset, as causes of berth changes (Table 5-1, Table 7-4). -/
inductive RouteEvent where
  | routeLocked
  | routeOpened
  | firstSectionCleared
  | freedNormally
  | freedBeforeEntry
  | freedAfterEntry
  | reset
  deriving DecidableEq, Repr

/-- Causes of a change of verification (R122). -/
inductive VerificationCause where
  | event (e : RouteEvent)
  | identity
  | census
  | freeze
  deriving DecidableEq, Repr

/-- Outcomes of gate reads (R115, R120, R121). -/
inductive ReadOutcome where
  | unreadable
  | repeated
  | discardedFull
  | returned
  | identity
  | queued
  | unread
  | unexpected
  | departedUnread
  | matched
  | mismatched
  deriving DecidableEq, Repr

/-- Where a gate read found a tram (Table 7-4). -/
inductive TramPlace where
  | arrivals
  | expected (left : Berth)
  | berth (b : Berth)
  deriving DecidableEq, Repr

/-- Causes of LINK STATE reports (R168). -/
inductive LinkCause where
  | answered
  | timeout
  | silence
  | badFrames
  | waitOver
  | retrain
  | disable
  | enable
  | commit
  | erase
  | reset
  deriving DecidableEq, Repr

/-- Causes of CONTROL MODE reports (R103). -/
inductive ModeCause where
  | takeControl
  | returnControl
  | sessionEnd
  | reset
  deriving DecidableEq, Repr

/-- What the sequencer is told of an automatic request or route (R78, Table 6-3). -/
inductive Fate where
  | taken
  | unfit
  | expired
  | cancelled
  | withdrawn
  | abandoned
  | freed
  deriving DecidableEq, Repr

/-- The reports of Table 12-3. -/
inductive ReportBody where
  | routeState (slot route : Nat) (origin : Origin) (tram : Option Nat) (before after : SlotState) (cause : RouteCause)
      (failed : FailedCondition) (aspectHeld : Bool) (claimed : List (Nat × Position))
  | requestQueued (route : Nat) (origin : Origin) (tram : Option Nat) (position queuedAt : Nat) (time : Option ServiceTime)
  | requestHeld (route : Nat) (origin : Origin) (tram : Option Nat) (bypass : Nat)
  | requestDropped (slot : Option Nat) (route : Nat) (origin : Origin) (tram : Option Nat) (bypass : Nat)
      (reason : DropReason) (cause : Option AbandonCause)
  | sectionReleased (slot route track count : Nat)
  | throwStarted (point : Nat) (target : Position) (origin : ThrowOrigin)
  | throwEnded (point : Nat) (target : Position) (cause : ThrowCause) (state : PointState) (attempts duration peak : Nat)
  | pointMoved (point : Nat) (position : Position)
  | pointDetected (point : Nat) (position : Position)
  | pointUse (point : Nat) (out : Bool)
  | sectionChanged (track : Nat) (old new : TrackState) (reservedBy : Option Nat)
  | signalChanged (signal : Nat) (commanded : Aspect) (reported : Option Aspect) (lamp : Option Lamp)
  | berthChanged (berth : Berth) (tram : Nat) (old new : Option BerthState) (cause : RouteEvent)
  | roadVerification (berth : Berth) (verified : Bool) (cause : VerificationCause)
  | roadSetting (berth : Berth) (closed : Bool)
  | censusDiff (berth : Berth) (added removed moved changed : List Nat)
  | gateRead (gate : Nat) (read : GateRead) (outcome : ReadOutcome) (tram : Option Nat) (place : Option TramPlace)
  | unknownTram (tram length cls : Nat) (departure : Option Nat)
  | clockSet (old : Option ServiceTime) (new : ServiceTime)
  | runOutState (tram : Nat) (departure : Option Nat) (old new : RunOutState) (readiness : Option Readiness)
  | arrivalAllocated (tram : Nat) (berth : Berth) (score : Option Nat) (mark : Option OrderMark)
  | noBerth (tram : Nat)
  | requestRefused (tram route : Nat) (reason : Reason)
  | fault (record : FaultRecord) (stored : Bool) (primary : Option Bool)
  | freezeEnded (number : Nat)
  | linkState (link : Nat) (old new : LinkState) (cause : LinkCause)
  | linkRetrained (link : Nat) (outcome : LinkState)
  | layoutLost
  | layoutCommitted (identity : Nat)
  | layoutErased
  | holdEnded
  | controlMode (mode : Mode) (cause : ModeCause)
  | planSilent
  | planRestored
  | faultListFull
  | rehearsalBegun
  | rehearsalEnded (s : Summary)
  | recordLost
  | settingsLost
  | registerLost
  deriving DecidableEq, Repr

/-- A report with its rehearsal marker (R173, R180). -/
structure Report where
  marker : Bool
  body : ReportBody
  deriving DecidableEq, Repr

/-- What the transmitter is sending (R179). -/
inductive Sent where
  | reply (r : Reply)
  | report (r : Report)
  deriving DecidableEq, Repr

/-- The sending half of a port: transmitter, waiting reply, report queue, report enables and OVERRUN flag (R179, R180). -/
structure PortOut where
  sending : Option Sent
  reply : Option Reply
  reports : List Report
  enables : Enables
  overrun : Bool
  deriving DecidableEq, Repr

/-- The receiving half of a port: the bytes of the frame being assembled, the receive buffer of frame bodies, and the three
editing permits (R177, R181). An empty `assembling` is a receiver that hunts. -/
structure PortIn where
  assembling : List Byte
  buffer : List (List Byte)
  layoutPermit : Bool
  settingsPermit : Bool
  recordPermit : Bool
  deriving DecidableEq, Repr

/-- One non-volatile store kept as two copies (R8): the one in use and the other; an absent copy is one whose check is not
good. -/
structure Store (α : Type) where
  latest : Option α
  earlier : Option α
  deriving DecidableEq, Repr

/-- A layout: the records held, each list in ascending number (R1, Table 1-1). -/
structure Layout where
  points : List PointRecord
  tracks : List TrackRecord
  signals : List SignalRecord
  roads : List RoadRecord
  headshunts : List HeadshuntRecord
  gates : List GateRecord
  routes : List RouteRecord
  deriving DecidableEq, Repr

/-- No records. -/
def Layout.empty : Layout := ⟨[], [], [], [], [], [], []⟩

/-- What the layout store keeps in non-volatile store (R8). -/
structure StoredLayout where
  identity : Nat
  layout : Layout
  deriving DecidableEq, Repr

/-- The staging area: its owner, the identity pair of LAYOUT BEGIN, whether the stored identity was erased then, and its
records (R9). -/
structure Staging where
  owner : Port
  expected : Nat
  fresh : Nat
  erasedThen : Bool
  layout : Layout
  deriving DecidableEq, Repr

/-- The layout store (Table 0-1). The conflict table lists the pairs of present routes, lower number first, that conflict. -/
structure LayoutStore where
  identity : Nat
  layout : Layout
  conflicts : List (Nat × Nat)
  staging : Option Staging
  kept : Store StoredLayout
  deriving DecidableEq, Repr

/-- The parameters of Table 12-4, in its order. -/
structure Params where
  throwTimeLimit : Nat
  obstruction : Nat
  openCircuit : Nat
  retries : Nat
  settingLimit : Nat
  emergencyTime : Nat
  requestExpiry : Nat
  bypassLimit : Nat
  berthGap : Nat
  emptyPenalty : Nat
  blockingPenalty : Nat
  inversionWeight : Nat
  lengthWeight : Nat
  blockingAllowed : Nat
  lead : Nat
  late : Nat
  modeAfterReset : Nat
  silenceLimit : Nat
  restartHold : Nat
  deriving DecidableEq, Repr

/-- The defaults of Table 12-4. -/
def Params.default : Params :=
  ⟨60, 45, 3, 2, 20, 120, 300, 3, 10, 240, 2000, 4, 10, 0, 4, 30, 0, 30, 120⟩

/-- The start-up options in force (R183). -/
structure Options where
  mode : Nat
  silence : Nat
  hold : Nat
  deriving DecidableEq, Repr

/-- The settings store (R182, R183). -/
structure Settings where
  stored : Params
  inForce : Options
  kept : Store Params
  deriving DecidableEq, Repr

/-- A tram register entry (R142). -/
structure RegisterEntry where
  tram : Nat
  length : Nat
  cls : Nat
  departure : Option Nat
  deriving DecidableEq, Repr

/-- The tram register with its non-volatile copies (R142). -/
structure Register where
  trams : List RegisterEntry
  kept : Store (List RegisterEntry)
  deriving DecidableEq, Repr

/-- Silence supervision of the plan port (R154): the limit in ms when armed, when the timer runs out, and the flag. -/
structure Silence where
  limit : Option Nat
  deadline : Nat
  silent : Bool
  deriving DecidableEq, Repr

/-- What the throat, the field and the ports' sending halves hold: everything that a field event or a route can change.
`linkSent` (the frames sent on the links since the last cold reset) and the two `want` marks are the model's own. -/
structure Plant where
  now : Nat
  planOut : PortOut
  deskOut : PortOut
  links : List Link
  linkSent : List (Nat × LinkFrame)
  yard : Yard
  session : Option Session
  slots : List Slot
  queue : List Request
  mode : Mode
  freeze : Option FreezeRecord
  hold : Option Nat
  permit : Option Nat
  silence : Silence
  noBerthTram : Option Nat
  keptRoads : Store (List Road)
  keptOutOfUse : Store (List Nat)
  wantScan : Bool
  wantRound : Bool
  deriving DecidableEq, Repr

/-- The state of the DY48. `pending` is the queue of commands that wait, first in, first out. `resetDue` stands from the
answer to a RESET telegram to the reset it causes (R184). -/
structure State where
  pending : List Instr
  store : LayoutStore
  settings : Settings
  register : Register
  planIn : PortIn
  deskIn : PortIn
  resetCause : ResetCause
  resetDue : Bool
  plant : Plant
  deriving DecidableEq, Repr

/-- Why the block stops. It never does: the description gives every command of the table an effect in every state, so the
type has no member and no command answers with a fault. Safe. -/
inductive Fault where
  deriving DecidableEq, Repr

/-- Why a command has no meaning in the model. -/
inductive Refusal where
  /-- Raised by an arm of `exec` whose command has no meaning yet; no arm is left so. Safe. -/
  | notModelled (mnemonic : String)
  deriving DecidableEq, Repr

/-- A sending half after a reset: queue empty, every enable set, OVERRUN clear (R180). -/
def PortOut.reset : PortOut :=
  { sending := none, reply := none, reports := [],
    enables := ⟨true, true, true, true, true, true, true, true, true⟩, overrun := false }

/-- A receiving half after a reset: buffer empty, every permit closed (R177, R181). -/
def PortIn.reset : PortIn :=
  { assembling := [], buffer := [], layoutPermit := false, settingsPermit := false, recordPermit := false }

/-- The service clock UNSET, shown as 0:00 (R144). -/
def Clock.unset : Clock := ⟨false, 0, 0, 0⟩

/-- A yard with no element, no tram, no plan and no fault; the next fault number is 1 (R157). -/
def Yard.empty : Yard :=
  { points := [], tracks := [], signals := [], readers := [], roads := [], arrivals := [], expectations := [],
    runOut := [], faults := ⟨[], 1, false⟩, clock := .unset }

/-- The four links in TRAINING with a fresh window at time `now`, a training request just sent (R168). -/
def freshLinks (now : Nat) : List Link :=
  [1, 2, 3, 4].map fun n => ⟨n, .training, now + Config.trainingWindow, now, now, 0, false⟩

/-- The eight slots, FREE (R76). -/
def freeSlots : List Slot := [1, 2, 3, 4, 5, 6, 7, 8].map Slot.free

/-- The machine right after a cold reset of a factory-new part: erased identity, no layout, defaults in the settings store,
an empty register, both copies of every store good (R8; notes/assumptions/3). The restart hold and the silence timer have
just started, and each link is TRAINING. -/
def State.reset : State where
  pending := []
  store :=
    { identity := Config.erasedIdentity, layout := .empty, conflicts := [], staging := none,
      kept := ⟨some ⟨Config.erasedIdentity, .empty⟩, some ⟨Config.erasedIdentity, .empty⟩⟩ }
  settings := { stored := .default, inForce := ⟨0, 30, 120⟩, kept := ⟨some .default, some .default⟩ }
  register := { trams := [], kept := ⟨some [], some []⟩ }
  planIn := .reset
  deskIn := .reset
  resetCause := .cold
  resetDue := false
  plant :=
    { now := 0, planOut := .reset, deskOut := .reset, links := freshLinks 0,
      linkSent := [(1, .trainingRequest 1), (2, .trainingRequest 2), (3, .trainingRequest 3), (4, .trainingRequest 4)],
      yard := .empty, session := none, slots := freeSlots, queue := [], mode := .manual, freeze := none,
      hold := some 120000, permit := none, silence := ⟨some 30000, 30000, false⟩, noBerthTram := none,
      keptRoads := ⟨some [], some []⟩, keptOutOfUse := ⟨some [], some []⟩, wantScan := false, wantRound := false }

end Sys2Proof.Machine
end

