-- ==== Sys2Proof/Machine/Keyed.lean ====
section
/-! DEFINITION. Tables kept as lists under a number: find, update, put in ascending order, remove. -/

namespace Sys2Proof.Machine

/-- The item of number `n`, if the table holds one. -/
def findBy {α : Type} (key : α → Nat) (n : Nat) (l : List α) : Option α := l.find? fun x => key x == n

/-- The table with the item of number `n` changed by `f`. -/
def updBy {α : Type} (key : α → Nat) (n : Nat) (f : α → α) (l : List α) : List α :=
  l.map fun x => if key x == n then f x else x

/-- The table with `x` in place of any item of the same number, in ascending order of number. -/
def putBy {α : Type} (key : α → Nat) (x : α) : List α → List α
  | [] => [x]
  | y :: ys =>
    if key x < key y then x :: y :: ys
    else if key x = key y then x :: ys
    else y :: putBy key x ys

/-- The table without the item of number `n`. -/
def delBy {α : Type} (key : α → Nat) (n : Nat) (l : List α) : List α := l.filter fun x => key x != n

/-- A new value written to a non-volatile store, into the copy not in use (R8). -/
def Store.write {α : Type} (s : Store α) (v : α) : Store α := ⟨some v, s.latest⟩

/-- The store as a cold reset finds it with the given checks: a copy whose check is not good is gone, and the latest good
copy is the one in use (R8). -/
def Store.load {α : Type} (s : Store α) (c : CopyChecks) : Store α :=
  match s.latest, c.latest with
  | some v, true => ⟨some v, if c.earlier then s.earlier else none⟩
  | _, _ => ⟨if c.earlier then s.earlier else none, none⟩

end Sys2Proof.Machine
end

