-- ==== Sys2Proof/Machine/Operands.lean ====
section
/-! DEFINITION. Operands of the commands judged against the layout: records under their keys, routes, their kinds, elements and
conflicts (chapter 1), ranges of Table 1-1 and of Table 12-4, and clamping. -/

namespace Sys2Proof.Machine

open Sys2Proof

/-! ## Records under their keys -/

/-- The POINT record of a number (R1). -/
def Layout.point? (l : Layout) (n : Nat) : Option PointRecord := findBy PointRecord.number n l.points

/-- The SECTION record of a number. -/
def Layout.track? (l : Layout) (n : Nat) : Option TrackRecord := findBy TrackRecord.number n l.tracks

/-- The SIGNAL record of a number. -/
def Layout.signal? (l : Layout) (n : Nat) : Option SignalRecord := findBy SignalRecord.number n l.signals

/-- The ROAD record of a number. -/
def Layout.road? (l : Layout) (n : Nat) : Option RoadRecord := findBy RoadRecord.number n l.roads

/-- The HEADSHUNT record of a number. -/
def Layout.headshunt? (l : Layout) (n : Nat) : Option HeadshuntRecord := findBy HeadshuntRecord.number n l.headshunts

/-- The GATE record of a number. -/
def Layout.gate? (l : Layout) (n : Nat) : Option GateRecord := findBy GateRecord.number n l.gates

/-- The ROUTE record of a number. -/
def Layout.route? (l : Layout) (n : Nat) : Option RouteRecord := findBy RouteRecord.number n l.routes

/-- The record held under a key. -/
def Layout.record? (l : Layout) : Key → Option LayoutRecord
  | .point n => (l.point? n).map .point
  | .track n => (l.track? n).map .track
  | .signal n => (l.signal? n).map .signal
  | .road n => (l.road? n).map .road
  | .headshunt n => (l.headshunt? n).map .headshunt
  | .gate n => (l.gate? n).map .gate
  | .route n => (l.route? n).map .route

/-- Whether a berth road is present (R1). -/
def Layout.hasBerth (l : Layout) : Berth → Bool
  | .road n => (l.road? n).isSome
  | .headshunt n => (l.headshunt? n).isSome

/-- Every berth road present: the stabling roads, then the headshunts. -/
def Layout.berths (l : Layout) : List Berth :=
  l.roads.map (fun r => .road r.number) ++ l.headshunts.map (fun h => .headshunt h.number)

/-- A record as the store holds it: a release time left unstated is 60 s (Table 1-2), and a G2 record holds its link alone
(R4). -/
def normalRecord : LayoutRecord → LayoutRecord
  | .route r => .route { r with releaseTime := some (r.releaseTime.getD 60) }
  | .gate g => .gate (if g.number = 2 then { g with signal := none, approach := none } else g)
  | r => r

/-- A record placed under its key (R11). -/
def Layout.put (l : Layout) (r : LayoutRecord) : Layout :=
  match normalRecord r with
  | .point x => { l with points := putBy PointRecord.number x l.points }
  | .track x => { l with tracks := putBy TrackRecord.number x l.tracks }
  | .signal x => { l with signals := putBy SignalRecord.number x l.signals }
  | .road x => { l with roads := putBy RoadRecord.number x l.roads }
  | .headshunt x => { l with headshunts := putBy HeadshuntRecord.number x l.headshunts }
  | .gate x => { l with gates := putBy GateRecord.number x l.gates }
  | .route x => { l with routes := putBy RouteRecord.number x l.routes }

/-- The record of a key deleted (R11). -/
def Layout.remove (l : Layout) : Key → Layout
  | .point n => { l with points := delBy PointRecord.number n l.points }
  | .track n => { l with tracks := delBy TrackRecord.number n l.tracks }
  | .signal n => { l with signals := delBy SignalRecord.number n l.signals }
  | .road n => { l with roads := delBy RoadRecord.number n l.roads }
  | .headshunt n => { l with headshunts := delBy HeadshuntRecord.number n l.headshunts }
  | .gate n => { l with gates := delBy GateRecord.number n l.gates }
  | .route n => { l with routes := delBy RouteRecord.number n l.routes }

/-! ## Ranges of the numbers (Table 1-1) -/

/-- A number within 1 to `hi`. -/
def inRange (hi n : Nat) : Bool := 1 ≤ n && n ≤ hi

/-- A point number with a position, in range. -/
def pointsInRange (l : List (Nat × Position)) : Bool := l.all fun x => inRange 32 x.1

/-- An endpoint whose number is in range. -/
def endpointInRange : Endpoint → Bool
  | .g1 => true
  | .g2 => true
  | .berth (.road n) => inRange 16 n
  | .berth (.headshunt n) => inRange 2 n

/-- An optional number that is in range when given. -/
def optionInRange (hi : Nat) (n : Option Nat) : Bool := n.all (inRange hi)

/-- Whether every number of a record, in its key and its fields, is in its range (R11). -/
def recordNumbersInRange : LayoutRecord → Bool
  | .point r => inRange 32 r.number && inRange 4 r.link && inRange 48 r.track
  | .track r => inRange 48 r.number && inRange 4 r.link
  | .signal r => inRange 24 r.number && inRange 4 r.link
  | .road r => inRange 16 r.number && optionInRange 24 r.signal && optionInRange 48 r.entry
  | .headshunt r => inRange 2 r.number && optionInRange 24 r.signal && optionInRange 48 r.entry
  | .gate r => inRange 2 r.number && optionInRange 24 r.signal && optionInRange 48 r.approach && inRange 4 r.link
  | .route r =>
    inRange 96 r.number && endpointInRange r.source && endpointInRange r.target && inRange 24 r.signal &&
      pointsInRange r.points && pointsInRange r.flanks && r.tracks.all (inRange 48) && optionInRange 48 r.approach

/-- Whether the values that chapter 1 bounds are within their ranges: usable length and class mask (R3), release time and
list lengths (R5). -/
def recordValuesInRange : LayoutRecord → Bool
  | .road r => 200 ≤ r.usable && r.usable ≤ 2400 && r.classMask != 0
  | .route r =>
    r.releaseTime.all (fun t => 10 ≤ t && t ≤ 240) && r.points.length ≤ 8 && r.flanks.length ≤ 4 &&
      r.tracks.length ≤ 8
  | _ => true

/-- What refuses a PUT for the record itself, if anything (R11). -/
def recordRefusal (r : LayoutRecord) : Option Reason :=
  if !recordNumbersInRange r then some .unknownItem
  else if !recordValuesInRange r then some .malformed
  else none

/-! ## Routes -/

/-- The kind of a route, from its endpoint pair (R6, Table 1-3); absent for an invalid pair. -/
def kindOf : Endpoint → Endpoint → Option RouteKind
  | .g1, .berth (.road _) => some .arrival
  | .g1, .berth (.headshunt _) => some .arrivalToHeadshunt
  | .berth (.road _), .g2 => some .departure
  | .berth (.headshunt _), .g2 => some .departureFromHeadshunt
  | .berth (.road _), .berth (.headshunt _) => some .shuntOut
  | .berth (.headshunt _), .berth (.road _) => some .shuntIn
  | _, _ => none

end Sys2Proof.Machine

namespace Sys2Proof

open Sys2Proof.Machine

/-- The kind of a route record. -/
def RouteRecord.kind (r : RouteRecord) : Option RouteKind := kindOf r.source r.target

end Sys2Proof

namespace Sys2Proof.Machine

open Sys2Proof

/-- A kind of route that starts from G1. -/
def RouteKind.fromGate : RouteKind → Bool
  | .arrival => true
  | .arrivalToHeadshunt => true
  | _ => false

end Sys2Proof.Machine

namespace Sys2Proof

open Sys2Proof.Machine

/-- The berth road of an endpoint. -/
def Endpoint.berth? : Endpoint → Option Berth
  | .berth b => some b
  | _ => none

/-- The berth roads a route names: its from and its to endpoint where they are berth roads (R108). -/
def RouteRecord.berths (r : RouteRecord) : List Berth := r.source.berth?.toList ++ r.target.berth?.toList

/-- Whether a route names a berth road (R108). -/
def RouteRecord.names (r : RouteRecord) (b : Berth) : Bool := r.berths.contains b

/-- The points a route requires, path points first (R60). -/
def RouteRecord.required (r : RouteRecord) : List (Nat × Position) := r.points ++ r.flanks

/-- The position a route requires of a point, if it names it. -/
def RouteRecord.position? (r : RouteRecord) (pt : Nat) : Option Position := (r.required.find? fun x => x.1 == pt).map (·.2)

/-- The release time of a route in seconds (Table 1-2). -/
def RouteRecord.releaseSeconds (r : RouteRecord) : Nat := r.releaseTime.getD 60

end Sys2Proof

namespace Sys2Proof.Machine

open Sys2Proof

/-- The approach section that R87 reads: the route's own, or that of the G1 gate record for a route from G1 (R4). -/
def Layout.approachOf (l : Layout) (r : RouteRecord) : Option Nat :=
  match r.approach with
  | some t => some t
  | none => if r.source = .g1 then (l.gate? 1).bind GateRecord.approach else none

/-- The signal of an endpoint from which routes start (R6). -/
def Layout.signalOf (l : Layout) : Endpoint → Option Nat
  | .g1 => (l.gate? 1).bind GateRecord.signal
  | .berth (.road n) => (l.road? n).bind RoadRecord.signal
  | .berth (.headshunt n) => (l.headshunt? n).bind HeadshuntRecord.signal
  | .g2 => none

/-- The entry section of a berth road. -/
def Layout.entryOf (l : Layout) : Berth → Option Nat
  | .road n => (l.road? n).bind RoadRecord.entry
  | .headshunt n => (l.headshunt? n).bind HeadshuntRecord.entry

end Sys2Proof.Machine

namespace Sys2Proof

open Sys2Proof.Machine

/-- Whether two routes share a section, share an entry signal, or require one point in opposite positions (R7). -/
def RouteRecord.clashes (a b : RouteRecord) : Bool :=
  a.tracks.any (fun t => b.tracks.contains t) || a.signal == b.signal ||
    a.required.any (fun x => b.required.any fun y => x.1 == y.1 && x.2 == y.2.opposite)

end Sys2Proof

namespace Sys2Proof.Machine

open Sys2Proof

/-- The conflict table of a route table: every pair of present routes that conflict, each route with itself (R7). -/
def deriveConflicts (routes : List RouteRecord) : List (Nat × Nat) :=
  routes.flatMap fun a =>
    (routes.filter fun b => a.number == b.number || (a.number < b.number && a.clashes b)).map
      fun b => (a.number, b.number)

/-- Whether the conflict table holds a pair of routes. -/
def inConflict (table : List (Nat × Nat)) (a b : Nat) : Bool := table.contains (if a ≤ b then (a, b) else (b, a))

end Sys2Proof.Machine

namespace Sys2Proof

open Sys2Proof.Machine

/-- The elements of a route: its entry signal, its points and its sections (R130). -/
def RouteRecord.elements (r : RouteRecord) : List FaultElement :=
  .signal r.signal :: r.required.map (fun x => .point x.1) ++ r.tracks.map .track

end Sys2Proof

namespace Sys2Proof.Machine

open Sys2Proof

/-- The field link of an element (R2, R4). -/
def Layout.linkOf (l : Layout) : FaultElement → Option Nat
  | .point n => (l.point? n).map PointRecord.link
  | .track n => (l.track? n).map TrackRecord.link
  | .signal n => (l.signal? n).map SignalRecord.link
  | .reader g => (l.gate? g).map GateRecord.link
  | .link n => some n

/-- Whether a route has an element on a link (R171). -/
def Layout.routeUsesLink (l : Layout) (r : RouteRecord) (link : Nat) : Bool :=
  r.elements.any fun e => l.linkOf e == some link

/-! ## The environment: what the blocks read and no cascade of theirs changes -/

/-- The layout, the settings and the tram register as the other blocks read them. -/
structure Env where
  layout : Layout
  conflicts : List (Nat × Nat)
  held : Bool
  params : Params
  options : Options
  register : List RegisterEntry
  deriving DecidableEq, Repr

/-- Whether a layout is held: the identity is not the erased one (R8). -/
def LayoutStore.held (s : LayoutStore) : Bool := s.identity != Config.erasedIdentity

/-- The environment of a state. -/
def State.env (s : State) : Env :=
  { layout := s.store.layout, conflicts := s.store.conflicts, held := s.store.held, params := s.settings.stored,
    options := s.settings.inForce, register := s.register.trams }

/-- The register entry of a tram (R142). -/
def Env.tram? (e : Env) (n : Nat) : Option RegisterEntry := findBy RegisterEntry.tram n e.register

/-- Whether two routes conflict (R7). -/
def Env.conflict (e : Env) (a b : Nat) : Bool := inConflict e.conflicts a b

/-! ## Values as telegrams carry them -/

/-- A value taken at the nearer end of its range. -/
def clampTo (lo hi v : Nat) : Nat := if v < lo then lo else if hi < v then hi else v

/-- A departure as carried: 65535 is NONE, and 2160 to 65534 is taken as 2159 (R142, R147). -/
def departureOf (v : Nat) : Option Nat := if v = Config.departureNone then none else some (min v Config.lastMinute)

/-- Whether a departure as carried is changed by being taken (R142, R147). -/
def departureClamped (v : Nat) : Bool := Config.lastMinute < v && v != Config.departureNone

/-- A register entry from the fields of TRAM ENTRY (R142). -/
def registerEntryOf (f : TramFields) : RegisterEntry :=
  { tram := f.tram, length := clampTo 100 450 f.length, cls := f.cls, departure := departureOf f.departure }

/-- Whether taking the fields in changes a value (R142). -/
def tramFieldsClamped (f : TramFields) : Bool := f.length < 100 || 450 < f.length || departureClamped f.departure

/-- A tram number in 1 to 9999. -/
def tramInRange (n : Nat) : Bool := inRange 9999 n

/-- No number twice. -/
def noRepeat (l : List Nat) : Bool :=
  match l with
  | [] => true
  | x :: xs => !xs.contains x && noRepeat xs

end Sys2Proof.Machine

namespace Sys2Proof

open Sys2Proof.Machine

/-- A read as the element table takes it: a number outside 1 to 9999 is UNREADABLE (R52). -/
def GateRead.taken : GateRead → GateRead
  | .tram n => if tramInRange n then .tram n else .unreadable
  | .unreadable => .unreadable

end Sys2Proof

namespace Sys2Proof.Machine

open Sys2Proof

/-! ## Parameters (Table 12-4) -/

/-- The stored value of a parameter number. -/
def Params.get (p : Params) : Nat → Option Nat
  | 1 => some p.throwTimeLimit
  | 2 => some p.obstruction
  | 3 => some p.openCircuit
  | 4 => some p.retries
  | 5 => some p.settingLimit
  | 6 => some p.emergencyTime
  | 7 => some p.requestExpiry
  | 8 => some p.bypassLimit
  | 9 => some p.berthGap
  | 10 => some p.emptyPenalty
  | 11 => some p.blockingPenalty
  | 12 => some p.inversionWeight
  | 13 => some p.lengthWeight
  | 14 => some p.blockingAllowed
  | 15 => some p.lead
  | 16 => some p.late
  | 17 => some p.modeAfterReset
  | 18 => some p.silenceLimit
  | 19 => some p.restartHold
  | _ => none

/-- The parameters with one value written. -/
def Params.set (p : Params) (v : Nat) : Nat → Params
  | 1 => { p with throwTimeLimit := v }
  | 2 => { p with obstruction := v }
  | 3 => { p with openCircuit := v }
  | 4 => { p with retries := v }
  | 5 => { p with settingLimit := v }
  | 6 => { p with emergencyTime := v }
  | 7 => { p with requestExpiry := v }
  | 8 => { p with bypassLimit := v }
  | 9 => { p with berthGap := v }
  | 10 => { p with emptyPenalty := v }
  | 11 => { p with blockingPenalty := v }
  | 12 => { p with inversionWeight := v }
  | 13 => { p with lengthWeight := v }
  | 14 => { p with blockingAllowed := v }
  | 15 => { p with lead := v }
  | 16 => { p with late := v }
  | 17 => { p with modeAfterReset := v }
  | 18 => { p with silenceLimit := v }
  | 19 => { p with restartHold := v }
  | _ => p

/-- The range of a parameter number (Table 12-4); the ends of parameter 18 are those apart from OFF. -/
def paramRange : Nat → Nat × Nat
  | 1 => (20, 150)
  | 2 => (10, 100)
  | 3 => (1, 10)
  | 4 => (0, 3)
  | 5 => (5, 60)
  | 6 => (30, 300)
  | 7 => (60, 900)
  | 8 => (1, 8)
  | 9 => (0, 50)
  | 10 => (0, 2160)
  | 11 => (0, 20000)
  | 12 => (1, 16)
  | 13 => (0, 100)
  | 14 => (0, 1)
  | 15 => (0, 30)
  | 16 => (0, 120)
  | 17 => (0, 1)
  | 18 => (5, 120)
  | 19 => (30, 600)
  | _ => (0, 0)

/-- A parameter value as SET PARAMETER takes it in (R182): at the nearer end of the range, and for parameter 18 with 0 kept as
OFF. -/
def paramTaken (n v : Nat) : Nat :=
  if n = 18 && v = 0 then 0 else clampTo (paramRange n).1 (paramRange n).2 v

/-- The start-up option in force of a parameter number (R182). -/
def Options.get (o : Options) : Nat → Option Nat
  | 17 => some o.mode
  | 18 => some o.silence
  | 19 => some o.hold
  | _ => none

/-- The start-up options read from the stored values (R183). -/
def Params.options (p : Params) : Options := ⟨p.modeAfterReset, p.silenceLimit, p.restartHold⟩

end Sys2Proof.Machine
end

