-- ==== Sys2Proof/Machine/Flags.lean ====
section
/-! DEFINITION. The conditions and flags that the rules ask of the state: yard in force, freeze, hold, yard mode, quiescence,
slots in use, links, element states, timers, and the codes and classes of kinds. -/

namespace Sys2Proof

open Sys2Proof.Machine

/-- The point state of a detected position. -/
def Position.state : Position → PointState
  | .normal => .normal
  | .reverse => .reverse

/-- The section state of a reported condition (R42). -/
def Occupancy.state : Occupancy → TrackState
  | .clear => .clear
  | .occupied => .occupied
  | .disturbed => .disturbed

end Sys2Proof

namespace Sys2Proof.Machine

open Sys2Proof

/-! ## The yard in force -/

/-- The tables that telegrams, slots and the sequencer work on: the copies during a session (R173). -/
def Plant.active (p : Plant) : Side := if p.session.isSome then .copy else .real

/-- The tables of a side. Without a session there is one side. -/
def Plant.yardOf (p : Plant) : Side → Yard
  | .real => p.yard
  | .copy =>
    match p.session with
    | some c => c.copy
    | none => p.yard

/-- The plant with the tables of a side replaced. -/
def Plant.setYard (p : Plant) (sd : Side) (y : Yard) : Plant :=
  match sd with
  | .real => { p with yard := y }
  | .copy =>
    match p.session with
    | some c => { p with session := some { c with copy := y } }
    | none => { p with yard := y }

/-- The plant with the tables of a side changed. -/
def Plant.mapYard (p : Plant) (sd : Side) (f : Yard → Yard) : Plant := p.setYard sd (f (p.yardOf sd))

/-- The tables in force. -/
def Plant.current (p : Plant) : Yard := p.yardOf p.active

/-- The time base of a side, in ms (R93, R173). -/
def Plant.base (p : Plant) : Side → Nat
  | .real => p.now
  | .copy =>
    match p.session with
    | some c => c.base
    | none => p.now

/-- Milliseconds of the part's own time base that pass while a side's time base moves on by `ms` (R172). -/
def Plant.ownTime (p : Plant) (sd : Side) (ms : Nat) : Nat :=
  match sd, p.session with
  | .copy, some c => if c.rate = 0 then 0 else (ms + (c.rate - 1)) / c.rate
  | _, _ => ms

/-- The service time of a clock, absent when UNSET. -/
def Clock.time (c : Clock) : Option ServiceTime := if c.set then some ⟨c.minute, c.second⟩ else none

/-- The service time of a side. -/
def Plant.time (p : Plant) (sd : Side) : Option ServiceTime := (p.yardOf sd).clock.time

/-! ## Elements under their numbers -/

/-- The point of a number. -/
def Yard.point? (y : Yard) (n : Nat) : Option Point := findBy Point.number n y.points

/-- The section of a number. -/
def Yard.track? (y : Yard) (n : Nat) : Option Track := findBy Track.number n y.tracks

/-- The signal of a number. -/
def Yard.signal? (y : Yard) (n : Nat) : Option Signal := findBy Signal.number n y.signals

/-- The reader of a gate. -/
def Yard.reader? (y : Yard) (n : Nat) : Option Reader := findBy Reader.gate n y.readers

/-- The record of a berth road (R108). -/
def Yard.road? (y : Yard) (b : Berth) : Option Road := y.roads.find? fun r => r.berth == b

/-- The state of a section; one that has no record is UNKNOWN. -/
def Yard.trackState (y : Yard) (n : Nat) : TrackState :=
  match y.track? n with
  | some t => t.state
  | none => .unknown

/-- Whether the table holds a section CLEAR; the rules ask `Plant.trackClear`. -/
def Yard.trackClear (y : Yard) (n : Nat) : Bool := y.trackState n == .clear

/-- A section state that shows a tram: OCCUPIED or DISTURBED (R71, R79). -/
def TrackState.shows : TrackState → Bool
  | .occupied => true
  | .disturbed => true
  | _ => false

/-- Whether a point has a throw in progress (Table 2-2). -/
def Point.throwing (x : Point) : Bool := x.throw.isSome

/-- Whether a point is detected in a position: its last detection report said so, and it is neither UNKNOWN nor FAILED (2.1, Table
2-2). A point in RETRY_WAIT is detected in its restore position. -/
def Point.isDetected (x : Point) (pos : Position) : Bool :=
  x.detected == some pos && x.state != .unknown && x.state != .failed

/-- Whether a point lies in a position (Table 2-2). -/
def Point.lies (x : Point) (pos : Position) : Bool := x.state == pos.state

/-- The point state to which an interrupted drive leaves a point: its detected position, or FAILED (R28, R29, R32, R34). -/
def Point.rest (x : Point) : PointState :=
  match x.detected with
  | some pos => pos.state
  | none => .failed

/-- The position in which a lock set holds its point (Table 2-1). -/
def Point.lockedAt (x : Point) : Option Position := x.locks.head?.map Lock.position

/-- Whether the last report for a signal answered its newest command (R47). -/
def Signal.isCurrent (g : Signal) : Bool := g.answered == some g.command

/-! ## Links -/

/-- The link of a number. -/
def Plant.link? (p : Plant) (n : Nat) : Option Link := findBy Link.number n p.links

/-- Whether a link is UP (R168). -/
def Plant.linkUp (p : Plant) (n : Nat) : Bool := (p.link? n).any fun l => l.state == .up

/-- Whether a side takes a link as UP: in the copies every link is (R173). -/
def Plant.linkUpFor (p : Plant) (sd : Side) (n : Nat) : Bool :=
  match sd with
  | .real => p.linkUp n
  | .copy => p.session.isSome || p.linkUp n

/-- Whether the link of an element is UP for a side. -/
def Plant.elementUp (p : Plant) (env : Env) (sd : Side) (e : FaultElement) : Bool :=
  (env.layout.linkOf e).any fun n => p.linkUpFor sd n

/-- Whether a section is CLEAR, as every rule that asks it means it: its state is CLEAR and its link is UP. A section that a commit
kept has its state while its link trains (R16), and holds points and routes all the same (R41; notes/assumptions/9). -/
def Plant.trackClear (env : Env) (p : Plant) (sd : Side) (n : Nat) : Bool :=
  (p.yardOf sd).trackClear n && p.elementUp env sd (.track n)

/-- Whether a point lies in a position on a link that is UP, as taking and opening a route ask it: a point on another link is UNKNOWN
(Table 2-2; notes/assumptions/9). -/
def Plant.pointLies (env : Env) (p : Plant) (sd : Side) (x : Point) (pos : Position) : Bool :=
  x.lies pos && p.elementUp env sd (.point x.number)

/-! ## Freeze, hold, mode -/

/-- The freeze state (R161). -/
def Plant.frozen (p : Plant) : Bool := p.freeze.isSome

/-- Whether the restart hold runs (R75). -/
def Plant.holding (p : Plant) : Bool := p.hold.isSome

/-- The hold remaining, in whole seconds begun; 0 when none runs (R185; notes/assumptions/65). -/
def Plant.holdSeconds (p : Plant) : Nat :=
  match p.hold with
  | some e => (e - p.now + 999) / 1000
  | none => 0

/-- The yard mode (R8, R75, R161, R172). -/
def Plant.yardMode (p : Plant) (held : Bool) : YardMode :=
  if p.frozen then .frozen
  else if p.session.isSome then .rehearsal
  else if !held then .uncommissioned
  else if p.holding then .hold
  else .normal

/-- Whether a port holds route authority (R103). -/
def Plant.hasAuthority (p : Plant) : Port → Bool
  | .plan => p.mode == .automatic
  | .desk => p.mode == .manual

/-- The origin of a request sent on a port (R96). -/
def originOf : Port → Origin
  | .plan => .plan
  | .desk => .desk

/-! ## Slots and queue -/

/-- Whether a slot is in use (R56). -/
def Slot.inUse (sl : Slot) : Bool := sl.state != .free

/-- The slots in use. -/
def Plant.used (p : Plant) : List Slot := p.slots.filter Slot.inUse

/-- The slot of a number. -/
def Plant.slot? (p : Plant) (n : Nat) : Option Slot := findBy Slot.number n p.slots

/-- The slots in use as a side sees them: during a session they are the copies' alone (R173). -/
def Plant.usedFor (p : Plant) (sd : Side) : List Slot := if sd == p.active then p.used else []

/-- The slot in use that holds a route. -/
def Plant.slotOfRoute (p : Plant) (route : Nat) : Option Slot := p.used.find? fun sl => sl.route == some route

/-- The record of the route a slot holds. -/
def Env.slotRoute (e : Env) (sl : Slot) : Option RouteRecord := sl.route.bind e.layout.route?

/-- The slot in use whose entry signal is the given one (R49). -/
def Plant.slotOfSignal (p : Plant) (env : Env) (n : Nat) : Option Slot :=
  p.used.find? fun sl => (env.slotRoute sl).any fun r => r.signal == n

/-- Whether a slot in use names a berth road (R108). -/
def Plant.slotNames (p : Plant) (env : Env) (b : Berth) : Bool :=
  p.used.any fun sl => (env.slotRoute sl).any fun r => r.names b

/-- Whether a queued request names a berth road (R108). -/
def Plant.queueNames (p : Plant) (env : Env) (b : Berth) : Bool :=
  p.queue.any fun q => (env.layout.route? q.route).any fun r => r.names b

/-- Throws in progress on a side. -/
def Yard.throws (y : Yard) : Nat := (y.points.filter Point.throwing).length

/-- Whether the yard is quiescent (R14). -/
def Plant.quiescent (p : Plant) : Bool := p.used.isEmpty && p.queue.isEmpty && p.current.throws == 0

/-- No set mark lies after a clear one (R83). -/
def marksInSequence : List Bool → Bool
  | [] => true
  | true :: rest => marksInSequence rest
  | false :: rest => !rest.contains true

/-- Whether the first route section has been occupied during the route (R55). -/
def Slot.firstMarked (sl : Slot) : Bool := sl.marks.head?.getD false

/-- A slot whose route carries an ARRIVING entry that keeps its place in the arrival queue's count: a route from G1, its first
section not yet occupied (R110). -/
def Slot.keepsPlace (sl : Slot) : Bool :=
  sl.inUse && (sl.kind.any RouteKind.fromGate) && !sl.firstMarked

/-! ## Timers -/

/-- A running timer stopped at the time remaining (R93). -/
def Timer.hold (now : Nat) : Timer → Timer
  | .running e => .held (e - now)
  | t => t

/-- When a running timer expires. -/
def Timer.expiry? : Timer → Option Nat
  | .running e => some e
  | _ => none

/-- When a request expires; absent while a freeze holds its expiry (R101). -/
def Request.expiry? (r : Request) : Option Nat := if r.stopped.isSome then none else some r.expiry

/-- The time remaining to a request's expiry at a time, or the time held when the yard is frozen (R101, R107). -/
def Request.remaining (r : Request) (now : Nat) : Nat := r.stopped.getD (r.expiry - now)

/-- A request whose expiry is held at the time remaining (R101). -/
def Request.stop (now : Nat) (r : Request) : Request := { r with stopped := some (r.remaining now) }

/-! ## Kinds, classes, codes -/

/-- The class of a fault kind (Table 10-1). -/
def FaultKind.cls : FaultKind → FaultClass
  | .throwRetried => .corrected
  | .pointTrailed => .yard
  | .wrongAspect => .yard
  | .allStop => .yard
  | _ => .element

/-- The code of a telegram kind (Table 12-1). -/
def TelegramKind.code : TelegramKind → Byte
  | .status => 0x01
  | .setClock => 0x02
  | .takeControl => 0x03
  | .returnControl => 0x04
  | .reset => 0x05
  | .openPermit => 0x06
  | .closePermit => 0x07
  | .setParameter => 0x08
  | .readParameter => 0x09
  | .setReporting => 0x0A
  | .requestRoute => 0x10
  | .cancelRoute => 0x11
  | .grantReleasePermit => 0x12
  | .emergencyRelease => 0x13
  | .throwPoint => 0x14
  | .pointUse => 0x15
  | .allStop => 0x16
  | .freezeAcknowledge => 0x17
  | .readRoutes => 0x18
  | .readElement => 0x19
  | .tramEntry => 0x20
  | .tramRemove => 0x21
  | .runOutPlan => 0x22
  | .runOutClear => 0x23
  | .readRunOut => 0x24
  | .allocateQuery => 0x25
  | .readRoad => 0x26
  | .roadCensus => 0x27
  | .roadCloseOpen => 0x28
  | .readArrivals => 0x29
  | .readFault => 0x30
  | .clearFault => 0x31
  | .layoutBegin => 0x40
  | .layoutRecord => 0x41
  | .layoutCommit => 0x42
  | .layoutAbandon => 0x43
  | .layoutErase => 0x44
  | .readLayout => 0x45
  | .linkRetrain => 0x50
  | .linkDisableEnable => 0x51
  | .rehearsalBegin => 0x60
  | .rehearsalEnd => 0x61
  | .rehearsalAct => 0x62

/-- Whether a kind is taken while the yard is frozen (R164, Table 12-1). ROAD CENSUS is not (R123, Table 7-5), though R141 speaks of
a census while frozen (notes/assumptions/56). -/
def TelegramKind.takenFrozen : TelegramKind → Bool
  | .status => true
  | .takeControl => true
  | .reset => true
  | .readParameter => true
  | .freezeAcknowledge => true
  | .readRoutes => true
  | .readElement => true
  | .readRunOut => true
  | .readRoad => true
  | .readArrivals => true
  | .readFault => true
  | .clearFault => true
  | .readLayout => true
  | _ => false

/-- The kinds taken while the yard is frozen (R164). -/
def frozenKinds : List TelegramKind :=
  [.status, .takeControl, .reset, .readParameter, .freezeAcknowledge, .readRoutes, .readElement, .readRunOut, .readRoad,
    .readArrivals, .readFault, .clearFault, .readLayout]

/-- The kind byte of the reply to a request of a kind byte (R179). -/
def replyKind (k : Byte) : Byte := if 0x80 ≤ k.toNat then 0xFF else k + 0x80

/-- The code of a refusal reason (Table 12-2). -/
def Reason.code : Reason → Byte
  | .notAuthority => 0x01
  | .noPermit => 0x02
  | .frozen => 0x03
  | .hold => 0x04
  | .queueFull => 0x05
  | .duplicate => 0x06
  | .unknownItem => 0x07
  | .notQuiescent => 0x08
  | .stillPresent => 0x09
  | .state => 0x0A
  | .length => 0x0B
  | .unfit => 0x0C
  | .closed => 0x0D
  | .noTram => 0x0E
  | .inUse => 0x0F
  | .busy => 0x10
  | .noLayout => 0x11
  | .layoutMismatch => 0x12
  | .rehearsal => 0x13
  | .malformed => 0x14

/-- The class of a report (Table 12-3). -/
inductive ReportClass where
  | route
  | element
  | berth
  | plan
  | fault (c : FaultClass)
  | link
  | system
  deriving DecidableEq, Repr

/-- The class of each report (Table 12-3); a fault report takes its record's, and FREEZE ENDED is a FAULT-YARD report. -/
def ReportBody.cls : ReportBody → ReportClass
  | .routeState .. => .route
  | .requestQueued .. => .route
  | .requestHeld .. => .route
  | .requestDropped .. => .route
  | .sectionReleased .. => .route
  | .throwStarted .. => .element
  | .throwEnded .. => .element
  | .pointMoved .. => .element
  | .pointDetected .. => .element
  | .pointUse .. => .element
  | .sectionChanged .. => .element
  | .signalChanged .. => .element
  | .berthChanged .. => .berth
  | .roadVerification .. => .berth
  | .roadSetting .. => .berth
  | .censusDiff .. => .berth
  | .gateRead .. => .berth
  | .unknownTram .. => .berth
  | .clockSet .. => .plan
  | .runOutState .. => .plan
  | .arrivalAllocated .. => .plan
  | .noBerth .. => .plan
  | .requestRefused .. => .plan
  | .fault r .. => .fault r.kind.cls
  | .freezeEnded .. => .fault .yard
  | .linkState .. => .link
  | .linkRetrained .. => .link
  | _ => .system

end Sys2Proof.Machine

namespace Sys2Proof

open Sys2Proof.Machine

/-- Whether a port's enables admit a class (R180). -/
def Enables.admits (e : Enables) : ReportClass → Bool
  | .route => e.route
  | .element => e.element
  | .berth => e.berth
  | .plan => e.plan
  | .fault .corrected => e.faultCorrected
  | .fault .element => e.faultElement
  | .fault .yard => e.faultYard
  | .link => e.link
  | .system => e.system

end Sys2Proof

namespace Sys2Proof.Machine

open Sys2Proof

/-- The kind byte of a report (Table 12-3). -/
def ReportBody.kindByte : ReportBody → Byte
  | .routeState .. => 0x70
  | .requestQueued .. => 0x71
  | .requestHeld .. => 0x71
  | .requestDropped .. => 0x71
  | .sectionReleased .. => 0x72
  | .throwStarted .. => 0x73
  | .throwEnded .. => 0x73
  | .pointMoved .. => 0x73
  | .pointDetected .. => 0x73
  | .pointUse .. => 0x73
  | .sectionChanged .. => 0x74
  | .signalChanged .. => 0x74
  | .berthChanged .. => 0x75
  | .roadVerification .. => 0x75
  | .roadSetting .. => 0x75
  | .censusDiff .. => 0x75
  | .gateRead .. => 0x76
  | .unknownTram .. => 0x76
  | .clockSet .. => 0x77
  | .runOutState .. => 0x77
  | .arrivalAllocated .. => 0x77
  | .noBerth .. => 0x77
  | .requestRefused .. => 0x77
  | .fault .. => 0x78
  | .freezeEnded .. => 0x78
  | .linkState .. => 0x79
  | .linkRetrained .. => 0x79
  | _ => 0x7A

/-- The subtype byte of a report: its place in its row of Table 12-3, counted from 1. -/
def ReportBody.subtype : ReportBody → Byte
  | .routeState .. => 1
  | .requestQueued .. => 1
  | .requestHeld .. => 2
  | .requestDropped .. => 3
  | .sectionReleased .. => 1
  | .throwStarted .. => 1
  | .throwEnded .. => 2
  | .pointMoved .. => 3
  | .pointDetected .. => 4
  | .pointUse .. => 5
  | .sectionChanged .. => 1
  | .signalChanged .. => 2
  | .berthChanged .. => 1
  | .roadVerification .. => 2
  | .roadSetting .. => 3
  | .censusDiff .. => 4
  | .gateRead .. => 1
  | .unknownTram .. => 2
  | .clockSet .. => 1
  | .runOutState .. => 2
  | .arrivalAllocated .. => 3
  | .noBerth .. => 4
  | .requestRefused .. => 5
  | .fault .. => 1
  | .freezeEnded .. => 2
  | .linkState .. => 1
  | .linkRetrained .. => 2
  | .layoutLost => 1
  | .layoutCommitted .. => 2
  | .layoutErased => 3
  | .holdEnded => 4
  | .controlMode .. => 5
  | .planSilent => 6
  | .planRestored => 7
  | .faultListFull => 8
  | .rehearsalBegun => 9
  | .rehearsalEnded .. => 10
  | .recordLost => 11
  | .settingsLost => 12
  | .registerLost => 13

end Sys2Proof.Machine
end

