-- ==== Sys2Proof/Machine/ByteLayouts.lean ====
section
/-! DEFINITION. The telegram line in bytes: the frame and its check (R177), the receiver, and the byte layouts of R186. -/

namespace Sys2Proof.Machine

open Sys2Proof

/-! ## The frame (R177, Table 12-5) -/

/-- The start byte of a frame. -/
def startByte : Byte := 0xC7

/-- One bit shifted through the check register: polynomial x^16 + x^12 + x^5 + 1, most significant bit first. -/
def checkShift (c : Word16) : Word16 := if c.getLsbD 15 then (c <<< 1) ^^^ 0x1021 else c <<< 1

/-- One byte taken into the check. -/
def checkByte (c : Word16) (b : Byte) : Word16 :=
  checkShift (checkShift (checkShift (checkShift (checkShift (checkShift (checkShift (checkShift
    (c ^^^ (b.setWidth 16 <<< 8)))))))))

/-- The check of a run of bytes: initial value 0xFFFF, no final inversion. -/
def checkOf (bytes : List Byte) : Word16 := bytes.foldl checkByte 0xFFFF

/-- The two bytes of a check, high byte first. -/
def checkBytes (c : Word16) : List Byte := wordBytes c.toNat

/-- The frame that carries a body: start byte, length, body, and the check over length and body. -/
def frameBytes (body : List Byte) : List Byte :=
  startByte :: byteOf body.length :: body ++ checkBytes (checkOf (byteOf body.length :: body))

/-! ## The receiver (R177) -/

/-- Whether a length byte is within 2 to 250. -/
def lengthInRange (n : Byte) : Bool := 2 ≤ n.toNat && n.toNat ≤ 250

/-- The body of a frame received whole, when its check is good. -/
def frameBody (bytes : List Byte) : Option (List Byte) :=
  match bytes with
  | _ :: n :: rest =>
    if checkBytes (checkOf (n :: rest.take n.toNat)) = rest.drop n.toNat then some (rest.take n.toNat) else none
  | _ => none

/-- One byte taken by a receiver that holds `held` of the frame in hand; the second part is the body of a valid frame that
this byte completes. -/
def receiveByte (held : List Byte) (b : Byte) : List Byte × Option (List Byte) :=
  match held with
  | [] => (if b = startByte then [b] else [], none)
  | [s] => (if lengthInRange b then [s, b] else [], none)
  | s :: n :: rest =>
    if rest.length + 1 < n.toNat + 2 then (s :: n :: (rest ++ [b]), none)
    else ([], frameBody (s :: n :: (rest ++ [b])))

/-- A run of bytes taken by a receiver: what it then holds, and the bodies of the valid frames completed, in order. -/
def receiveBytes (held : List Byte) : List Byte → List Byte × List (List Byte)
  | [] => (held, [])
  | b :: bs =>
    let one := receiveByte held b
    let rest := receiveBytes one.1 bs
    (rest.1, one.2.toList ++ rest.2)

/-! ## Codes of R186 -/

/-- A service time: the minute, with 0xFFFF for UNSET or absent, then the second, 0 when there is none (notes/assumptions/61). -/
def timeBytes : Option ServiceTime → List Byte
  | some t => wordBytes t.minute ++ [byteOf t.second]
  | none => [0xFF, 0xFF, 0]

/-- A tram field: 0 means absent. -/
def tramBytes (t : Option Nat) : List Byte := wordBytes (t.getD 0)

/-- An element key of a fault: kind and number, a gate reader under its gate's key. -/
def elementBytes : Option FaultElement → List Byte
  | none => [0, 0]
  | some (.point n) => [1, byteOf n]
  | some (.track n) => [2, byteOf n]
  | some (.signal n) => [3, byteOf n]
  | some (.reader g) => [6, byteOf g]
  | some (.link n) => [8, byteOf n]

/-- The two bytes of a record key. -/
def keyBytes : Key → List Byte
  | .point n => [1, byteOf n]
  | .track n => [2, byteOf n]
  | .signal n => [3, byteOf n]
  | .road n => [4, byteOf n]
  | .headshunt n => [5, byteOf n]
  | .gate n => [6, byteOf n]
  | .route n => [7, byteOf n]

/-- The code of an origin. -/
def Origin.code : Origin → Byte
  | .plan => 0
  | .desk => 1
  | .automatic => 2

/-- The code of a slot state. -/
def SlotState.code : SlotState → Byte
  | .free => 0
  | .setting => 1
  | .locked => 2
  | .opened => 3
  | .approachTiming => 4
  | .entered => 5
  | .releaseStopped => 6
  | .emergencyTiming => 7

/-- The code of a route state cause. -/
def RouteCause.code : RouteCause → Byte
  | .taken => 1
  | .settingDone => 2
  | .opened => 3
  | .reverted => 4
  | .aspectLost => 5
  | .frozen => 6
  | .entered => 7
  | .passedAtStop => 8
  | .cancelled => 9
  | .sequence => 10
  | .emergency => 11
  | .freed => 12
  | .approachExpired => 13
  | .emergencyExpired => 14
  | .freeze => 15

/-- The code of a failed condition (Table 12-8). -/
def FailedCondition.code : FailedCondition → Byte
  | .none => 0
  | .point => 1
  | .track => 2
  | .link => 3
  | .lamp => 4

/-- The code of a berth entry state. -/
def BerthState.code : BerthState → Byte
  | .arriving => 0
  | .stabled => 1
  | .departing => 2

/-- The code of a point position. -/
def positionCode : Position → Byte
  | .normal => 0
  | .reverse => 1

/-- The code of a fault class. -/
def FaultClass.code : FaultClass → Byte
  | .corrected => 0
  | .element => 1
  | .yard => 2

/-- The number of a fault kind, in the order of Table 10-1. -/
def FaultKind.code : FaultKind → Byte
  | .throwRetried => 1
  | .throwObstructed => 2
  | .throwNoDetection => 3
  | .motorOpen => 4
  | .throwInterrupted => 5
  | .detectionLost => 6
  | .sectionDisturbed => 7
  | .aspectLost => 8
  | .lampFailed => 9
  | .linkDown => 10
  | .sequence => 11
  | .passedAtStop => 12
  | .identity => 13
  | .pointTrailed => 14
  | .wrongAspect => 15
  | .allStop => 16

/-- The code of a reply outcome (Table 12-6). -/
def ReplyOutcome.code : ReplyOutcome → Byte
  | .done => 0
  | .accepted => 1
  | .doneClamped => 2
  | .refused => 3

/-- One bit as a byte. -/
def bitByte (b : Bool) : Byte := if b then 1 else 0

/-! ## Layouts of R186 -/

/-- Reply header (Table 12-6). -/
def replyHeader (r : Reply) : List Byte :=
  [r.kind, r.tag, r.outcome.code, match r.reason with | some x => x.code | none => 0]

/-- REQUEST ROUTE body (Table 12-7). -/
def requestRouteBody (tag : Byte) (route tram : Nat) : List Byte := 0x10 :: tag :: byteOf route :: wordBytes tram

/-- A REQUEST ROUTE body read by Table 12-7: its tag, route and tram. -/
def readRequestRoute : List Byte → Option (Byte × Nat × Nat)
  | [k, tag, r, hi, lo] => if k = 0x10 then some (tag, r.toNat, wordValue hi lo) else none
  | _ => none

/-- ROUTE STATE report body (Table 12-8); other reports have no layout here. -/
def routeStateBody (r : Report) : Option (List Byte) :=
  match r.body with
  | .routeState slot route origin tram before after cause failed aspectHeld claimed =>
    some ([0x70, 0, 1, byteOf slot, byteOf route, origin.code] ++ tramBytes tram ++
      [before.code, after.code, cause.code, failed.code, bitByte aspectHeld, bitByte r.marker, byteOf claimed.length] ++
      claimed.flatMap fun x => [byteOf x.1, positionCode x.2])
  | _ => none

/-- Berth entry in the READ ROAD reply (Table 12-9). -/
def berthEntryBytes (e : BerthEntry) : List Byte :=
  wordBytes e.tram ++ wordBytes e.length ++ [byteOf e.cls] ++
    (match e.departure with | some d => wordBytes d | none => [0xFF, 0xFF]) ++ [e.state.code] ++ timeBytes e.timeStabled

/-- Check data of a fault record: its form and its six bytes (Table 12-10). -/
def checkDataBytes : Option CheckData → List Byte
  | none => [0, 0, 0, 0, 0, 0, 0]
  | some (.throwData target attempts peak duration) =>
    [1, positionCode target, byteOf attempts, byteOf peak] ++ wordBytes duration ++ [0]
  | some (.identity expected read) => 2 :: tramBytes expected ++ wordBytes read ++ [0, 0]
  | some (.aspects commanded reported) =>
    [3, Config.aspectCode commanded, Config.aspectCode reported, 0, 0, 0, 0]
  | some (.sequence a b) => [4, byteOf a, byteOf b, 0, 0, 0, 0]

/-- Route context of a fault record: route, slot state and tram (Table 12-10). -/
def contextBytes : Option RouteContext → List Byte
  | some c => [byteOf c.route, c.state.code] ++ tramBytes c.tram
  | none => [0, 0, 0, 0]

/-- A further cause (Table 12-10). -/
def causeBytes (c : Cause) : List Byte := c.kind.code :: elementBytes c.element ++ timeBytes c.time

/-- Fault record (Table 12-10). -/
def faultRecordBytes (r : FaultRecord) : List Byte :=
  wordBytes r.number ++ [r.kind.cls.code, r.kind.code] ++ elementBytes r.element ++ timeBytes r.time ++
    contextBytes r.context ++ checkDataBytes r.check ++
    [bitByte r.cleared, bitByte r.marker, byteOf r.further.length, bitByte r.more] ++ r.further.flatMap causeBytes

/-- Body of a fault report (12.8): kind, tag, subtype, the record, whether it was stored (1) or not (0), and for a YARD fault
whether it is the primary (0) or a further (1) cause (notes/assumptions/69). -/
def faultReportBody (r : Report) : Option (List Byte) :=
  match r.body with
  | .fault rec stored primary =>
    some ([0x78, 0, 1] ++ faultRecordBytes rec ++ [bitByte stored] ++
      match primary with | some first => [bitByte (!first)] | none => [])
  | _ => none

/-! ## The telegram a body spells -/

/-- The telegram kinds that carry no field. -/
def fieldless : List TelegramKind :=
  [.status, .takeControl, .returnControl, .reset, .grantReleasePermit, .allStop, .freezeAcknowledge, .readRoutes, .readRunOut,
    .readArrivals, .layoutCommit, .layoutAbandon, .rehearsalEnd]

/-- The telegram kinds that carry fields. -/
def withFields : List TelegramKind :=
  [.setClock, .openPermit, .closePermit, .setParameter, .readParameter, .setReporting, .requestRoute, .cancelRoute,
    .emergencyRelease, .throwPoint, .pointUse, .readElement, .tramEntry, .tramRemove, .runOutPlan, .runOutClear,
    .allocateQuery, .readRoad, .roadCensus, .roadCloseOpen, .readFault, .clearFault, .layoutBegin, .layoutRecord,
    .layoutErase, .readLayout, .linkRetrain, .linkDisableEnable, .rehearsalBegin, .rehearsalAct]

/-- The command of a fieldless telegram kind. -/
def fieldlessCommand (p : Port) (tag : Byte) : TelegramKind → Option Instr
  | .status => some (.status p tag)
  | .takeControl => some (.takeControl p tag)
  | .returnControl => some (.returnControl p tag)
  | .reset => some (.reset p tag)
  | .grantReleasePermit => some (.grantReleasePermit p tag)
  | .allStop => some (.allStop p tag)
  | .freezeAcknowledge => some (.freezeAcknowledge p tag)
  | .readRoutes => some (.readRoutes p tag)
  | .readRunOut => some (.readRunOut p tag)
  | .readArrivals => some (.readArrivals p tag)
  | .layoutCommit => some (.layoutCommit p tag)
  | .layoutAbandon => some (.layoutAbandon p tag)
  | .rehearsalEnd => some (.rehearsalEnd p tag)
  | _ => none

/-- The command that a frame body spells where the description gives its bytes: the kinds without fields, REQUEST ROUTE
(Table 12-7), a kind that Table 12-1 does not list, and a body of the wrong length for a kind of these (R178). The other
kinds' fields are given by name only, and their bodies spell nothing here (notes/assumptions/4). -/
def telegramOf (p : Port) (body : List Byte) : Option Instr :=
  match body with
  | k :: tag :: rest =>
    match fieldless.find? fun x => x.code == k with
    | some kind => if rest.isEmpty then fieldlessCommand p tag kind else some (.unknownKindFrame p tag k)
    | none =>
      if k = 0x10 then
        match readRequestRoute body with
        | some (t, route, tram) => some (.requestRoute p t route tram)
        | none => some (.unknownKindFrame p tag k)
      else if withFields.any (fun x => x.code == k) && !rest.isEmpty then none
      else some (.unknownKindFrame p tag k)
  | _ => none

end Sys2Proof.Machine
end

