-- ==== Sys2Proof/Machine/Ops.lean ====
section
/-! DEFINITION. The named operations shared by the blocks: ports and reports (chapter 12), frames sent on the links, the time
base, yard tables, and the fault recorder's store (R157, R158). -/

namespace Sys2Proof.Machine

open Sys2Proof

/-! ## Ports (R179, R180) -/

/-- An idle transmitter starts the waiting reply, or else the oldest queued report (R179). -/
def PortOut.start (o : PortOut) : PortOut :=
  match o.sending with
  | some _ => o
  | none =>
    match o.reply with
    | some r => { o with sending := some (.reply r), reply := none }
    | none =>
      match o.reports with
      | r :: rest => { o with sending := some (.report r), reports := rest }
      | [] => o

/-- The transmitter finishes its frame and starts the next (R179). -/
def PortOut.frameSent (o : PortOut) : PortOut := PortOut.start { o with sending := none }

/-- A report placed on a port: nothing when its class is not enabled; discarded, with OVERRUN set, when the queue holds 24
(R180). -/
def PortOut.place (o : PortOut) (r : Report) : PortOut :=
  if o.enables.admits r.body.cls then
    if o.reports.length < Config.reportCapacity then PortOut.start { o with reports := o.reports ++ [r] }
    else { o with overrun := true }
  else o

/-- A reply handed to the reply path (R179). -/
def PortOut.putReply (o : PortOut) (r : Reply) : PortOut := PortOut.start { o with reply := some r }

/-- Whether a reply waits or is being sent (R178). -/
def PortOut.replyOutstanding (o : PortOut) : Bool :=
  o.reply.isSome || (match o.sending with | some (.reply _) => true | _ => false)

/-- One frame sent, if a reply is outstanding. -/
def PortOut.sendIfOutstanding (o : PortOut) : PortOut := if o.replyOutstanding then o.frameSent else o

/-- The port once its outstanding reply has been sent whole (R178): at most the frame in hand and then the reply. -/
def PortOut.finishReply (o : PortOut) : PortOut := o.sendIfOutstanding.sendIfOutstanding

/-- The sending half of a port. -/
def Plant.out (p : Plant) : Port → PortOut
  | .plan => p.planOut
  | .desk => p.deskOut

/-- The plant with the sending half of a port changed. -/
def Plant.mapOut (p : Plant) (port : Port) (f : PortOut → PortOut) : Plant :=
  match port with
  | .plan => { p with planOut := f p.planOut }
  | .desk => { p with deskOut := f p.deskOut }

/-- A report placed on one port. -/
def Plant.reportOn (p : Plant) (port : Port) (marker : Bool) (b : ReportBody) : Plant :=
  p.mapOut port fun o => o.place ⟨marker, b⟩

/-- A report placed on both ports, as their enables allow (R180); one caused on the copies carries the marker (R173). -/
def Plant.report (p : Plant) (sd : Side) (b : ReportBody) : Plant :=
  (p.reportOn .plan (sd == .copy) b).reportOn .desk (sd == .copy) b

/-- The receiving half of a port. -/
def State.portIn (s : State) : Port → PortIn
  | .plan => s.planIn
  | .desk => s.deskIn

/-- The state with the receiving half of a port changed. -/
def State.mapIn (s : State) (port : Port) (f : PortIn → PortIn) : State :=
  match port with
  | .plan => { s with planIn := f s.planIn }
  | .desk => { s with deskIn := f s.deskIn }

/-- The state with its plant changed under its environment. -/
def State.mapPlant (s : State) (f : Env → Plant → Plant) : State := { s with plant := f s.env s.plant }

/-! ## Frames on the links -/

/-- A frame sent on a link; it restarts the poll period (R168). -/
def Plant.send (p : Plant) (link : Nat) (f : LinkFrame) : Plant :=
  { p with
    linkSent := p.linkSent ++ [(link, f)]
    links := updBy Link.number link (fun l => { l with lastSent := p.now }) p.links }

/-- A frame sent on a link that is UP; on another nothing is sent (R46). -/
def Plant.sendUp (p : Plant) (link : Nat) (f : LinkFrame) : Plant := if p.linkUp link then p.send link f else p

/-! ## Tables of a side -/

/-- One point of a side changed. -/
def Plant.mapPoint (p : Plant) (sd : Side) (n : Nat) (f : Point → Point) : Plant :=
  p.mapYard sd fun y => { y with points := updBy Point.number n f y.points }

/-- One section of a side changed. -/
def Plant.mapTrack (p : Plant) (sd : Side) (n : Nat) (f : Track → Track) : Plant :=
  p.mapYard sd fun y => { y with tracks := updBy Track.number n f y.tracks }

/-- One signal of a side changed. -/
def Plant.mapSignal (p : Plant) (sd : Side) (n : Nat) (f : Signal → Signal) : Plant :=
  p.mapYard sd fun y => { y with signals := updBy Signal.number n f y.signals }

/-- One slot changed. -/
def Plant.mapSlot (p : Plant) (n : Nat) (f : Slot → Slot) : Plant :=
  { p with slots := updBy Slot.number n f p.slots }

/-- One link changed. -/
def Plant.mapLink (p : Plant) (n : Nat) (f : Link → Link) : Plant :=
  { p with links := updBy Link.number n f p.links }

/-- The session changed, if there is one. -/
def Plant.mapSession (p : Plant) (f : Session → Session) : Plant := { p with session := p.session.map f }

/-- A scan of the request queue is to follow this event, when it concerns the yard in force (R98). -/
def Plant.askScan (p : Plant) (sd : Side) : Plant := if sd == p.active then { p with wantScan := true } else p

/-- A round of the sequencer is to follow this event, when it concerns the yard in force (R150). -/
def Plant.askRound (p : Plant) (sd : Side) : Plant := if sd == p.active then { p with wantRound := true } else p

/-- The berth roads of a side written: those of the real yard go to non-volatile store at each change, those of a copy do not
(R125). The copy not in use is written also when every road stays as it was (DESIGN CHOICE, notes/assumptions/6). -/
def Plant.setRoads (p : Plant) (sd : Side) (rs : List Road) : Plant :=
  let q := p.mapYard sd fun y => { y with roads := rs }
  if sd = .real then { q with keptRoads := q.keptRoads.write rs } else q

/-- One berth road of a side changed. -/
def Plant.mapRoad (p : Plant) (sd : Side) (b : Berth) (f : Road → Road) : Plant :=
  p.setRoads sd ((p.yardOf sd).roads.map fun r => if r.berth == b then f r else r)

/-- Two berth roads of a side changed as one change, written once (R111, R125). -/
def Plant.mapRoads (p : Plant) (sd : Side) (a : Berth) (f : Road → Road) (b : Berth) (g : Road → Road) : Plant :=
  p.setRoads sd ((p.yardOf sd).roads.map fun r => if r.berth == a then f r else if r.berth == b then g r else r)

/-- The points of a yard that are out of use. -/
def Yard.outOfUse (y : Yard) : List Nat := (y.points.filter Point.outOfUse).map Point.number

/-- The OUT_OF_USE flags written to non-volatile store (R38). -/
def Plant.keepOutOfUse (p : Plant) : Plant := { p with keptOutOfUse := p.keptOutOfUse.write p.yard.outOfUse }

/-- The arrival queue of a side written. When the head of the yard in force is no longer the tram of the last NO_BERTH report,
that tram is forgotten (R151). -/
def Plant.setArrivals (p : Plant) (sd : Side) (l : List Arrival) : Plant :=
  let q := p.mapYard sd fun y => { y with arrivals := l }
  if sd = p.active && l.head?.map Arrival.tram != p.noBerthTram then { q with noBerthTram := none } else q

/-! ## Time (0.8; notes/assumptions/2) -/

/-- A clock moved on by `ms` (R144). It stays at second 59, its excess kept in `past`, until the minute change is taken; at
2159:59 it holds. -/
def Clock.advance (c : Clock) (ms : Nat) : Clock :=
  if c.set then
    let total := c.second * 1000 + c.past + ms
    if total < 60000 then { c with second := total / 1000, past := total % 1000 }
    else if c.minute < Config.lastMinute then { c with second := 59, past := total - 59000 }
    else { c with second := 59, past := 0 }
  else c

/-- The clock at its next minute, the excess kept in `past` carried over (R144). -/
def Clock.nextMinute (c : Clock) : Clock :=
  Clock.advance { c with minute := c.minute + 1, second := 0, past := 0 } (c.past - 1000)

/-- Milliseconds until a clock reaches its next minute. -/
def Clock.toNextMinute (c : Clock) : Nat := 60000 - (c.second * 1000 + c.past)

/-- The part's own time base moved on by `ms`: both clocks run, and the rehearsal time base at its rate (R144, R172, R173). -/
def Plant.advance (p : Plant) (ms : Nat) : Plant :=
  { p with
    now := p.now + ms
    yard := { p.yard with clock := p.yard.clock.advance ms }
    session := p.session.map fun c =>
      { c with base := c.base + c.rate * ms, copy := { c.copy with clock := c.copy.clock.advance (c.rate * ms) } } }

/-- The plant at the moment when a side's time base reaches `due`, if it has not yet (notes/assumptions/2). -/
def Plant.advanceTo (p : Plant) (sd : Side) (due : Nat) : Plant := p.advance (p.ownTime sd (due - p.base sd))

/-! ## The fault recorder's store (R157, R158) -/

/-- The number after `n`, wrapping from 65535 to 1 (R157). -/
def nextFaultNumber (n : Nat) : Nat := if 65535 ≤ n then 1 else n + 1

/-- The list with its oldest CLEARED record removed, if it holds one (R158). -/
def dropOldestCleared : List FaultRecord → Option (List FaultRecord)
  | [] => none
  | r :: rest => if r.cleared then some rest else (dropOldestCleared rest).map (r :: ·)

/-- A record stored in the fault list (R158), and whether it was: appended while there is room, in place of the oldest CLEARED
record when there is none, and otherwise not stored, with the indicator set. -/
def FaultList.store (l : FaultList) (r : FaultRecord) : FaultList × Bool :=
  if l.records.length < Config.faultCapacity then ({ l with records := l.records ++ [r] }, true)
  else
    match dropOldestCleared l.records with
    | some rest => ({ l with records := rest ++ [r] }, true)
    | none => ({ l with full := true }, false)

/-- Whether the list holds an OPEN record of a kind for an element (R43, R50, R169). -/
def FaultList.holdsOpen (l : FaultList) (k : FaultKind) (e : FaultElement) : Bool :=
  l.records.any fun r => !r.cleared && r.kind == k && r.element == some e

/-- The next number taken, for a fault handed on (R157). -/
def FaultList.numbered (l : FaultList) : FaultList := { l with next := nextFaultNumber l.next }

/-- The route context that a slot gives a fault (Table 10-2). -/
def Slot.context (sl : Slot) : Option RouteContext := sl.route.map fun r => ⟨r, sl.state, sl.tram⟩

/-- A fault of class ELEMENT or CORRECTED handed to the fault recorder of a side: numbered, stored and reported; a CORRECTED
record is made CLEARED as it is stored (R157, R158). -/
def Plant.handFault (p : Plant) (sd : Side) (kind : FaultKind) (element : FaultElement) (context : Option RouteContext)
    (check : Option CheckData) : Plant :=
  let y := p.yardOf sd
  let r : FaultRecord :=
    { number := y.faults.next, kind := kind, element := some element, time := p.time sd, context := context, check := check,
      further := [], more := false, cleared := kind.cls == .corrected, marker := sd == .copy }
  let kept := y.faults.numbered.store r
  let q := p.mapYard sd fun y => { y with faults := kept.1 }
  let q := if sd = .copy then q.mapSession fun c => { c with faults := c.faults + 1 } else q
  let q := q.report sd (.fault r kept.2 none)
  if !kept.2 && !y.faults.full then q.report sd .faultListFull else q

/-- The same, unless the list already holds an OPEN record of the kind for the element (R43, R50, R169). -/
def Plant.handFaultOnce (p : Plant) (sd : Side) (kind : FaultKind) (element : FaultElement)
    (context : Option RouteContext) : Plant :=
  if (p.yardOf sd).faults.holdsOpen kind element then p else p.handFault sd kind element context none

end Sys2Proof.Machine
end

