-- ==== Sys2Proof/Machine/RunOutList.lean ====
section
/-! DEFINITION. The readiness of departures (R138 to R141) and the run-out list: placing by window and readiness, readiness
changes, and following a tram through the stabling record (R145, R146, R149). -/

namespace Sys2Proof.Machine

open Sys2Proof

/-! ## Readiness (R138, R139) -/

/-- D* of a departure: 2160 for NONE (8.1). -/
def starred (d : Option Nat) : Nat := d.getD Config.noDeparture

/-- The road that holds a tram. -/
def Yard.roadOfTram (y : Yard) (tram : Nat) : Option Road := y.roads.find? fun r => r.entries.any fun e => e.tram == tram

/-- The entries of a road nearer the front than a tram's own (R138). -/
def inFrontOf (tram : Nat) : List BerthEntry → List BerthEntry
  | [] => []
  | e :: rest => if e.tram == tram then rest else inFrontOf tram rest

/-- The readiness of a tram due at a departure (R138): LOST on no berth road, with d 0 (notes/assumptions/67), else FREE, BEHIND or
BLOCKED by the entries in front of it, the blockers listed from the front of the road backward. -/
def Yard.readinessOf (y : Yard) (tram : Nat) (departure : Option Nat) : Readiness :=
  match y.roadOfTram tram with
  | none => ⟨.lost, 0, []⟩
  | some r =>
    let front := inFrontOf tram r.entries
    let blockers := ((front.filter fun e => starred departure < starred e.departure).map BerthEntry.tram).reverse
    if front.isEmpty then ⟨.free, 0, []⟩
    else if blockers.isEmpty then ⟨.behind, front.length, []⟩
    else ⟨.blocked, front.length, blockers⟩

/-! ## Placing (R146) -/

/-- The state a readiness gives an entry in its window (R146). -/
def ReadinessKind.state : ReadinessKind → RunOutState
  | .free => .due
  | .behind => .blocked
  | .blocked => .blocked
  | .lost => .lost

/-- The state in which an entry is placed (R146): WAITING while the clock is UNSET, the departure NONE or the window not open,
MISSED when the window is past, and otherwise by its readiness. -/
def placedState (params : Params) (clock : Clock) (departure : Option Nat) (readiness : ReadinessKind) : RunOutState :=
  match departure with
  | none => .waiting
  | some d =>
    if !clock.set then .waiting
    else if clock.minute + params.lead < d then .waiting
    else if d + params.late < clock.minute then .missed
    else readiness.state

/-- Whether the clock and readiness place an entry in this state (R146). -/
def RunOutState.placeable : RunOutState → Bool
  | .waiting => true
  | .due => true
  | .blocked => true
  | .lost => true
  | _ => false

/-- The run-out entry of a tram. -/
def Yard.runOut? (y : Yard) (tram : Nat) : Option RunOut := findBy RunOut.tram tram y.runOut

/-- One run-out entry of a side changed. -/
def Plant.mapRunOut (p : Plant) (sd : Side) (tram : Nat) (f : RunOut → RunOut) : Plant :=
  p.mapYard sd fun y => { y with runOut := updBy RunOut.tram tram f y.runOut }

/-- A run-out entry put in a state: a change places a RUN-OUT STATE report, and one to MISSED counts in a session's summary
(R146, R176). -/
def Plant.setRunOutState (p : Plant) (sd : Side) (tram : Nat) (st : RunOutState) : Plant :=
  match (p.yardOf sd).runOut? tram with
  | none => p
  | some e =>
    if e.state = st then p
    else
      let q := p.mapRunOut sd tram fun x => { x with state := st }
      let q := if sd = .copy && st == .missed then q.mapSession fun c => { c with missed := c.missed + 1 } else q
      q.report sd (.runOutState tram e.departure e.state st e.readiness)

/-- The readiness an entry is placed by: the one last handed, or for an entry that joins the list the record's own. -/
def Yard.readinessFor (y : Yard) (e : RunOut) : Readiness := e.readiness.getD (y.readinessOf e.tram e.departure)

/-- An entry placed by its window and readiness (R146). -/
def Plant.placeEntry (env : Env) (p : Plant) (sd : Side) (tram : Nat) : Plant :=
  let y := p.yardOf sd
  match y.runOut? tram with
  | none => p
  | some e => p.setRunOutState sd tram (placedState env.params y.clock e.departure (y.readinessFor e).kind)

/-- Every entry in WAITING, DUE, BLOCKED or LOST placed, in list order, as at a minute change or SET CLOCK (R146). -/
def Plant.placeAll (env : Env) (p : Plant) (sd : Side) : Plant :=
  (p.yardOf sd).runOut.foldl (fun q e => if e.state.placeable then Plant.placeEntry env q sd e.tram else q) p

/-! ## Readiness changes (R140) -/

/-- A readiness change handed to the sequencer: written, and an entry in DUE, BLOCKED or LOST moves among those three (R146);
a round follows (R150). -/
def Plant.handReadiness (p : Plant) (sd : Side) (tram : Nat) (r : Readiness) : Plant :=
  let q := p.mapRunOut sd tram fun e => { e with readiness := some r }
  let q : Plant :=
    match (q.yardOf sd).runOut? tram with
    | some e =>
      if e.state == .due || e.state == .blocked || e.state == .lost then q.setRunOutState sd tram r.kind.state else q
    | none => q
  q.askRound sd

/-- Readiness worked afresh for every entry, in list order; each result that differs from the one last handed is handed on, and
with `all` every result is (R140, R141). -/
def Plant.workReadiness (p : Plant) (sd : Side) (all : Bool) : Plant :=
  (p.yardOf sd).runOut.foldl
    (fun q e =>
      let r := (q.yardOf sd).readinessOf e.tram e.departure
      if all || e.readiness != some r then q.handReadiness sd e.tram r else q)
    p

/-! ## Following the stabling record (R149) -/

/-- The entry of a tram whose berth entry became DEPARTING: from any state except MISSED and GONE. -/
def Plant.noteDeparting (p : Plant) (sd : Side) (tram : Nat) : Plant :=
  match (p.yardOf sd).runOut? tram with
  | some e => if e.state == .missed || e.state == .gone then p else p.setRunOutState sd tram .departing
  | none => p

/-- The entry of a tram that has left for G2: from any state except MISSED. -/
def Plant.noteGone (p : Plant) (sd : Side) (tram : Nat) : Plant :=
  match (p.yardOf sd).runOut? tram with
  | some e => if e.state == .missed then p else p.setRunOutState sd tram .gone
  | none => p

/-- The entry of a tram whose DEPARTING berth entry is STABLED again: placed when it has no route. -/
def Plant.noteStabled (env : Env) (p : Plant) (sd : Side) (tram : Nat) : Plant :=
  match (p.yardOf sd).runOut? tram with
  | some e => if e.state == .departing && e.route.isNone then Plant.placeEntry env p sd tram else p
  | none => p

/-! ## The fate of an automatic departure (R149) -/

/-- The fate of an automatic request or route taken by the run-out entry it serves: its route field is cleared at every end,
CANCELLED sets it aside unless it is GONE, and UNFIT, EXPIRED, WITHDRAWN or an abandonment places it again from REQUESTED or
DEPARTING. -/
def Plant.departureFate (env : Env) (p : Plant) (sd : Side) (tram route : Nat) (f : Fate) : Plant :=
  match (p.yardOf sd).runOut? tram with
  | none => p
  | some e =>
    if e.route != some route then p
    else
      let q := p.mapRunOut sd tram fun x => { x with route := none }
      match f with
      | .taken => p
      | .freed => q
      | .cancelled => if e.state == .gone then q else q.setRunOutState sd tram .setAside
      | _ => if e.state == .requested || e.state == .departing then Plant.placeEntry env q sd tram else q

end Sys2Proof.Machine
end

