-- ==== Sys2Proof/Machine/StablingRecord.lean ====
section
/-! DEFINITION. The stabling record (chapter 7): the fit rule, the arrival queue's count, berth conditions, the berth effects of
route events, gate reads, and verification. -/

namespace Sys2Proof.Machine

open Sys2Proof

/-! ## The fit rule (R109) -/

/-- The used length of entries at a berth gap. -/
def usedLength (gap : Nat) (entries : List BerthEntry) : Nat :=
  (entries.map BerthEntry.length).sum + gap * (entries.length - 1)

/-- N: the length a road would use with a tram of length `len` added. -/
def lengthWith (gap : Nat) (entries : List BerthEntry) (len : Nat) : Nat :=
  if entries.isEmpty then len else usedLength gap entries + gap + len

/-- Whether a tram fits a stabling road of a usable length. -/
def fitsRoad (gap usable : Nat) (entries : List BerthEntry) (len : Nat) : Bool :=
  entries.length < Config.roadCapacity && lengthWith gap entries len ≤ usable

/-- Whether a tram fits a berth road (R109); a headshunt when it holds no entry. -/
def Yard.fits (y : Yard) (env : Env) (b : Berth) (len : Nat) : Bool :=
  match y.road? b, b with
  | some r, .road n => (env.layout.road? n).any fun d => fitsRoad env.params.berthGap d.usable r.entries len
  | some r, .headshunt _ => r.entries.isEmpty
  | none, _ => false

/-! ## Entries -/

/-- The front entry of a road (R108). -/
def Road.front (r : Road) : Option BerthEntry := r.entries.getLast?

/-- The entries of a road without a tram. -/
def withoutTram (tram : Nat) (l : List BerthEntry) : List BerthEntry := l.filter fun e => e.tram != tram

/-- The entry of a tram in a state at a time. -/
def entryIn (st : BerthState) (time : Option ServiceTime) (l : List BerthEntry) (tram : Nat) : List BerthEntry :=
  l.map fun e => if e.tram == tram then { e with state := st, timeStabled := time } else e

/-- Whether a road holds an entry of a tram in a state. -/
def Road.holds (r : Road) (tram : Nat) (st : BerthState) : Bool := r.entries.any fun e => e.tram == tram && e.state == st

/-- A tram's data as an entry takes them: from the register, or the substitutes of R120. -/
def Env.dataOf (env : Env) (tram : Nat) : RegisterEntry :=
  (env.tram? tram).getD ⟨tram, Config.unknownLength, Config.unknownClass, none⟩

/-! ## The arrival queue's count (R110) -/

/-- Whether the ARRIVING entry of a slot that keeps its place in the queue's count stands on its road. -/
def Yard.slotArriving (y : Yard) (env : Env) (sl : Slot) : Bool :=
  sl.keepsPlace &&
    match env.slotRoute sl, sl.tram with
    | some r, some t => (r.target.berth?.bind y.road?).any fun d => d.holds t .arriving
    | _, _ => false

/-- The slots whose ARRIVING entries keep a place in a side's arrival queue. -/
def Plant.arrivingSlots (env : Env) (p : Plant) (sd : Side) : List Slot :=
  (p.usedFor sd).filter fun sl => (p.yardOf sd).slotArriving env sl

/-- The arrival queue's count (R110). -/
def Plant.arrivalCount (env : Env) (p : Plant) (sd : Side) : Nat :=
  (p.yardOf sd).arrivals.length + (Plant.arrivingSlots env p sd).length

/-! ## Berth changes (R119) -/

/-- A berth change passed to the allocation unit and to the sequencer (R119, R140, R150). -/
def Plant.passBerthChange (p : Plant) (sd : Side) : Plant := (p.workReadiness sd false).askRound sd

/-- The reserved roads that name a road cleared from the arrival queue (R152). -/
def Plant.clearReservedRoad (p : Plant) (sd : Side) (b : Berth) : Plant :=
  match b with
  | .road n =>
    if (p.yardOf sd).arrivals.any fun a => a.reserved == some n then
      (p.mapYard sd fun y =>
        { y with arrivals := y.arrivals.map fun a => if a.reserved == some n then { a with reserved := none } else a }).askRound sd
    else p
  | .headshunt _ => p

/-- A berth road made UNVERIFIED, when it was VERIFIED (R122): a berth change with its report, and its reservation cleared
(R152). -/
def Plant.unverify (p : Plant) (sd : Side) (b : Berth) (cause : VerificationCause) : Plant :=
  match (p.yardOf sd).road? b with
  | some r =>
    if r.verified then
      let q := (p.mapRoad sd b fun r => { r with verified := false }).clearReservedRoad sd b
      (q.passBerthChange sd).report sd (.roadVerification b false cause)
    else p
  | none => p

/-- The berth roads of a list made UNVERIFIED, in order. -/
def Plant.unverifyAll (p : Plant) (sd : Side) (bs : List Berth) (cause : VerificationCause) : Plant :=
  bs.foldl (fun q b => q.unverify sd b cause) p

/-! ## Berth conditions (R112) -/

/-- The fit of a tram into a destination road (Table 7-3): CLOSED first, then, at take, the freedom of the road, then room. -/
def Plant.destinationAnswer (env : Env) (p : Plant) (dest : Berth) (atTake : Bool) (e : BerthEntry) : Except Reason Nat :=
  match p.current.road? dest with
  | none => .error .unfit
  | some d =>
    if d.closed then .error .closed
    else if atTake && p.slotNames env dest then .error .unfit
    else if !p.current.fits env dest e.length then .error .unfit
    else .ok e.tram

/-- The entry that leaves a road: NO_TRAM when it holds none, UNFIT when its front entry is not STABLED (Table 7-3). -/
def Plant.originAnswer (p : Plant) (origin : Berth) : Except Reason BerthEntry :=
  match (p.current.road? origin).bind Road.front with
  | none => .error .noTram
  | some e => if e.state == .stabled then .ok e else .error .unfit

/-- The arrival queue's head as an entry that a route from G1 would carry; NO_TRAM when the queue is empty (Table 7-3). -/
def Plant.headAnswer (p : Plant) : Except Reason BerthEntry :=
  match p.current.arrivals with
  | [] => .error .noTram
  | a :: _ => .ok ⟨a.tram, a.length, a.cls, a.departure, .arriving, none⟩

/-- The conditions of Table 7-3 for a route, in order: the refusal of the first that fails, or the tram named. -/
def Plant.berthAnswer (env : Env) (p : Plant) (r : RouteRecord) (atTake : Bool) : Except Reason Nat :=
  match r.kind with
  | none => .error .unfit
  | some k =>
    let leaving : Except Reason BerthEntry :=
      if k.fromGate then p.headAnswer
      else
        match r.source.berth? with
        | some b => p.originAnswer b
        | none => .error .noTram
    match leaving, r.target.berth? with
    | .error x, _ => .error x
    | .ok e, some dest => Plant.destinationAnswer env p dest atTake e
    | .ok e, none => .ok e.tram

/-- The same, with UNFIT when a tram was given and another is named (R112). -/
def Plant.berthAnswerFor (env : Env) (p : Plant) (r : RouteRecord) (atTake : Bool) (given : Option Nat) :
    Except Reason Nat :=
  match Plant.berthAnswer env p r atTake with
  | .error x => .error x
  | .ok t => if given.any fun g => g != t then .error .unfit else .ok t

/-! ## Route events (R113 to R118) -/

/-- The tram of a slot as a number; 0, which is no tram's, when absent. -/
def Slot.tramNumber (sl : Slot) : Nat := sl.tram.getD 0

/-- Route locked into a berth road from G1: the tram moves from the arrival queue to the front of its road as ARRIVING; a tram
that the queue does not hold leaves the destination UNVERIFIED (R113). -/
def Plant.lockedArrival (p : Plant) (sl : Slot) (dest : Berth) : Plant :=
  let sd := p.active
  match p.current.arrivals.find? fun a => a.tram == sl.tramNumber with
  | some a =>
    let q := p.setArrivals sd (p.current.arrivals.filter fun x => x.tram != a.tram)
    let q := q.mapRoad sd dest fun r =>
      { r with entries := r.entries ++ [⟨a.tram, a.length, a.cls, a.departure, .arriving, none⟩] }
    (q.passBerthChange sd).report sd (.berthChanged dest a.tram none (some .arriving) .routeLocked)
  | none => p.unverify sd dest (.event .routeLocked)

/-- Route locked for a SHUNT-IN: the headshunt's entry moves to the front of the destination as ARRIVING; when it is not the
slot's tram, nothing moves and both roads become UNVERIFIED (R113). A shunt move is one change over two roads, reported for each
(R111; notes/assumptions/54). -/
def Plant.lockedShuntIn (p : Plant) (sl : Slot) (origin dest : Berth) : Plant :=
  let sd := p.active
  match (p.current.road? origin).bind Road.front with
  | some e =>
    if some e.tram = sl.tram then
      let q := p.mapRoads sd origin (fun r => { r with entries := r.entries.dropLast }) dest fun r =>
        { r with entries := r.entries ++ [{ e with state := .arriving, timeStabled := none }] }
      ((q.passBerthChange sd).report sd (.berthChanged origin e.tram (some e.state) none .routeLocked)).report sd
        (.berthChanged dest e.tram none (some .arriving) .routeLocked)
    else p.unverifyAll sd [origin, dest] (.event .routeLocked)
  | none => p.unverifyAll sd [origin, dest] (.event .routeLocked)

/-- Route locked (R113). -/
def Plant.routeLocked (env : Env) (p : Plant) (sl : Slot) : Plant :=
  match env.slotRoute sl with
  | none => p
  | some r =>
    match sl.kind, r.source.berth?, r.target.berth? with
    | some .arrival, _, some dest => p.lockedArrival sl dest
    | some .arrivalToHeadshunt, _, some dest => p.lockedArrival sl dest
    | some .shuntIn, some origin, some dest => p.lockedShuntIn sl origin dest
    | _, _, _ => p

/-- Route opened: the front entry of the origin of a route out of it becomes DEPARTING when it is the slot's tram, STABLED;
otherwise the origin becomes UNVERIFIED. A SHUNT-IN and a route from G1 change no entry (R114). -/
def Plant.routeOpened (env : Env) (p : Plant) (sl : Slot) : Plant :=
  let sd := p.active
  match sl.kind, (env.slotRoute sl).bind fun r => r.source.berth? with
  | some .shuntIn, _ => p
  | some _, some origin =>
    match (p.current.road? origin).bind Road.front with
    | some e =>
      if some e.tram = sl.tram && e.state == .stabled then
        let q := p.mapRoad sd origin fun r => { r with entries := r.entries.dropLast ++ [{ e with state := .departing }] }
        let q := (q.passBerthChange sd).noteDeparting sd e.tram
        q.report sd (.berthChanged origin e.tram (some .stabled) (some .departing) .routeOpened)
      else p.unverify sd origin (.event .routeOpened)
    | none => p.unverify sd origin (.event .routeOpened)
  | _, _ => p

/-- An expectation appended; when the list holds 4, its oldest is first removed with a GATE READ report UNREAD, which carries gate 2
and UNREADABLE though no read was made (R115; notes/assumptions/51). -/
def Plant.expect (p : Plant) (sd : Side) (tram : Nat) (left : Berth) : Plant :=
  let y := p.yardOf sd
  let q : Plant :=
    match y.expectations with
    | oldest :: rest =>
      if Config.expectationCapacity ≤ y.expectations.length then
        (p.mapYard sd fun y => { y with expectations := rest }).report sd
          (.gateRead 2 .unreadable .unread (some oldest.tram) (some (.expected oldest.berth)))
      else p
    | [] => p
  q.mapYard sd fun y => { y with expectations := y.expectations ++ [⟨tram, left, y.clock.time⟩] }

/-- First section cleared (R115): a departing tram leaves the front of its road for the expectation list, a shunted one for the
headshunt, STABLED, as one change reported for each road (notes/assumptions/54); when the front entry is not the slot's tram, the
origin becomes UNVERIFIED. -/
def Plant.firstSectionCleared (env : Env) (p : Plant) (sl : Slot) : Plant :=
  let sd := p.active
  match env.slotRoute sl with
  | none => p
  | some r =>
    match sl.kind, r.source.berth?, r.target.berth? with
    | some .shuntIn, _, _ => p
    | some _, some origin, target =>
      match (p.current.road? origin).bind Road.front with
      | some e =>
        if some e.tram = sl.tram then
          let leave := fun (x : Road) => { x with entries := x.entries.dropLast }
          match target with
          | some dest =>
            let q := p.mapRoads sd origin leave dest fun x =>
              { x with entries := x.entries ++ [{ e with state := .stabled, timeStabled := p.time sd }] }
            let q := Plant.noteStabled env (q.passBerthChange sd) sd e.tram
            (q.report sd (.berthChanged origin e.tram (some e.state) none .firstSectionCleared)).report sd
              (.berthChanged dest e.tram none (some .stabled) .firstSectionCleared)
          | none =>
            let q := (p.mapRoad sd origin leave).expect sd e.tram origin
            let q := (q.passBerthChange sd).noteGone sd e.tram
            q.report sd (.berthChanged origin e.tram (some e.state) none .firstSectionCleared)
        else p.unverify sd origin (.event .firstSectionCleared)
      | none => p.unverify sd origin (.event .firstSectionCleared)
    | _, _, _ => p

/-- Route freed normally: the ARRIVING entry of a route into a berth road, but for a SHUNT-OUT, becomes STABLED; when there is
none, the destination becomes UNVERIFIED (R116). -/
def Plant.freedNormally (env : Env) (p : Plant) (sl : Slot) : Plant :=
  let sd := p.active
  match sl.kind, (env.slotRoute sl).bind fun r => r.target.berth? with
  | some .shuntOut, _ => p
  | some k, some dest =>
    if (p.current.road? dest).any fun r => r.holds sl.tramNumber .arriving then
      let q := p.mapRoad sd dest fun r => { r with entries := entryIn .stabled (p.time sd) r.entries sl.tramNumber }
      let q := q.mapSession fun c => if k.fromGate then { c with arrivals := c.arrivals + 1 } else c
      (q.passBerthChange sd).report sd (.berthChanged dest sl.tramNumber (some .arriving) (some .stabled) .freedNormally)
    else p.unverify sd dest (.event .freedNormally)
  | _, _ => p

/-- Route freed unfinished before entry (R117): an ARRIVING entry goes back to the head of the arrival queue, or to the
headshunt STABLED, and a DEPARTING entry is STABLED again where it stands. For a slot still SETTING, which was never handed
route locked, there is nothing to undo. Verification is not touched. A shunt taken back is one change reported for each road
(notes/assumptions/54). -/
def Plant.freedBeforeEntry (env : Env) (p : Plant) (sl : Slot) : Plant :=
  let sd := p.active
  let tram := sl.tramNumber
  match env.slotRoute sl, (if sl.state = .setting then none else sl.kind) with
  | some r, some k =>
    match r.source.berth?, r.target.berth? with
    | none, some dest =>
      match ((p.current.road? dest).map Road.entries).bind fun l => l.find? fun e => e.tram == tram && e.state == .arriving with
      | some e =>
        let q := p.mapRoad sd dest fun x => { x with entries := withoutTram tram x.entries }
        let back : Arrival := ⟨e.tram, e.length, e.cls, e.departure, (env.tram? e.tram).isSome, none⟩
        let q := q.setArrivals sd (back :: q.current.arrivals)
        (q.passBerthChange sd).report sd (.berthChanged dest tram (some .arriving) none .freedBeforeEntry)
      | none => p
    | some origin, target =>
      if k = .shuntIn then
        match target with
        | some dest =>
          match ((p.current.road? dest).map Road.entries).bind fun l => l.find? fun e => e.tram == tram && e.state == .arriving with
          | some e =>
            let q := p.mapRoads sd dest (fun x => { x with entries := withoutTram tram x.entries }) origin fun x =>
              { x with entries := x.entries ++ [{ e with state := .stabled, timeStabled := p.time sd }] }
            let q := (q.passBerthChange sd).report sd (.berthChanged dest tram (some .arriving) none .freedBeforeEntry)
            q.report sd (.berthChanged origin tram none (some .stabled) .freedBeforeEntry)
          | none => p
        | none => p
      else if (p.current.road? origin).any fun x => x.holds tram .departing then
        let q := p.mapRoad sd origin fun x =>
          { x with entries := x.entries.map fun e => if e.tram == tram then { e with state := .stabled } else e }
        let q := Plant.noteStabled env (q.passBerthChange sd) sd tram
        q.report sd (.berthChanged origin tram (some .departing) (some .stabled) .freedBeforeEntry)
      else p
    | none, none => p
  | _, _ => p

/-- Route freed unfinished after entry: entries stay, and every berth road the route names becomes UNVERIFIED (R118). -/
def Plant.freedAfterEntry (env : Env) (p : Plant) (sl : Slot) : Plant :=
  match env.slotRoute sl with
  | some r => p.unverifyAll p.active r.berths (.event .freedAfterEntry)
  | none => p

/-! ## Gate reads (R120, R121) -/

/-- A tram queued at the end of the arrival queue (R120, case 7); one that is not in the register joins as unknown, with its
UNKNOWN TRAM report. -/
def Plant.queueArrival (env : Env) (p : Plant) (sd : Side) (tram : Nat) : Plant :=
  let d := env.dataOf tram
  let known := (env.tram? tram).isSome
  let q := p.setArrivals sd ((p.yardOf sd).arrivals ++ [⟨tram, d.length, d.cls, d.departure, known, none⟩])
  let q := q.passBerthChange sd
  if known then q else q.report sd (.unknownTram tram d.length d.cls d.departure)

/-- A berth entry removed from its road by a gate read, the road becoming UNVERIFIED (R120, R121). -/
def Plant.removeFound (p : Plant) (sd : Side) (tram : Nat) (b : Berth) : Plant :=
  ((p.mapRoad sd b fun r => { r with entries := withoutTram tram r.entries }).passBerthChange sd).unverify sd b .identity

/-- The berth entry of a tram removed wherever it stands (R121). -/
def Plant.removeBerthed (p : Plant) (sd : Side) (tram : Nat) : Plant :=
  match (p.yardOf sd).roadOfTram tram with
  | some r => p.removeFound sd tram r.berth
  | none => p

/-- Where a berth entry of a tram stands. -/
def Yard.placeOf (y : Yard) (tram : Nat) : Option TramPlace := (y.roadOfTram tram).map fun r => .berth r.berth

/-- A read of a tram at G1 (R120, cases 2 to 7). DISCARDED_FULL carries no place (notes/assumptions/52), and one GATE READ stands for
a read that takes the tram from a road or the expectation list and queues it (R119; notes/assumptions/53). -/
def Plant.inboundTram (env : Env) (p : Plant) (sd : Side) (tram : Nat) : Plant :=
  let y := p.yardOf sd
  let told := fun (q : Plant) (o : ReadOutcome) (place : Option TramPlace) =>
    q.report sd (.gateRead 1 (.tram tram) o (some tram) place)
  if y.arrivals.any fun a => a.tram == tram then told p .repeated (some .arrivals)
  else if (Plant.arrivingSlots env p sd).any fun sl => sl.tram == some tram then told p .repeated (y.placeOf tram)
  else if Config.arrivalCapacity ≤ Plant.arrivalCount env p sd then told p .discardedFull none
  else
    match y.expectations.find? fun x => x.tram == tram with
    | some x =>
      let q := p.mapYard sd fun y => { y with expectations := y.expectations.filter fun x => x.tram != tram }
      told (Plant.queueArrival env q sd tram) .returned (some (.expected x.berth))
    | none =>
      match y.roadOfTram tram with
      | some r =>
        let q := p.handFault sd .identity (.reader 1) none (some (.identity none tram))
        let q := q.removeFound sd tram r.berth
        told (Plant.queueArrival env q sd tram) .identity (some (.berth r.berth))
      | none => told (Plant.queueArrival env p sd tram) .queued none

/-- An inbound read (R120). -/
def Plant.inboundRead (env : Env) (p : Plant) (sd : Side) : GateRead → Plant
  | .unreadable => p.report sd (.gateRead 1 .unreadable .unreadable none none)
  | .tram n => Plant.inboundTram env p sd n

/-- An outbound read (R121). -/
def Plant.outboundRead (p : Plant) (sd : Side) (read : GateRead) : Plant :=
  let y := p.yardOf sd
  match y.expectations, read with
  | [], .unreadable => p.report sd (.gateRead 2 read .unexpected none none)
  | [], .tram n =>
    let q := p.handFault sd .identity (.reader 2) none (some (.identity none n))
    (q.removeBerthed sd n).report sd (.gateRead 2 read .unexpected (some n) (y.placeOf n))
  | x :: rest, .unreadable =>
    (p.mapYard sd fun y => { y with expectations := rest }).report sd
      (.gateRead 2 read .departedUnread (some x.tram) (some (.expected x.berth)))
  | x :: rest, .tram n =>
    if n = x.tram then
      (p.mapYard sd fun y => { y with expectations := rest }).report sd
        (.gateRead 2 read .matched (some n) (some (.expected x.berth)))
    else
      let q := p.mapYard sd fun y => { y with expectations := rest.filter fun z => z.tram != n }
      let q := q.handFault sd .identity (.reader 2) none (some (.identity (some x.tram) n))
      let q := (q.unverify sd x.berth .identity).removeBerthed sd n
      q.report sd (.gateRead 2 read .mismatched (some n)
        (match rest.find? fun z => z.tram == n with
          | some z => some (.expected z.berth)
          | none => y.placeOf n))

/-- A read of a gate's reader taken by a side (R52): written as its last read with its time, and handed to the stabling
record. -/
def Plant.takeRead (env : Env) (p : Plant) (sd : Side) (gate : Nat) (read : GateRead) : Plant :=
  let r := read.taken
  let q := p.mapYard sd fun y =>
    { y with readers := updBy Reader.gate gate (fun x => { x with lastRead := some r, time := y.clock.time }) y.readers }
  if gate = 1 then Plant.inboundRead env q sd r else q.outboundRead sd r

end Sys2Proof.Machine
end

