-- ==== Sys2Proof/Machine/Allocation.lean ====
section
/-! DEFINITION. The allocation unit (chapter 8): barred routes, eligibility, the score and the ranking. -/

namespace Sys2Proof.Machine

open Sys2Proof

/-! ## Barred routes (R130) -/

/-- Whether the list holds an OPEN record of class ELEMENT for an element. -/
def FaultList.opens (l : FaultList) (e : FaultElement) : Bool :=
  l.records.any fun r => !r.cleared && r.kind.cls == .element && r.element == some e

/-- Whether an element carries an open fault: its own, or LINK_DOWN of its link. -/
def Yard.carriesFault (env : Env) (y : Yard) (e : FaultElement) : Bool :=
  y.faults.opens e || (env.layout.linkOf e).any fun n => y.faults.holdsOpen .linkDown (.link n)

/-- Whether a route is barred: by an open fault of an element, or by a point out of use that does not lie where the route
requires it. -/
def Yard.barred (env : Env) (y : Yard) (r : RouteRecord) : Bool :=
  r.elements.any (fun e => Yard.carriesFault env y e) ||
    r.required.any fun x => (y.point? x.1).any fun pt => pt.outOfUse && !pt.lies x.2

/-- The lowest-numbered unbarred route between two endpoints (R151, R153); the layout holds its routes in ascending number. -/
def Yard.unbarredRoute (env : Env) (y : Yard) (a b : Endpoint) : Option RouteRecord :=
  env.layout.routes.find? fun r => r.source == a && r.target == b && !Yard.barred env y r

/-! ## The score (R132, R133) -/

/-- S = F* − D* for a front entry. -/
def orderDifference (front departure : Option Nat) : Int := (starred front : Int) - (starred departure : Int)

/-- The order term and mark of a road: absent when the road would block and blocking is not allowed (R132). -/
def orderTerm (params : Params) (front : Option BerthEntry) (departure : Option Nat) : Option (Nat × OrderMark) :=
  match front with
  | none => some (params.emptyPenalty, .empty)
  | some f =>
    let s := orderDifference f.departure departure
    if 0 ≤ s then some (s.toNat, .order s)
    else if params.blockingAllowed = 1 then
      some (params.blockingPenalty + params.inversionWeight * (-s).toNat, .order s)
    else none

/-- The length term: the whole part of R × K / 100 (R133). -/
def lengthTerm (params : Params) (spare : Nat) : Nat := spare * params.lengthWeight / 100

/-- Whether an order mark carries the blocking marker: S < 0. -/
def OrderMark.blocking : OrderMark → Bool
  | .empty => false
  | .order s => s < 0

/-- The candidate that a road makes for a tram, when its order term is defined. -/
def candidateOf (params : Params) (d : RoadRecord) (r : Road) (t : RegisterEntry) : Option Candidate :=
  (orderTerm params r.front t.departure).map fun o =>
    let spare := d.usable - lengthWith params.berthGap r.entries t.length
    { road := d.number, entries := r.entries.length, score := o.1 + lengthTerm params spare, mark := o.2,
      blocking := o.2.blocking, spare := spare, orderTerm := o.1, lengthTerm := lengthTerm params spare }

/-! ## Eligibility (R131) -/

/-- Whether a class mask contains a class, 1 to 4. -/
def classAdmitted (mask : BitVec 4) (k : Nat) : Bool := 1 ≤ k && k ≤ 4 && mask.getLsbD (k - 1)

/-- A stabling road judged by Table 8-2 in its order: the candidate, or the number of the first condition that fails. -/
def Plant.judgeRoad (env : Env) (p : Plant) (t : RegisterEntry) (n : Nat) : Except Nat Candidate :=
  match env.layout.road? n, p.current.road? (.road n) with
  | some d, some r =>
    if r.closed then .error 2
    else if !r.verified then .error 3
    else if !classAdmitted d.classMask t.cls then .error 4
    else if r.entries.any fun e => e.state != .stabled then .error 5
    else if p.slotNames env (.road n) || p.queueNames env (.road n) then .error 6
    else if p.current.arrivals.any fun a => a.reserved == some n && a.tram != t.tram then .error 7
    else if !fitsRoad env.params.berthGap d.usable r.entries t.length then .error 8
    else if (Yard.unbarredRoute env p.current .g1 (.berth (.road n))).isNone then .error 9
    else
      match candidateOf env.params d r t with
      | some c => .ok c
      | none => .error 10
  | _, _ => .error 1

/-! ## Selection (R135) -/

/-- Whether a candidate ranks before another: by score, then by fewer entries, then by road number. -/
def Candidate.before (a b : Candidate) : Bool :=
  a.score < b.score ||
    (a.score == b.score && (a.entries < b.entries || (a.entries == b.entries && a.road < b.road)))

/-- A candidate put in its place in a ranking. -/
def rankIn (c : Candidate) : List Candidate → List Candidate
  | [] => [c]
  | d :: rest => if c.before d then c :: d :: rest else d :: rankIn c rest

/-- The stabling roads judged. -/
def roadNumbers : List Nat := [1, 2, 3, 4, 5, 6, 7, 8, 9, 10, 11, 12, 13, 14, 15, 16]

/-- The candidate of a judged road, if it is eligible. -/
def eligible : Except Nat Candidate → Option Candidate
  | .ok c => some c
  | .error _ => none

/-- The code of a judged road, if it is not eligible (R137). -/
def codeOf : Except Nat Candidate → Option Nat
  | .ok _ => none
  | .error n => some n

/-- An allocation: the eligible roads for a tram in rank order (R129, R135). The first is the selected road; an empty list is
NO_BERTH. -/
def Plant.allocate (env : Env) (p : Plant) (t : RegisterEntry) : List Candidate :=
  (roadNumbers.filterMap fun n => eligible (Plant.judgeRoad env p t n)).foldl (fun l c => rankIn c l) []

/-- The eligibility code of every stabling road (R137). -/
def Plant.roadCodes (env : Env) (p : Plant) (t : RegisterEntry) : List (Nat × Option Nat) :=
  roadNumbers.map fun n => (n, codeOf (Plant.judgeRoad env p t n))

end Sys2Proof.Machine
end

