-- ==== Sys2Proof/Machine/RouteLocking.lean ====
section
/-! DEFINITION. The route locking unit (chapters 4 and 5): aspect commands, opening, reversion, entry, sectional release,
freeing and abandonment, and what the shift sequencer is told of a route's end. -/

namespace Sys2Proof.Machine

open Sys2Proof

/-! ## What the sequencer is told (R78, R97, R149, R152) -/

/-- The reserved road of a tram's arrival entry cleared, wherever the entry stands in the queue (R152). -/
def Plant.clearReservation (p : Plant) (sd : Side) (tram : Nat) : Plant :=
  p.mapYard sd fun y =>
    { y with arrivals := y.arrivals.map fun a => if a.tram == tram then { a with reserved := none } else a }

/-- The fate of a request or route of origin AUTOMATIC handed to the sequencer: a departure is taken by its run-out entry
(R149), an arrival that ends other than by take or FREED loses its reservation (R152), and a round follows (R150). -/
def Plant.handFate (env : Env) (p : Plant) (sd : Side) (origin : Option Origin) (route : Nat) (tram : Option Nat) (f : Fate) :
    Plant :=
  if origin = some .automatic then
    let q : Plant :=
      match tram with
      | none => p
      | some t =>
        if ((env.layout.route? route).bind RouteRecord.kind).any RouteKind.fromGate then
          if f = .taken ∨ f = .freed then p else p.clearReservation sd t
        else Plant.departureFate env p sd t route f
    q.askRound sd
  else p

/-! ## Aspect commands (R46) -/

/-- The next command number of a signal, wrapping from 255 to 0. -/
def nextCommand (n : Nat) : Nat := if 255 ≤ n then 0 else n + 1

/-- The simulated runs that still wait at a signal, once its aspect is commanded: step 1 falls due 5 s after PROCEED (R174). -/
def armRuns (base signal : Nat) (a : Aspect) (runs : List SimRun) : List SimRun :=
  runs.map fun r =>
    if r.signal == signal && r.step == 0 then
      { r with due := if a = .proceed then some (base + Config.simStepTime) else none }
    else r

/-- The commanded aspect of a real signal written: its command number rises by one, and ASPECT is sent when its link is UP
(R46). -/
def Plant.writeRealAspect (env : Env) (p : Plant) (n : Nat) (a : Aspect) : Plant :=
  match p.yard.signal? n with
  | none => p
  | some g =>
    let k := nextCommand g.command
    let q := p.mapSignal .real n fun g => { g with commanded := a, command := k }
    match env.layout.linkOf (.signal n) with
    | some l => q.sendUp l (.aspect n a k)
    | none => q

/-- The commanded aspect of a copy signal written: the rehearsal unit answers at once with a current report carrying that
aspect and the copy's lamp state (R46, R174). -/
def Plant.writeCopyAspect (p : Plant) (n : Nat) (a : Aspect) : Plant :=
  match (p.yardOf .copy).signal? n with
  | none => p
  | some g =>
    let k := nextCommand g.command
    let q := p.mapSignal .copy n fun g =>
      { g with commanded := a, command := k, reported := some a, answered := some k, wrongRaised := false }
    let q := q.mapSession fun c => { c with runs := armRuns c.base n a c.runs }
    if g.reported = some a then q else q.report .copy (.signalChanged n a (some a) g.lamp)

/-- The commanded aspect of a signal of a side written. -/
def Plant.writeAspect (env : Env) (p : Plant) (sd : Side) (n : Nat) (a : Aspect) : Plant :=
  match sd with
  | .real => Plant.writeRealAspect env p n a
  | .copy => p.writeCopyAspect n a

/-- STOP commanded on a signal that is commanded PROCEED. One that is at STOP already is not written again: so the reversion of an
OPEN slot at a freeze, whose signals R161 has just written STOP, raises no command number a second time (notes/assumptions/70). -/
def Plant.stopSignal (env : Env) (p : Plant) (sd : Side) (n : Nat) : Plant :=
  if ((p.yardOf sd).signal? n).any fun g => g.commanded == .proceed then Plant.writeAspect env p sd n .stop else p

/-- STOP commanded on a slot's entry signal, if it is commanded PROCEED. -/
def Plant.stopEntrySignal (env : Env) (p : Plant) (sl : Slot) : Plant :=
  match env.slotRoute sl with
  | some r => Plant.stopSignal env p p.active r.signal
  | none => p

/-! ## Reports (R77) -/

/-- A ROUTE STATE report for a slot as it stood before the change. -/
def Plant.routeState (p : Plant) (sl : Slot) (after : SlotState) (cause : RouteCause) (failed : FailedCondition)
    (held : Bool) : Plant :=
  p.report p.active
    (.routeState sl.number (sl.route.getD 0) (sl.origin.getD .desk) sl.tram sl.state after cause failed held [])

/-! ## What a slot holds -/

/-- A point without a slot's claim and locks. -/
def Point.without (n : Nat) (x : Point) : Point :=
  { x with claim := if x.claim = some n then none else x.claim, locks := x.locks.filter fun k => k.slot != n }

/-- Everything a slot holds let go: its claims, its locks and its reservations (R65, R78). -/
def Yard.letGo (y : Yard) (n : Nat) : Yard :=
  { y with
    points := y.points.map (Point.without n)
    tracks := y.tracks.map fun t => if t.reservedBy = some n then { t with reservedBy := none } else t }

/-- A slot set FREE, every field cleared. -/
def Plant.clearSlot (p : Plant) (n : Nat) : Plant := p.mapSlot n fun _ => Slot.free n

/-- The simulated runs of a slot that have not taken step 1 discarded (R174). -/
def Plant.discardRun (p : Plant) (n : Nat) : Plant :=
  p.mapSession fun c => { c with runs := c.runs.filter fun r => !(r.slot == n && r.step == 0) }

/-- The freeing of a slot told to the throat arbiter and to the sequencer (R78, R98, R150). -/
def Plant.tellFreed (p : Plant) : Plant := (p.askScan p.active).askRound p.active

/-! ## Freeing (R78) -/

/-- The outcome the sequencer is told for a freeing cause. -/
def RouteCause.fate : RouteCause → Fate
  | .freed => .freed
  | .emergencyExpired => .expired
  | _ => .cancelled

/-- The route event due at the end of a route handed to the stabling record (Table 5-1). -/
def Plant.endEvent (env : Env) (p : Plant) (sl : Slot) (cause : RouteCause) : Plant :=
  if cause = .freed then Plant.freedNormally env p sl
  else if sl.firstMarked then Plant.freedAfterEntry env p sl
  else Plant.freedBeforeEntry env p sl

/-- A slot freed by a rule of chapter 5 (R78). Its ROUTE STATE report, placed before the slot's fields are cleared, carries aspect
held as the slot still holds it (notes/assumptions/60). -/
def Plant.freeSlot (env : Env) (p : Plant) (n : Nat) (cause : RouteCause) : Plant :=
  match p.slot? n with
  | none => p
  | some sl =>
    let sd := p.active
    let q := Plant.stopEntrySignal env p sl
    let q := q.mapYard sd fun y => y.letGo n
    let q := Plant.endEvent env q sl cause
    let q := Plant.handFate env q sd sl.origin (sl.route.getD 0) sl.tram cause.fate
    let q := q.routeState sl .free cause .none sl.aspectHeld
    ((q.discardRun n).clearSlot n).tellFreed

/-! ## Abandonment (R65) -/

/-- The route of a slot in SETTING abandoned. A slot has no bypass count, so its REQUEST DROPPED report carries 0
(notes/assumptions/50). -/
def Plant.abandon (env : Env) (p : Plant) (n : Nat) (cause : AbandonCause) : Plant :=
  match p.slot? n with
  | none => p
  | some sl =>
    let sd := p.active
    let q := p.mapYard sd fun y => y.letGo n
    let q := (q.discardRun n).clearSlot n
    let q := Plant.freedBeforeEntry env q sl
    let q := Plant.handFate env q sd sl.origin (sl.route.getD 0) sl.tram .abandoned
    let q := q.report sd
      (.requestDropped (some n) (sl.route.getD 0) (sl.origin.getD .desk) sl.tram 0 .abandoned (some cause))
    q.tellFreed

/-! ## Opening and reverting (R68 to R70) -/

/-- Whether a point lies where a slot requires it, locked by the slot. -/
def Plant.holds (env : Env) (p : Plant) (n : Nat) (x : Nat × Position) : Bool :=
  (p.current.point? x.1).any fun pt => Plant.pointLies env p p.active pt x.2 && pt.locks.any fun k => k.slot == n

/-- The opening conditions of a slot. -/
def Plant.mayOpen (env : Env) (p : Plant) (sl : Slot) : Bool :=
  (env.slotRoute sl).any fun r =>
    sl.state == .locked && r.required.all (Plant.holds env p sl.number) && r.tracks.all (Plant.trackClear env p p.active) &&
      p.elementUp env p.active (.signal r.signal) &&
      ((p.current.signal? r.signal).any fun g => g.lamp == some .ok) && !p.frozen && !sl.aspectHeld

/-- A simulated tram run made as a slot first opens; outside a session there is none (R174). -/
def Plant.startRun (p : Plant) (sl : Slot) (r : RouteRecord) : Plant :=
  p.mapSession fun c =>
    { c with
      runs := c.runs ++ [{ number := c.nextRun, slot := sl.number, signal := r.signal, tram := sl.tram, tracks := r.tracks,
                           outbound := r.target == .g2, step := 0, due := none }]
      nextRun := c.nextRun + 1 }

/-- A LOCKED slot opened when the opening conditions hold (R68). -/
def Plant.tryOpen (env : Env) (p : Plant) (n : Nat) : Plant :=
  match p.slot? n with
  | none => p
  | some sl =>
    match Plant.mayOpen env p sl, env.slotRoute sl with
    | true, some r =>
      let q := if sl.openedOnce then p else p.startRun sl r
      let q := Plant.writeAspect env q q.active r.signal .proceed
      let q := q.mapSlot n fun x => { x with state := .opened, openedOnce := true }
      let q := if sl.openedOnce then q else Plant.routeOpened env q sl
      q.routeState sl .opened .opened .none sl.aspectHeld
    | _, _ => p

/-- An OPEN slot reverted to LOCKED (R69, R70, R74). -/
def Plant.revert (env : Env) (p : Plant) (n : Nat) (cause : RouteCause) (failed : FailedCondition) : Plant :=
  match p.slot? n with
  | none => p
  | some sl =>
    if sl.state = .opened then
      let held := sl.aspectHeld || cause == .aspectLost
      let q := Plant.stopEntrySignal env p sl
      let q := q.mapSlot n fun x => { x with state := .locked, aspectHeld := held }
      q.routeState sl .locked cause failed held
    else p

/-! ## Locked (R67) -/

/-- A slot enters LOCKED, from SETTING or at its take. -/
def Plant.enterLocked (env : Env) (p : Plant) (n : Nat) (cause : RouteCause) : Plant :=
  match p.slot? n with
  | none => p
  | some sl =>
    let q := p.mapSlot n fun x => { x with state := .locked, claimed := [], timer := .off }
    let q := Plant.routeLocked env q { sl with state := .locked }
    let q := q.routeState (if cause = .taken then { sl with state := .free } else sl) .locked cause .none sl.aspectHeld
    Plant.tryOpen env q n

/-! ## The tram's passage (R72, R73, R79, R83) -/

/-- PASSED_AT_STOP handed on for a slot's entry signal. -/
def Plant.passedAtStop (env : Env) (p : Plant) (sl : Slot) : Plant :=
  match env.slotRoute sl with
  | some r => p.handFault p.active .passedAtStop (.signal r.signal) sl.context none
  | none => p

/-- The first route section whose mark is clear. -/
def firstUnmarked : List Nat → List Bool → Nat
  | t :: ts, m :: ms => if m then firstUnmarked ts ms else t
  | _, _ => 0

/-- Section j of a slot becomes occupied: its mark is set, and a sequence newly broken in ENTERED or EMERGENCY_TIMING hands on
SEQUENCE; an ENTERED slot then stops releasing, unless the yard is frozen (R79, R83). -/
def Plant.markSection (env : Env) (p : Plant) (n j : Nat) : Plant :=
  match p.slot? n with
  | none => p
  | some sl =>
    let marks := sl.marks.set j true
    let q := p.mapSlot n fun x => { x with marks := marks }
    let tracks := ((env.slotRoute sl).map RouteRecord.tracks).getD []
    if marksInSequence sl.marks && !marksInSequence marks && (sl.state == .entered || sl.state == .emergencyTiming) then
      let t := tracks.getD j 0
      let q := q.handFault q.active .sequence (.track t) sl.context (some (.sequence (firstUnmarked tracks marks) t))
      if sl.state = .entered && !p.frozen then
        (q.mapSlot n fun x => { x with state := .releaseStopped }).routeState sl .releaseStopped .sequence .none sl.aspectHeld
      else q
    else q

/-- The later route sections that a tram already occupies at entry, handed to sectional release in travel order (R73). -/
def Plant.markOccupied (env : Env) (p : Plant) (n : Nat) (tracks : List Nat) : Plant :=
  (tracks.zipIdx.drop 1).foldl
    (fun q x => if (q.current.trackState x.1).shows then Plant.markSection env q n x.2 else q) p

/-- A slot enters ENTERED (R71 to R73). -/
def Plant.enter (env : Env) (p : Plant) (n : Nat) (cause : RouteCause) : Plant :=
  match p.slot? n with
  | none => p
  | some sl =>
    let q := Plant.stopEntrySignal env p sl
    let q := q.mapSlot n fun x => { x with state := .entered, timer := .off, marks := x.marks.set 0 true }
    let q := Plant.markOccupied env q n (((env.slotRoute sl).map RouteRecord.tracks).getD [])
    q.routeState sl .entered cause .none sl.aspectHeld

/-! ## Sectional release (R80, R82) -/

/-- Route section k, counted from 0, of a slot released: its reservation and the locks of the route points over it dropped,
the count raised, first section cleared handed on for the first, and SECTION RELEASED reported (R80). -/
def Plant.releaseSection (env : Env) (p : Plant) (sl : Slot) (r : RouteRecord) (t : Nat) : Plant :=
  let sd := p.active
  let onTrack := (r.points.map (·.1)).filter fun pt => (env.layout.point? pt).any fun d => d.track == t
  let q := p.mapYard sd fun y =>
    { y with
      points := y.points.map fun x =>
        if onTrack.contains x.number then { x with locks := x.locks.filter fun k => k.slot != sl.number } else x
      tracks := updBy Track.number t (fun x => { x with reservedBy := none }) y.tracks }
  let q := q.mapSlot sl.number fun x => { x with released := sl.released + 1 }
  let q := if sl.released = 0 then Plant.firstSectionCleared env q sl else q
  q.report sd (.sectionReleased sl.number r.number t (sl.released + 1))

/-- Whether a slot releases sections: ENTERED or EMERGENCY_TIMING, the yard not frozen (R74, R80, R81). -/
def Plant.releasing (p : Plant) (sl : Slot) : Bool :=
  (sl.state == .entered || sl.state == .emergencyTiming) && !p.frozen

/-- Sections of a slot released in order for as long as the next is marked and CLEAR; the last release frees the slot (R80,
R82). The number bounds the sections tested. -/
def Plant.releaseRun (env : Env) (n : Nat) : Nat → Plant → Plant
  | 0, p => p
  | k + 1, p =>
    match p.slot? n with
    | none => p
    | some sl =>
      match env.slotRoute sl with
      | none => p
      | some r =>
        match r.tracks[sl.released]? with
        | none => p
        | some t =>
          if p.releasing sl && sl.marks.getD sl.released false && Plant.trackClear env p p.active t then
            let q := Plant.releaseSection env p sl r t
            if sl.released + 1 = r.tracks.length then Plant.freeSlot env q n .freed
            else Plant.releaseRun env n k q
          else p

/-! ## Section changes (R66, R68 to R73, R79 to R83, R91) -/

/-- A change of section j of the route of a slot, counted from 0, taken by the slot. -/
def Plant.slotSection (env : Env) (p : Plant) (sl : Slot) (r : RouteRecord) (j : Nat) (st : TrackState) : Plant :=
  let n := sl.number
  let entering := j = 0 && st.shows
  let release := fun (q : Plant) => Plant.releaseRun env n r.tracks.length q
  match sl.state with
  | .free => p
  | .setting =>
    if entering then
      let q := Plant.passedAtStop env p sl
      if p.frozen then q else Plant.abandon env q n .passedAtStop
    else p
  | .locked =>
    if entering then
      let q := Plant.passedAtStop env p sl
      if p.frozen then q else Plant.enter env q n .passedAtStop
    else Plant.tryOpen env p n
  | .opened =>
    if entering then Plant.enter env p n .entered
    else if st = .clear then p
    else Plant.revert env p n .reverted .track
  | .approachTiming =>
    if entering then
      let q := Plant.passedAtStop env p sl
      if p.frozen then q else Plant.enter env q n .passedAtStop
    else p
  | .entered => if st.shows then Plant.markSection env p n j else if st = .clear then release p else p
  | .releaseStopped => if st.shows then Plant.markSection env p n j else p
  | .emergencyTiming =>
    if st.shows then
      let q := if j = 0 && !sl.firstMarked then Plant.passedAtStop env p sl else p
      Plant.markSection env q n j
    else if st = .clear then release p
    else p

/-- A section change passed to the route locking unit, which takes it in the slot that reserves the section (R42). -/
def Plant.lockingSection (env : Env) (p : Plant) (sd : Side) (t : Nat) : Plant :=
  if sd = p.active then
    match ((p.current.track? t).bind Track.reservedBy).bind p.slot? with
    | none => p
    | some sl =>
      match env.slotRoute sl with
      | none => p
      | some r =>
        let j := r.tracks.idxOf t
        if sl.released ≤ j && j < r.tracks.length then Plant.slotSection env p sl r j (p.current.trackState t) else p
  else p

/-! ## Point, lamp and link changes (R68, R69) -/

/-- The slots in use whose route requires a point. -/
def Plant.slotsOfPoint (env : Env) (p : Plant) (pt : Nat) : List Nat :=
  (p.used.filter fun sl => (env.slotRoute sl).any fun r => (r.position? pt).isSome).map Slot.number

/-- A change of a point's state taken by one slot: an OPEN slot whose point has left its position reverts, and a LOCKED one
tests the opening conditions. -/
def Plant.slotPoint (env : Env) (p : Plant) (pt n : Nat) : Plant :=
  match p.slot? n with
  | none => p
  | some sl =>
    let right := (env.slotRoute sl).any fun r =>
      (r.position? pt).any fun pos => (p.current.point? pt).any fun x => x.lies pos
    if sl.state = .opened && !right then Plant.revert env p n .reverted .point else Plant.tryOpen env p n

/-- A change of a point's state passed to the route locking unit, and a point detected to the throat arbiter also (R31,
R98). -/
def Plant.pointChanged (env : Env) (p : Plant) (sd : Side) (pt : Nat) : Plant :=
  let q := if sd = p.active then (Plant.slotsOfPoint env p pt).foldl (fun q n => Plant.slotPoint env q pt n) p else p
  if ((q.yardOf sd).point? pt).any fun x => x.lies .normal || x.lies .reverse then q.askScan sd else q

/-- A change of an entry signal's lamp state passed to the route locking unit (R50, R69): an OPEN slot whose lamp is not OK
reverts, and a LOCKED one tests the opening conditions. -/
def Plant.lampChanged (env : Env) (p : Plant) (sd : Side) (n : Nat) : Plant :=
  if sd = p.active then
    match p.slotOfSignal env n with
    | none => p
    | some sl =>
      if sl.state = .opened then
        if (p.current.signal? n).any fun g => g.lamp == some .ok then p
        else Plant.revert env p sl.number .reverted (if p.elementUp env sd (.signal n) then .lamp else .link)
      else Plant.tryOpen env p sl.number
  else p

end Sys2Proof.Machine
end

