-- ==== Sys2Proof/Machine/PointDrive.lean ====
section
/-! DEFINITION. The point drive unit (chapter 2): the start of a drive, the throw and its supervision, and the end of a throw as
the claiming slot takes it (R23 to R34, R60 to R63). -/

namespace Sys2Proof.Machine

open Sys2Proof

/-! ## Commands (R22, R174) -/

/-- DRIVE sent for a point: on its link for a real point; a copy's goes to the rehearsal unit, where detection becomes NONE at
once and a simulated drive begins, which an obstruction meets only on its way to the target. -/
def Plant.sendDrive (env : Env) (p : Plant) (sd : Side) (n : Nat) (pos : Position) (restore : Bool) : Plant :=
  match sd with
  | .real =>
    match env.layout.linkOf (.point n) with
    | some l => p.sendUp l (.drive n pos)
    | none => p
  | .copy =>
    (p.mapPoint .copy n fun x => { x with detected := none }).mapSession fun c =>
      { c with
        drives := delBy SimDrive.point n c.drives ++
          [{ point := n, target := pos, startedAt := c.base, obstructed := !restore && c.obstruct.contains n,
             undetected := c.noDetect.contains n, samples := 0 }] }

/-- STOP sent for a point; a simulated drive ends with it. -/
def Plant.sendStop (env : Env) (p : Plant) (sd : Side) (n : Nat) : Plant :=
  match sd with
  | .real =>
    match env.layout.linkOf (.point n) with
    | some l => p.sendUp l (.stop n)
    | none => p
  | .copy => p.mapSession fun c => { c with drives := delBy SimDrive.point n c.drives }

/-- STOP sent for a point that is MOVING or RESTORING (R32, R34). -/
def Plant.stopDrive (env : Env) (p : Plant) (sd : Side) (x : Point) : Plant :=
  if x.state == .moving || x.state == .restoring then Plant.sendStop env p sd x.number else p

/-! ## The conditions of a drive (R23) -/

/-- Whether a point's section is CLEAR (R23, R41). -/
def Plant.pointClear (env : Env) (p : Plant) (sd : Side) (n : Nat) : Bool :=
  (env.layout.point? n).any fun d => Plant.trackClear env p sd d.track

/-- The conditions under which a drive starts. -/
def Plant.mayDrive (env : Env) (p : Plant) (sd : Side) (x : Point) : Bool :=
  x.locks.isEmpty && Plant.pointClear env p sd x.number && !x.outOfUse &&
    p.elementUp env sd (.point x.number) && !p.frozen && (sd == .copy || p.session.isNone)

/-! ## The start of a throw (R24) -/

/-- A throw begun toward a target: parameters captured, counts at 0, DRIVE sent, THROW STARTED reported (R24). The point's last
duration and last peak stay those of the throw before until this one ends (DESIGN CHOICE, notes/assumptions/74). -/
def Plant.beginThrow (env : Env) (p : Plant) (sd : Side) (n : Nat) (target : Position) (origin : ThrowOrigin) : Plant :=
  let now := p.base sd
  let th : Throw :=
    { target := target, origin := origin, timeLimit := env.params.throwTimeLimit, obstruction := env.params.obstruction,
      openCircuit := env.params.openCircuit, retries := env.params.retries, peak := 0, startedAt := now, driveAt := now,
      samples := 0, obstructionRun := 0, openRun := 0, pauseEnd := none }
  let q := p.mapPoint sd n fun x => { x with state := .moving, attempts := 0, throw := some th }
  (Plant.sendDrive env q sd n target false).report sd (.throwStarted n target origin)

/-! ## A throw end in the claiming slot (R62, R63, R74) -/

/-- How a route holds a point: ROUTE for its point list, FLANK for its flank list. -/
def markOf (r : RouteRecord) (n : Nat) : LockMark := if r.points.any fun x => x.1 == n then .route else .flank

/-- A point locked by a slot where its route requires it. -/
def Plant.lockPoint (p : Plant) (sl : Slot) (r : RouteRecord) (n : Nat) (pos : Position) : Plant :=
  p.mapPoint p.active n fun x =>
    { x with
      claim := if x.claim = some sl.number then none else x.claim
      locks := x.locks ++ [⟨sl.number, markOf r n, pos⟩] }

/-- The end of a claimed throw taken by its slot: COMPLETED locks the point, and the last one locks the route; FROZEN clears
the claim and nothing else; any other cause abandons the route. -/
def Plant.slotThrowEnd (env : Env) (p : Plant) (n pt : Nat) (cause : ThrowCause) : Plant :=
  match p.slot? n with
  | none => p
  | some sl =>
    if sl.state = .setting then
      match cause with
      | .frozen => p.mapPoint p.active pt fun x => { x with claim := none }
      | .completed =>
        match env.slotRoute sl with
        | none => p
        | some r =>
          let q := p.lockPoint sl r pt ((r.position? pt).getD .normal)
          let left := sl.claimed.filter fun x => x.1 != pt
          let q := q.mapSlot n fun x => { x with claimed := left }
          if left.isEmpty then Plant.enterLocked env q n .settingDone else q
      | c => Plant.abandon env p n (.throwEnd pt c)
    else p

/-! ## The end of a throw (R31) -/

/-- A throw of a point ended: the point's state and figures written, the record passed on, the end handed to the claiming slot
and reported, the point's new state passed on, and a scan asked for (R31, R98). The duration is the elapsed time in whole units of
0.1 s (notes/assumptions/47). -/
def Plant.throwEnd (env : Env) (p : Plant) (sd : Side) (n : Nat) (cause : ThrowCause) (st : PointState)
    (record : Option FaultKind) : Plant :=
  match (p.yardOf sd).point? n with
  | none => p
  | some x =>
    match x.throw with
    | none => p
    | some th =>
      let duration := (p.base sd - th.startedAt) / 100
      let q := p.mapPoint sd n fun x =>
        { x with state := st, throw := none, lastDuration := duration, lastPeak := th.peak }
      let q : Plant :=
        match record with
        | none => q
        | some k =>
          q.handFault sd k (.point n) ((x.claim.bind q.slot?).bind Slot.context)
            (some (.throwData th.target x.attempts th.peak duration))
      let q : Plant :=
        match x.claim with
        | some s => if sd = q.active then Plant.slotThrowEnd env q s n cause else q
        | none => q
      let q := q.report sd (.throwEnded n th.target cause st x.attempts duration th.peak)
      (Plant.pointChanged env q sd n).askScan sd

/-- A throw ended INTERRUPTED (R32). -/
def Plant.interrupt (env : Env) (p : Plant) (sd : Side) (x : Point) : Plant :=
  Plant.throwEnd env (Plant.stopDrive env p sd x) sd x.number .interrupted x.rest (some .throwInterrupted)

/-- A throw ended FROZEN (R34). -/
def Plant.freezeThrow (env : Env) (p : Plant) (sd : Side) (x : Point) : Plant :=
  Plant.throwEnd env (Plant.stopDrive env p sd x) sd x.number .frozen x.rest none

/-- A throw ended because a restore or a retry may not start: by the rule of the failure, which is link loss (R33), freeze (R34)
or, for every other, R32 (notes/assumptions/13). -/
def Plant.notStarted (env : Env) (p : Plant) (sd : Side) (x : Point) : Plant :=
  if !p.elementUp env sd (.point x.number) then Plant.throwEnd env p sd x.number .linkLost .unknown none
  else if p.frozen then Plant.freezeThrow env p sd x
  else Plant.interrupt env p sd x

/-- A further drive of a throw begun, toward the target or back: run counts and time limit afresh (R26, R27). The position that it
seeks must be reported during it, also when it is detected already (notes/assumptions/63). -/
def Plant.driveOn (env : Env) (p : Plant) (sd : Side) (x : Point) (th : Throw) (pos : Position) (restore : Bool) : Plant :=
  if Plant.mayDrive env p sd x then
    let q := p.mapPoint sd x.number fun y =>
      { y with
        state := if restore then .restoring else .moving
        throw := some { th with driveAt := p.base sd, samples := 0, obstructionRun := 0, openRun := 0, pauseEnd := none } }
    Plant.sendDrive env q sd x.number pos restore
  else Plant.notStarted env p sd x

/-! ## Supervision (R26 to R30, R36) -/

/-- The throw after one more sample (R26). -/
def Throw.sample (th : Throw) (v : Nat) : Throw :=
  let k := th.samples + 1
  { th with
    samples := k
    peak := max th.peak v
    obstructionRun := if th.obstruction < v then th.obstructionRun + 1 else 0
    openRun := if Config.openCircuitFrom ≤ k && v < th.openCircuit then th.openRun + 1 else 0 }

/-- A current sample for a point: discarded unless the point is MOVING or RESTORING; a run that it completes is acted on (R22,
R26 to R29). -/
def Plant.currentSample (env : Env) (p : Plant) (sd : Side) (n v : Nat) : Plant :=
  match (p.yardOf sd).point? n with
  | none => p
  | some x =>
    match x.throw with
    | none => p
    | some th =>
      if x.state == .moving || x.state == .restoring then
        let th := th.sample v
        let q := p.mapPoint sd n fun y => { y with throw := some th }
        if Config.obstructionLimit ≤ th.obstructionRun then
          if x.state = .moving then Plant.driveOn env q sd { x with throw := some th } th th.target.opposite true
          else Plant.throwEnd env (Plant.sendStop env q sd n) sd n .obstructed x.rest (some .throwObstructed)
        else if Config.openCircuitLimit ≤ th.openRun then
          Plant.throwEnd env (Plant.sendStop env q sd n) sd n .motorOpen x.rest (some .motorOpen)
        else q
      else p

/-- Detection taken by a point with a throw in progress, whose record holds it already (R27, R30, R36). -/
def Plant.detectThrowing (env : Env) (p : Plant) (sd : Side) (x : Point) (th : Throw) (det : Option Position) : Plant :=
  let n := x.number
  let done : Plant :=
    Plant.throwEnd env p sd n .completed th.target.state (if 1 ≤ x.attempts then some .throwRetried else none)
  match x.state with
  | .moving => if det = some th.target then done else p
  | .restoring =>
    if det = some th.target.opposite then
      let k := x.attempts + 1
      let q := p.mapPoint sd n fun y => { y with attempts := k }
      if k ≤ th.retries then
        q.mapPoint sd n fun y =>
          { y with state := .retryWait, throw := some { th with pauseEnd := some (p.base sd + Config.retryPause) } }
      else Plant.throwEnd env q sd n .obstructed th.target.opposite.state (some .throwObstructed)
    else p
  | .retryWait =>
    match det with
    | none => Plant.throwEnd env p sd n .noDetection .failed (some .detectionLost)
    | some pos => if pos = th.target then done else p
  | _ => p

/-- The time limit of a point's drive reached: STOP, and the throw ends FAILED (R30). -/
def Plant.driveLimit (env : Env) (p : Plant) (sd : Side) (x : Point) : Plant :=
  Plant.throwEnd env (Plant.sendStop env p sd x.number) sd x.number .noDetection .failed (some .throwNoDetection)

/-- The retry pause of a point ended: a new drive toward the target (R27). -/
def Plant.retry (env : Env) (p : Plant) (sd : Side) (x : Point) (th : Throw) : Plant :=
  Plant.driveOn env p sd x th th.target false

/-- When the running drive of a point reaches its limit; absent unless it is MOVING or RESTORING. -/
def Point.limitDue (x : Point) : Option Nat :=
  if x.state == .moving || x.state == .restoring then x.throw.map fun th => th.driveAt + 100 * th.timeLimit else none

/-- When the retry pause of a point ends; absent unless it is in RETRY_WAIT. -/
def Point.pauseDue (x : Point) : Option Nat := if x.state == .retryWait then x.throw.bind Throw.pauseEnd else none

end Sys2Proof.Machine
end

