-- ==== Sys2Proof/Machine/Freeze.lean ====
section
/-! DEFINITION. Requests that leave the queue other than by take (R101 to R106), the end of a rehearsal session (R176), and the
yard freeze (R161, R163, R166). -/

namespace Sys2Proof.Machine

open Sys2Proof

/-! ## Requests leaving the queue (R97, R101 to R106) -/

/-- A request removed from the queue: REQUEST DROPPED reported, an automatic request's fate handed to the sequencer, and a scan
asked for (R98). -/
def Plant.dropRequest (env : Env) (p : Plant) (r : Request) (reason : DropReason) (fate : Fate) : Plant :=
  let q : Plant := { p with queue := p.queue.filter fun x => x.route != r.route }
  let q := q.report q.active (.requestDropped none r.route r.origin r.tram r.bypass reason none)
  (Plant.handFate env q q.active (some r.origin) r.route r.tram fate).askScan q.active

/-- Every request of the queue that meets a test removed, in queue order. -/
def Plant.dropWhere (env : Env) (p : Plant) (test : Request → Bool) (reason : DropReason) (fate : Fate) : Plant :=
  (p.queue.filter test).foldl (fun q r => Plant.dropRequest env q r reason fate) p

/-! ## The end of a session (R176) -/

/-- The session's slots freed with no event and no fate, and its queue emptied (R176, step 1). -/
def Plant.endSlots (env : Env) (p : Plant) : Plant :=
  Plant.dropWhere env { p with slots := freeSlots } (fun _ => true) .rehearsalEnd .withdrawn

/-- The summary of a session as it stands (R176). -/
def Session.summary (c : Session) : Summary :=
  { departures := c.departures, missed := c.missed,
    blocked := (c.copy.runOut.filter fun e => e.state == .blocked).length,
    arrivals := c.arrivals, faults := c.faults, clock := c.copy.clock }

/-- The summary that the end of the present session gives. -/
def Plant.endSummary (env : Env) (p : Plant) : Option Summary := (Plant.endSlots env p).session.map Session.summary

/-- A frame sent on every link that is UP. -/
def Plant.sendAllUp (p : Plant) (f : LinkFrame) : Plant :=
  (p.links.filter fun l => l.state == .up).foldl (fun q l => q.send l.number f) p

/-- The control mode set, with its report (R103). -/
def Plant.setMode (p : Plant) (m : Mode) (cause : ModeCause) : Plant :=
  { p with mode := m }.report .real (.controlMode m cause)

/-- A session ended: slots and queue cleared, the copies discarded, RELEASE-SAFE sent, MANUAL set, and readiness worked on the
real list with every result handed afresh (R176). The tram of the last NO_BERTH report stays only if it heads the real arrival queue
(R151; notes/assumptions/57). -/
def Plant.endSession (env : Env) (p : Plant) : Plant :=
  let q : Plant := { Plant.endSlots env p with session := none }
  let q := (q.sendAllUp .releaseSafe).setMode .manual .sessionEnd
  (q.setArrivals .real q.yard.arrivals).workReadiness .real true

/-- A session ended by a YARD fault of the real yard: REHEARSAL ENDED carries the summary (R176). -/
def Plant.endSessionByFault (env : Env) (p : Plant) : Plant :=
  match Plant.endSummary env p with
  | some s => (Plant.endSession env p).report .real (.rehearsalEnded s)
  | none => p

/-! ## The yard freeze (R161) -/

/-- STOP written as the commanded aspect of every signal present, whatever its aspect before. -/
def Plant.stopAll (env : Env) (p : Plant) : Plant :=
  (p.current.signals.map Signal.number).foldl (fun q n => Plant.writeAspect env q q.active n .stop) p

/-- Every throw in progress ended FROZEN (R34). -/
def Plant.freezeThrows (env : Env) (p : Plant) : Plant :=
  (p.current.points.filter Point.throwing).foldl (fun q x => Plant.freezeThrow env q q.active x) p

/-- Every OPEN slot reverted with cause FROZEN (R74). -/
def Plant.freezeSlots (env : Env) (p : Plant) : Plant :=
  (p.slots.map Slot.number).foldl (fun q n => Plant.revert env q n .frozen .none) p

/-- Slot timers and request expiries held at the time remaining, and the restart hold ended (R75, R93, R101). -/
def Plant.holdTimers (p : Plant) : Plant :=
  let now := p.base p.active
  { p with
    slots := p.slots.map fun sl => { sl with timer := sl.timer.hold now }
    queue := p.queue.map (Request.stop now)
    hold := none }

/-- The yard frozen with a primary cause. -/
def Plant.freezeYard (env : Env) (p : Plant) (c : Cause) : Plant :=
  let q : Plant := { p with freeze := some ⟨c, [], false⟩ }
  (Plant.freezeSlots env (Plant.freezeThrows env (Plant.stopAll env q))).holdTimers

/-- A cause added to a freeze record: the first empty further place, or else the "more" flag (R163). -/
def FreezeRecord.add (f : FreezeRecord) (c : Cause) : FreezeRecord :=
  if f.further.length < Config.furtherCapacity then { f with further := f.further ++ [c] } else { f with more := true }

/-- The record that a YARD fault's report carries. -/
def Cause.record (c : Cause) (marker : Bool) : FaultRecord :=
  { number := c.number, kind := c.kind, element := c.element, time := c.time, context := c.context, check := c.check,
    further := [], more := false, cleared := false, marker := marker }

/-- A YARD fault handed to the fault recorder: numbered; it freezes the yard, ending a session first when it is of the real
yard, or is added to the freeze; its report follows (R157, R161, R163, R176). -/
def Plant.yardFault (env : Env) (p : Plant) (sd : Side) (kind : FaultKind) (element : Option FaultElement)
    (context : Option RouteContext) (check : Option CheckData) : Plant :=
  let c : Cause :=
    { number := (p.yardOf sd).faults.next, kind := kind, element := element, time := p.time sd, context := context,
      check := check }
  let q := p.mapYard sd fun y => { y with faults := y.faults.numbered }
  let q := if sd = .copy then q.mapSession fun s => { s with faults := s.faults + 1 } else q
  match p.freeze with
  | some f => ({ q with freeze := some (f.add c) } : Plant).report sd (.fault (c.record (sd == .copy)) false (some false))
  | none =>
    let q := if sd = .real then Plant.endSessionByFault env q else q
    (Plant.freezeYard env q c).report sd (.fault (c.record (sd == .copy)) false (some true))

/-! ## The end of a freeze (R166, R167) -/

/-- The freeze record as the CLEARED YARD record that the fault list stores. -/
def FreezeRecord.record (f : FreezeRecord) (marker : Bool) : FaultRecord :=
  { f.primary.record marker with further := f.further, more := f.more, cleared := true }

/-- The freeze record stored in the fault list of the yard in force, and the freeze ended; whether it was stored is the second
part. -/
def Plant.storeFreeze (p : Plant) : Plant × Bool :=
  match p.freeze with
  | none => (p, true)
  | some f =>
    let sd := p.active
    let kept := (p.yardOf sd).faults.store (f.record (sd == .copy))
    ({ p.mapYard sd fun y => { y with faults := kept.1 } with freeze := none }, kept.2)

/-- Whether the primary cause of a freeze is gone (Table 10-1, R165). -/
def Plant.primaryGone (env : Env) (p : Plant) (c : Cause) : Bool :=
  match c.kind, c.element, c.check with
  | .pointTrailed, some (.point n), some (.throwData pos _ _ _) =>
    match p.current.point? n with
    | some x => x.isDetected pos
    | none => true
  | .wrongAspect, some (.signal n), _ =>
    match p.current.signal? n with
    | some g => (g.isCurrent && g.reported == some .stop) || !p.elementUp env p.active (.signal n)
    | none => true
  | _, _, _ => true

end Sys2Proof.Machine
end

