-- ==== Sys2Proof/Machine/Arbiter.lean ====
section
/-! DEFINITION. The throat arbiter (chapter 6): the conditions of a request, its queuing, the take test, the take, the scan and
its bypass counts. -/

namespace Sys2Proof.Machine

open Sys2Proof

/-! ## A request judged and queued (R95, R96) -/

/-- Whether a route is queued or held by a slot in use. -/
def Plant.routeHeld (p : Plant) (route : Nat) : Bool :=
  p.queue.any (fun r => r.route == route) || (p.slotOfRoute route).isSome

/-- The refusal of a berth answer. -/
def refusalOf : Except Reason Nat → Option Reason
  | .ok _ => none
  | .error x => some x

/-- What refuses a request for a route with the tram given, by Table 6-2 in its order. -/
def Plant.requestRefusal (env : Env) (p : Plant) (authority : Bool) (route : Nat) (tram : Option Nat) : Option Reason :=
  if p.frozen then some .frozen
  else if !authority then some .notAuthority
  else if !env.held then some .noLayout
  else if p.holding then some .hold
  else
    match env.layout.route? route with
    | none => some .unknownItem
    | some r =>
      if !tram.all tramInRange then some .unknownItem
      else if p.routeHeld route then some .duplicate
      else if Config.queueCapacity ≤ p.queue.length then some .queueFull
      else refusalOf (Plant.berthAnswerFor env p r false tram)

/-- The request that joins the queue now (R96). -/
def Plant.newRequest (env : Env) (p : Plant) (route : Nat) (origin : Origin) (tram : Option Nat) : Request :=
  let now := p.base p.active
  { route := route, origin := origin, tram := tram, queuedAt := now, queuedTime := p.time p.active,
    expiry := now + 1000 * env.params.requestExpiry, stopped := none, bypass := 0, held := false }

/-- A request appended to the queue, with its REQUEST QUEUED report (R96). -/
def Plant.enqueue (env : Env) (p : Plant) (route : Nat) (origin : Origin) (tram : Option Nat) : Plant :=
  let r := Plant.newRequest env p route origin tram
  let q : Plant := { p with queue := p.queue ++ [r] }
  q.report q.active (.requestQueued route origin tram q.queue.length r.queuedAt r.queuedTime)

/-! ## The take test (R57) -/

/-- The answers to an offer that passes or fails; a pass names the tram (R57). -/
inductive Offer where
  | wait
  | unfit
  | takes (tram : Nat)
  deriving DecidableEq, Repr

/-- Whether a throw in progress may be adopted for a position: it was begun for a slot and has that position as its target. -/
def Throw.adoptable (th : Throw) (pos : Position) : Bool :=
  (match th.origin with | .slot _ => true | .desk => false) && th.target == pos

/-- Whether a point that must move is movable now to a position. -/
def Plant.movable (env : Env) (p : Plant) (x : Point) (pos : Position) : Bool :=
  !x.outOfUse && x.state != .unknown && x.claim.isNone && x.locks.isEmpty && Plant.pointClear env p p.active x.number &&
    p.elementUp env p.active (.point x.number) && x.throw.all fun th => th.adoptable pos

/-- Whether a required point lies in its position or is movable now. -/
def Plant.pointReady (env : Env) (p : Plant) (x : Nat × Position) : Bool :=
  (p.current.point? x.1).any fun pt => Plant.pointLies env p p.active pt x.2 || Plant.movable env p pt x.2

/-- The take test, by Table 4-3 in its order. A route in conflict with the route of a slot in use waits, also when the slot has
released every section that the two share (R57, R59; notes/assumptions/8). -/
def Plant.takeTest (env : Env) (p : Plant) (r : RouteRecord) (tram : Option Nat) : Offer :=
  if p.frozen || p.holding then .wait
  else if (p.slots.find? fun sl => !sl.inUse).isNone then .wait
  else if p.used.any fun sl => sl.route.any fun n => env.conflict r.number n then .wait
  else if !r.tracks.all (Plant.trackClear env p p.active) then .wait
  else if !r.required.all (Plant.pointReady env p) then .wait
  else
    match Plant.berthAnswerFor env p r true tram with
    | .ok t => .takes t
    | .error _ => .unfit

/-! ## The take (R58 to R61) -/

/-- One required point at take: locked where it lies right, else claimed with its throw begun or adopted; the second part
gathers the points claimed, the third those whose throw could not begin (R60). -/
def Plant.takePoint (env : Env) (r : RouteRecord) (n : Nat) (acc : Plant × List (Nat × Position) × List Nat)
    (x : Nat × Position) : Plant × List (Nat × Position) × List Nat :=
  let p := acc.1
  let sd := p.active
  match p.current.point? x.1 with
  | none => acc
  | some pt =>
    if pt.lies x.2 then
      (p.mapPoint sd x.1 fun y => { y with locks := y.locks ++ [⟨n, markOf r x.1, x.2⟩] }, acc.2)
    else
      let q := p.mapPoint sd x.1 fun y => { y with claim := some n }
      let claimed := acc.2.1 ++ [x]
      match pt.throw with
      | some _ => (q, claimed, acc.2.2)
      | none =>
        if Plant.mayDrive env p sd pt then (Plant.beginThrow env q sd x.1 x.2 (.slot n), claimed, acc.2.2)
        else (q, claimed, acc.2.2 ++ [x.1])

/-- A slot's record at take (R58). -/
def Plant.takenSlot (env : Env) (p : Plant) (n : Nat) (r : RouteRecord) (origin : Origin) (tram : Nat) : Slot :=
  { number := n, state := .setting, route := some r.number, kind := r.kind, origin := some origin, tram := some tram,
    openedOnce := false, aspectHeld := false, claimed := [], marks := r.tracks.map fun _ => false, released := 0,
    settingLimit := env.params.settingLimit, timer := .off, takenAt := p.time p.active }

/-- The sections of a route reserved by a slot (R59). -/
def Plant.reserve (p : Plant) (n : Nat) (r : RouteRecord) : Plant :=
  p.mapYard p.active fun y =>
    { y with tracks := y.tracks.map fun t => if r.tracks.contains t.number then { t with reservedBy := some n } else t }

/-- A slot that has claimed points enters SETTING, its limit running, with its ROUTE STATE report (R61). -/
def Plant.enterSetting (p : Plant) (n : Nat) (claimed : List (Nat × Position)) : Plant :=
  let q := p.mapSlot n fun x =>
    { x with claimed := claimed, timer := .running (p.base p.active + 1000 * x.settingLimit) }
  match q.slot? n with
  | none => q
  | some sl =>
    q.report q.active
      (.routeState n (sl.route.getD 0) (sl.origin.getD .desk) sl.tram .free .setting .taken .none false claimed)

/-- A request taken into the lowest-numbered FREE slot (R58 to R61). -/
def Plant.take (env : Env) (p : Plant) (r : RouteRecord) (origin : Origin) (tram : Nat) : Plant :=
  match p.slots.find? fun sl => !sl.inUse with
  | none => p
  | some sl =>
    let n := sl.number
    let q := (p.mapSlot n fun _ => Plant.takenSlot env p n r origin tram).reserve n r
    let done := r.required.foldl (Plant.takePoint env r n) (q, [], [])
    if done.2.1.isEmpty then Plant.enterLocked env done.1 n .taken
    else
      done.2.2.foldl (fun q pt => Plant.slotThrowEnd env q n pt .notDriven) (done.1.enterSetting n done.2.1)

/-! ## The scan (R98 to R100) -/

/-- The queued request of a route. -/
def Plant.request? (p : Plant) (route : Nat) : Option Request := findBy Request.route route p.queue

/-- One queued request changed. -/
def Plant.mapRequest (p : Plant) (route : Nat) (f : Request → Request) : Plant :=
  { p with queue := updBy Request.route route f p.queue }

/-- A WAITING request whose bypass count has reached the limit in force becomes HELD, with its report. -/
def Plant.promote (env : Env) (p : Plant) (route : Nat) : Plant :=
  match p.request? route with
  | none => p
  | some r =>
    if !r.held && env.params.bypassLimit ≤ r.bypass then
      let q := p.mapRequest route fun x => { x with held := true }
      q.report q.active (.requestHeld route r.origin r.tram r.bypass)
    else p

/-- The bypass count of a WAITING request raised by one (R100). -/
def Plant.bypass (env : Env) (p : Plant) (route : Nat) : Plant :=
  Plant.promote env
    (p.mapRequest route fun x => if x.held then x else { x with bypass := x.bypass + 1 }) route

/-- The requests older than that of a route. -/
def Plant.olderThan (p : Plant) (route : Nat) : List Request := p.queue.takeWhile fun r => r.route != route

/-- One request of a scan (R99). -/
def Plant.offer (env : Env) (p : Plant) (route : Nat) : Plant :=
  match p.request? route, env.layout.route? route with
  | some q, some r =>
    let older := (p.olderThan route).filter fun x => env.conflict x.route route
    if older.any Request.held then p
    else
      match Plant.takeTest env p r q.tram with
      | .wait => p
      | .unfit => Plant.dropRequest env p q .unfit .unfit
      | .takes t =>
        let s : Plant := { p with queue := p.queue.filter fun x => x.route != route }
        let s := Plant.take env s r q.origin t
        let s := Plant.handFate env s s.active (some q.origin) route q.tram .taken
        (older.map Request.route).foldl (fun s n => Plant.bypass env s n) s
  | _, _ => p

/-- A scan of the request queue, oldest to newest (R99). -/
def Plant.scan (env : Env) (p : Plant) : Plant :=
  let q := (p.queue.map Request.route).foldl (fun q n => Plant.promote env q n) p
  (q.queue.map Request.route).foldl (fun q n => Plant.offer env q n) q

end Sys2Proof.Machine
end

