-- ==== Sys2Proof/Machine/Sequencer.lean ====
section
/-! DEFINITION. The shift sequencer's automatic work (R150 to R153), and the scans and rounds that follow an event. -/

namespace Sys2Proof.Machine

open Sys2Proof

/-- Whether the sequencer works automatically (R150). -/
def Plant.automatic (env : Env) (p : Plant) : Bool :=
  p.mode == .automatic && env.held && !p.frozen && !p.holding && !p.silence.silent

/-! ## Arrivals (R151) -/

/-- Whether a queued request or a slot in use carries a tram. -/
def Plant.tramCarried (p : Plant) (tram : Nat) : Bool :=
  p.queue.any (fun r => r.tram == some tram) || p.used.any fun sl => sl.tram == some tram

/-- The reserved road of a tram's arrival entry written. -/
def Plant.reserveRoad (p : Plant) (tram road : Nat) : Plant :=
  p.mapYard p.active fun y =>
    { y with arrivals := y.arrivals.map fun a => if a.tram == tram then { a with reserved := some road } else a }

/-- Whether a headshunt serves as a fallback: IN_SERVICE, without an entry, named by no slot in use and no queued request. -/
def Plant.headshuntFree (env : Env) (p : Plant) (n : Nat) : Bool :=
  ((p.current.road? (.headshunt n)).any fun r => !r.closed && r.entries.isEmpty) &&
    !p.slotNames env (.headshunt n) && !p.queueNames env (.headshunt n)

/-- The headshunt and route of the fallback of step 2. -/
def Plant.fallback (env : Env) (p : Plant) : Option (Nat × RouteRecord) :=
  [1, 2].findSome? fun n =>
    if Plant.headshuntFree env p n then
      (Yard.unbarredRoute env p.current .g1 (.berth (.headshunt n))).map fun r => (n, r)
    else none

/-- An automatic arrival request placed for the head, with its reports: on refusal any reserved road is cleared and REQUEST
REFUSED is placed (R97, R151; notes/assumptions/20). -/
def Plant.requestArrival (env : Env) (p : Plant) (r : RouteRecord) (tram : Nat) (b : Berth) (score : Option Nat)
    (mark : Option OrderMark) : Plant :=
  let sd := p.active
  match Plant.requestRefusal env p (p.mode == .automatic) r.number (some tram) with
  | none =>
    (Plant.scan env (Plant.enqueue env p r.number .automatic (some tram))).report sd (.arrivalAllocated tram b score mark)
  | some why =>
    (((p.clearReservation sd tram).report sd (.arrivalAllocated tram b score mark))).report sd
      (.requestRefused tram r.number why)

/-- NO_BERTH reported for the head, unless it has been already (R151). -/
def Plant.noteNoBerth (p : Plant) (tram : Nat) : Plant :=
  if p.noBerthTram = some tram then p else ({ p with noBerthTram := some tram } : Plant).report p.active (.noBerth tram)

/-- The arrival step: the head of the arrival queue, when it has no reserved road and nothing carries its tram (R151). -/
def Plant.arrivalStep (env : Env) (p : Plant) : Plant :=
  match p.current.arrivals with
  | [] => p
  | a :: _ =>
    if a.reserved.isSome || p.tramCarried a.tram then p
    else
      match Plant.allocate env p ⟨a.tram, a.length, a.cls, a.departure⟩ with
      | c :: _ =>
        match Yard.unbarredRoute env p.current .g1 (.berth (.road c.road)) with
        | some r =>
          Plant.requestArrival env ({ p with noBerthTram := none }.reserveRoad a.tram c.road) r a.tram (.road c.road)
            (some c.score) (some c.mark)
        | none => p
      | [] =>
        match Plant.fallback env p with
        | some (h, r) => Plant.requestArrival env p r a.tram (.headshunt h) none none
        | none => p.noteNoBerth a.tram

/-! ## Departures (R153) -/

/-- The departure of one run-out entry, when it is DUE with readiness FREE. -/
def Plant.departure (env : Env) (p : Plant) (tram : Nat) : Plant :=
  let sd := p.active
  match p.current.runOut? tram with
  | none => p
  | some e =>
    if e.state == .due && e.readiness.any fun r => r.kind == .free then
      match (p.current.roadOfTram tram).bind fun d => Yard.unbarredRoute env p.current (.berth d.berth) .g2 with
      | none => p
      | some r =>
        match Plant.requestRefusal env p (p.mode == .automatic) r.number (some tram) with
        | some why => p.report sd (.requestRefused tram r.number why)
        | none =>
          let q := Plant.enqueue env p r.number .automatic (some tram)
          let q := (q.mapRunOut sd tram fun x => { x with route := some r.number }).setRunOutState sd tram .requested
          Plant.scan env q
    else p

/-- The departure pass: the run-out list in list order, with the clock SET. -/
def Plant.departurePass (env : Env) (p : Plant) : Plant :=
  if p.current.clock.set then (p.current.runOut.map RunOut.tram).foldl (fun q t => Plant.departure env q t) p else p

/-! ## Rounds and scans after an event (R98, R150; notes/assumptions/5) -/

/-- A round: the arrival step, then the departure pass, while the sequencer works automatically. -/
def Plant.round (env : Env) (p : Plant) : Plant :=
  if Plant.automatic env p then Plant.departurePass env (Plant.arrivalStep env p) else p

/-- The scans and rounds asked for worked, scans first, until none is asked for or the bound is reached. -/
def Plant.settle (env : Env) : Nat → Plant → Plant
  | 0, p => p
  | k + 1, p =>
    if p.wantScan then Plant.settle env k (Plant.scan env { p with wantScan := false })
    else if p.wantRound then Plant.settle env k (Plant.round env { p with wantRound := false })
    else p

/-- The scans and rounds that an event leaves to be made. -/
def Plant.settled (env : Env) (p : Plant) : Plant := Plant.settle env Config.settleBound p

end Sys2Proof.Machine
end

