-- ==== Sys2Proof/Machine/ElementTable.lean ====
section
/-! DEFINITION. The element table (chapters 2 and 3): what a detection, a section, a signal and a gate read report does. -/

namespace Sys2Proof.Machine

open Sys2Proof

/-! ## Points (R35 to R37) -/

/-- The state of a point written. -/
def Plant.setPointState (p : Plant) (sd : Side) (n : Nat) (st : PointState) : Plant :=
  p.mapPoint sd n fun x => { x with state := st }

/-- An idle point found with no detection: FAILED with DETECTION_LOST; a FAILED point does not change, and a locked one that is
FAILED already records nothing again (R35 to R37; notes/assumptions/48). The record carries neither check data nor a route context, also
for a locked point (DESIGN CHOICE, notes/assumptions/75). -/
def Plant.loseDetection (env : Env) (p : Plant) (sd : Side) (x : Point) : Plant :=
  if x.state = .failed then p
  else
    let q := p.setPointState sd x.number .failed
    Plant.pointChanged env (q.handFault sd .detectionLost (.point x.number) none none) sd x.number

/-- An idle point found in a position that no slot's lock forbids: an UNKNOWN or FAILED point takes it, and a FAILED one is
reported POINT DETECTED; a point elsewhere takes it, reported POINT MOVED when it is unlocked. A locked point that lies opposite to
its lock, trailed, and comes back to it takes the position without a report, which R37 leaves open (R35, R36, R37;
notes/assumptions/12). -/
def Plant.takeDetection (env : Env) (p : Plant) (sd : Side) (x : Point) (pos : Position) : Plant :=
  let n := x.number
  if x.lies pos then p
  else
    let q := p.setPointState sd n pos.state
    let q :=
      if x.state = .failed then q.report sd (.pointDetected n pos)
      else if x.state != .unknown && x.locks.isEmpty then q.report sd (.pointMoved n pos)
      else q
    Plant.pointChanged env q sd n

/-- The route context of a trailed point: that of the lowest-numbered slot in its lock set (R37). -/
def Plant.trailedContext (p : Plant) (sd : Side) (x : Point) : Option RouteContext :=
  if sd = p.active then
    match x.locks.map Lock.slot with
    | [] => none
    | n :: ns => (p.slot? (ns.foldl min n)).bind Slot.context
  else none

/-- A locked point reported opposite to its lock: it takes that position, POINT_TRAILED is recorded, and the change is passed on
(R37). -/
def Plant.trailed (env : Env) (p : Plant) (sd : Side) (x : Point) (held pos : Position) : Plant :=
  let q := p.setPointState sd x.number pos.state
  let q := Plant.yardFault env q sd .pointTrailed (some (.point x.number)) (p.trailedContext sd x)
    (some (.throwData held 0 0 0))
  Plant.pointChanged env q sd x.number

/-- A detection report taken for a point of a side (R27, R30, R35 to R37). -/
def Plant.pointDetection (env : Env) (p : Plant) (sd : Side) (n : Nat) (det : Option Position) : Plant :=
  match (p.yardOf sd).point? n with
  | none => p
  | some x =>
    let q := p.mapPoint sd n fun y => { y with detected := det }
    match x.throw with
    | some th => Plant.detectThrowing env q sd { x with detected := det } th det
    | none =>
      match det, x.lockedAt with
      | none, _ => Plant.loseDetection env q sd x
      | some pos, some held =>
        if pos = held then Plant.takeDetection env q sd x pos else Plant.trailed env q sd x held pos
      | some pos, none => Plant.takeDetection env q sd x pos

/-! ## Sections (R42 to R44) -/

/-- The throws over a section ended INTERRUPTED (R32). The scans that the ends ask for follow once the change of the section has
reached the route locking unit too (R42, R69, R98; notes/assumptions/5). -/
def Plant.interruptOver (env : Env) (p : Plant) (sd : Side) (t : Nat) : Plant :=
  ((env.layout.points.filter fun d => d.track == t).map PointRecord.number).foldl
    (fun q n =>
      match (q.yardOf sd).point? n with
      | some x => if x.throwing then Plant.interrupt env q sd x else q
      | none => q)
    p

/-- The route context that a section's reservation gives a fault. -/
def Plant.sectionContext (p : Plant) (sd : Side) (t : Nat) : Option RouteContext :=
  if sd = p.active then ((((p.yardOf sd).track? t).bind Track.reservedBy).bind p.slot?).bind Slot.context else none

/-- A section that has changed from one state to another: passed to its points, the route locking unit and the throat arbiter, a
disturbance recorded once, and the change reported, in this order (R42, R43). SECTION_DISTURBED is recorded also for a section that
no slot reserves (DEDUCED, notes/assumptions/78). -/
def Plant.sectionPassed (env : Env) (p : Plant) (sd : Side) (t : Nat) (old st : TrackState) : Plant :=
  let q := if st = .clear then p else Plant.interruptOver env p sd t
  let q := (Plant.lockingSection env q sd t).askScan sd
  let q := if st = .disturbed then q.handFaultOnce sd .sectionDisturbed (.track t) (q.sectionContext sd t) else q
  q.report sd (.sectionChanged t old st (((q.yardOf sd).track? t).bind Track.reservedBy))

/-- A section takes a state, and the change is passed on; the state it has already changes nothing (R42). -/
def Plant.sectionChange (env : Env) (p : Plant) (sd : Side) (t : Nat) (st : TrackState) : Plant :=
  match (p.yardOf sd).track? t with
  | none => p
  | some old =>
    if old.state = st then p
    else Plant.sectionPassed env (p.mapTrack sd t fun x => { x with state := st }) sd t old.state st

/-! ## Signals (R47 to R50) -/

/-- The route context that an entry signal gives a fault. -/
def Plant.signalContext (env : Env) (p : Plant) (sd : Side) (n : Nat) : Option RouteContext :=
  if sd = p.active then (p.slotOfSignal env n).bind Slot.context else none

/-- A current report judged against the commanded aspect: WRONG_ASPECT once for a disagreement, with check data and no route
context, since R48 states none (notes/assumptions/58); ASPECT_LOST with the lamp OK (R49). -/
def Plant.judgeAspect (env : Env) (p : Plant) (sd : Side) (g : Signal) (a : Aspect) (lamp : Lamp) : Plant :=
  match g.commanded, a with
  | .stop, .proceed =>
    if g.wrongRaised then p
    else
      Plant.yardFault env (p.mapSignal sd g.number fun x => { x with wrongRaised := true }) sd .wrongAspect
        (some (.signal g.number)) none (some (.aspects .stop .proceed))
  | .proceed, .stop =>
    if lamp = .ok then
      p.handFault sd .aspectLost (.signal g.number) (Plant.signalContext env p sd g.number) (some (.aspects .proceed .stop))
    else p
  | _, _ => p

/-- Whether a current report is an aspect loss (R49). -/
def aspectLoss (g : Signal) (a : Aspect) (lamp : Lamp) : Bool :=
  g.commanded == .proceed && a == .stop && lamp == .ok

/-- An aspect loss passed to the route locking unit, which reverts the slot and holds its aspect (R70). -/
def Plant.passLoss (env : Env) (p : Plant) (sd : Side) (n : Nat) : Plant :=
  if sd = p.active then
    match p.slotOfSignal env n with
    | some sl => Plant.revert env p sl.number .aspectLost .none
    | none => p
  else p

/-- SIGNAL CHANGED placed for a signal with the aspect and lamp it now reports, and its commanded aspect as it now stands (R47). -/
def Plant.signalChanged (p : Plant) (sd : Side) (n : Nat) (a : Option Aspect) (lamp : Option Lamp) : Plant :=
  match (p.yardOf sd).signal? n with
  | none => p
  | some g => p.report sd (.signalChanged n g.commanded a lamp)

/-- A signal report taken by a side: the three fields written, a current report judged, a lamp newly FAILED recorded once, a lamp
change passed to the route locking unit, a change reported, and an aspect loss passed on (R47 to R50). SIGNAL CHANGED follows the
passing on of the lamp, as R47 names them, and carries the commanded aspect that this leaves; an aspect loss reverts the route
after it, as Table 3-3 shows (DEDUCED, notes/assumptions/73). -/
def Plant.signalReport (env : Env) (p : Plant) (sd : Side) (n : Nat) (a : Aspect) (lamp : Lamp) (number : Nat) : Plant :=
  match (p.yardOf sd).signal? n with
  | none => p
  | some g =>
    let current := number == g.command
    let proved := current && (a == g.commanded || a == .stop)
    let q := p.mapSignal sd n fun x =>
      { x with
        reported := some a, lamp := some lamp, answered := some number, wrongRaised := !proved && x.wrongRaised }
    let q := if current then Plant.judgeAspect env q sd g a lamp else q
    let q :=
      if lamp = .failed && g.lamp != some .failed then
        q.handFaultOnce sd .lampFailed (.signal n) (Plant.signalContext env q sd n)
      else q
    let q := if g.lamp != some lamp then Plant.lampChanged env q sd n else q
    let q := if g.reported != some a || g.lamp != some lamp then q.signalChanged sd n (some a) (some lamp) else q
    if current && aspectLoss g a lamp then Plant.passLoss env q sd n else q

/-! ## Link loss (R33, R44, R51) -/

/-- A point as it is once its link has left UP: no detection, and UNKNOWN, but for a throw that is still to end (R33;
notes/assumptions/39). -/
def Point.lost (x : Point) : Point := { x with detected := none, state := if x.throwing then x.state else .unknown }

/-- A section as it is once its link has left UP (R44). -/
def Track.lost (t : Track) : Track := { t with state := .unknown }

/-- A signal as it is once its link has left UP (R51). -/
def Signal.lost (g : Signal) : Signal := { g with reported := none, lamp := none, answered := none, wrongRaised := false }

/-- The change of a point whose link has left UP passed on: its throw ends LINK_LOST, and it is UNKNOWN (R33). -/
def Plant.passLostPoint (env : Env) (p : Plant) (n : Nat) : Plant :=
  match p.yard.point? n with
  | none => p
  | some x =>
    if x.throwing then Plant.throwEnd env p .real n .linkLost .unknown none else Plant.pointChanged env p .real n

/-- The change of a signal whose link has left UP passed on, given the signal as it was: the route locking unit is told, and then a
change is reported, with the commanded aspect as it then stands (R47, R51; DEDUCED, notes/assumptions/73). -/
def Plant.passLostSignal (env : Env) (p : Plant) (g : Signal) : Plant :=
  let q := Plant.lampChanged env p .real g.number
  if g.reported.isSome || g.lamp.isSome then q.signalChanged .real g.number none none else q

end Sys2Proof.Machine
end

