-- ==== Sys2Proof/Machine/Links.lean ====
section
/-! DEFINITION. The field link controller (11.1): link states, the loss of a link, and a link coming UP with the full state of its
elements. -/

namespace Sys2Proof.Machine

open Sys2Proof

/-- The numbers of the records of a list on a link. -/
def onLink {α : Type} (link number : α → Nat) (n : Nat) (l : List α) : List Nat :=
  (l.filter fun x => link x == n).map number

/-- OPEN slots whose entry signal or route element is on a link reverted (R169). -/
def Plant.revertOnLink (env : Env) (p : Plant) (n : Nat) : Plant :=
  if p.active = .real then
    ((p.used.filter fun sl => (env.slotRoute sl).any fun r => env.layout.routeUsesLink r n).map Slot.number).foldl
      (fun q k => Plant.revert env q k .reverted .link) p
  else p

/-- An item of a table replaced by what a link's loss makes of it, when its number is among those on the link. -/
def loseAmong {α : Type} (number : α → Nat) (lost : α → α) (ns : List Nat) (l : List α) : List α :=
  l.map fun x => if ns.contains (number x) then lost x else x

/-- Every element on a link UNKNOWN at once, before any change is passed on (R169; notes/assumptions/18). -/
def Plant.unknownOnLink (env : Env) (p : Plant) (n : Nat) : Plant :=
  p.mapYard .real fun y =>
    { y with
      points := loseAmong Point.number Point.lost (onLink PointRecord.link PointRecord.number n env.layout.points) y.points
      tracks := loseAmong Track.number Track.lost (onLink TrackRecord.link TrackRecord.number n env.layout.tracks) y.tracks
      signals :=
        loseAmong Signal.number Signal.lost (onLink SignalRecord.link SignalRecord.number n env.layout.signals) y.signals }

/-- What the leaving of UP does to the elements of a link, taken whole (R69): all are UNKNOWN, then each change is passed on for
points, sections and signals, and then the routes revert. The scans and rounds that these changes ask for follow once all of this is
done, so that none is worked while a route with an element on the link stands OPEN (R98, R169; notes/assumptions/5, 18). -/
def Plant.loseLink (env : Env) (p : Plant) (n : Nat) : Plant :=
  let q := Plant.unknownOnLink env p n
  let q := (onLink PointRecord.link PointRecord.number n env.layout.points).foldl
    (fun q k => Plant.passLostPoint env q k) q
  let q := (onLink TrackRecord.link TrackRecord.number n env.layout.tracks).foldl
    (fun q k =>
      match p.yard.track? k with
      | some t => if t.state = .unknown then q else Plant.sectionPassed env q .real k t.state .unknown
      | none => q)
    q
  let q := (onLink SignalRecord.link SignalRecord.number n env.layout.signals).foldl
    (fun q k =>
      match p.yard.signal? k with
      | some g => Plant.passLostSignal env q g
      | none => q)
    q
  Plant.revertOnLink env q n

/-- The supervision fields of a link as it enters a state at a time. -/
def Link.enter (l : Link) (st : LinkState) (now : Nat) : Link :=
  { l with
    state := st, bad := 0
    windowEnd := if st = .training then now + Config.trainingWindow else if st = .down then now + Config.downWait else l.windowEnd
    lastGood := if st = .up then now else l.lastGood }

/-- The LINK RETRAINED report owed placed, when a training ends (R170). -/
def Plant.payRetrain (p : Plant) (n : Nat) (st : LinkState) : Plant :=
  if st != .training && (p.link? n).any Link.retrainOwed then
    (p.mapLink n fun l => { l with retrainOwed := false }).report .real (.linkRetrained n st)
  else p

/-- Whether a cause of TRAINING leaves the elements on the link as they are: a commit keeps the state of an unchanged element, which
the full state then confirms, and an erase has removed them (R16, R18, R44, R51; notes/assumptions/9). -/
def LinkCause.keepsElements : LinkCause → Bool
  | .commit => true
  | .erase => true
  | _ => false

/-- Whether the elements on a link become UNKNOWN as it goes from a state to another: it leaves UP other than for the training of a
commit, or a training ends without the full state (R16, R169). -/
def LinkState.loses (old new : LinkState) (cause : LinkCause) : Bool :=
  match old, new with
  | .up, .up => false
  | .up, .training => !cause.keepsElements
  | .up, _ => true
  | .training, .down => true
  | .training, .disabled => true
  | _, _ => false

/-- A link moved to a state: LINK STATE at a change, the training request as TRAINING is entered, the loss of its elements as it
leaves UP, LINK_DOWN once as it enters DOWN or DISABLED, and the LINK RETRAINED report owed (R168 to R170). -/
def Plant.setLink (env : Env) (p : Plant) (n : Nat) (st : LinkState) (cause : LinkCause) : Plant :=
  match p.link? n with
  | none => p
  | some l =>
    let q := p.mapLink n fun x => x.enter st p.now
    let q := if st = .training then q.send n (.trainingRequest n) else q
    let q := if l.state = st then q else q.report .real (.linkState n l.state st cause)
    let q := if l.state.loses st cause then Plant.loseLink env q n else q
    let q :=
      if (st = .down || st = .disabled) && l.state != st then q.handFaultOnce .real .linkDown (.link n) none else q
    q.payRetrain n st

/-- A frame received good on a link: its bad count is 0 and its silence starts afresh (R168). -/
def Plant.goodFrame (p : Plant) (n : Nat) : Plant := p.mapLink n fun l => { l with bad := 0, lastGood := p.now }

/-- The commanded aspect of every signal on a link written afresh (R46). -/
def Plant.rewriteSignals (env : Env) (p : Plant) (n : Nat) : Plant :=
  (onLink SignalRecord.link SignalRecord.number n env.layout.signals).foldl
    (fun q k =>
      match q.yard.signal? k with
      | some g => Plant.writeRealAspect env q k g.commanded
      | none => q)
    p

/-- The full state of a station taken: the reports for elements on the link, points first, then sections, then signals, each an
event of its own with its scan (R98, R168; notes/assumptions/5). -/
def Plant.takeFullState (env : Env) (p : Plant) (n : Nat) (full : FullState) : Plant :=
  let here := fun (e : FaultElement) => env.layout.linkOf e == some n
  let q := (full.points.filter fun x => here (.point x.1)).foldl
    (fun q x => Plant.settled env (Plant.pointDetection env q .real x.1 x.2)) p
  let q := (full.tracks.filter fun x => here (.track x.1)).foldl
    (fun q x => Plant.settled env (Plant.sectionChange env q .real x.1 x.2.state)) q
  (full.signals.filter fun x => here (.signal x.signal)).foldl
    (fun q x => Plant.settled env (Plant.signalReport env q .real x.signal x.aspect x.lamp x.number)) q

/-- The opening conditions of every slot tested (R168). -/
def Plant.openAll (env : Env) (p : Plant) : Plant :=
  (p.slots.map Slot.number).foldl (fun q k => Plant.tryOpen env q k) p

/-- The lamp state of every signal on a link that has just come UP unknown until its report arrives, also of a signal that a commit
kept with its lamp OK, so that no route opens on it before (R45, R68; notes/assumptions/9). -/
def Plant.forgetLamps (env : Env) (p : Plant) (n : Nat) : Plant :=
  p.mapYard .real fun y =>
    { y with
      signals :=
        loseAmong Signal.number (fun g => { g with lamp := none })
          (onLink SignalRecord.link SignalRecord.number n env.layout.signals) y.signals }

/-- A link comes UP (R45, R46, R168, R172): the lamps of its signals are unknown, the signals are written afresh, then HOLD-SAFE is
sent in a session, and then the full state is taken (notes/assumptions/64). -/
def Plant.linkComesUp (env : Env) (p : Plant) (n : Nat) (full : FullState) : Plant :=
  let q := Plant.setLink env p n .up .answered
  let q := Plant.forgetLamps env q n
  let q := Plant.rewriteSignals env q n
  let q := if q.session.isSome then q.send n .holdSafe else q
  let q := Plant.takeFullState env q n full
  let q := if q.active = .real then Plant.openAll env q else q
  (q.askScan .real).askRound .real

/-- Whether a field report on a link is taken for an element: the link is UP and the element is present and assigned to it
(R1; notes/assumptions/10). -/
def Plant.reportTaken (env : Env) (p : Plant) (n : Nat) (e : FaultElement) : Bool :=
  p.linkUp n && env.layout.linkOf e == some n

end Sys2Proof.Machine
end

