-- ==== Sys2Proof/Machine/Rehearsal.lean ====
section
/-! DEFINITION. The rehearsal unit (11.2): the copies a session begins with, injections, simulated drives and tram runs (R172 to
R175). -/

namespace Sys2Proof.Machine

open Sys2Proof

/-! ## The begin of a session (R172) -/

/-- The copy of a point: one that is UNKNOWN becomes NORMAL. -/
def Point.copy (x : Point) : Point :=
  if x.state = .unknown then { x with state := .normal, detected := some .normal } else x

/-- The copy of a section: one that is UNKNOWN becomes CLEAR. -/
def Track.copy (t : Track) : Track := if t.state = .unknown then { t with state := .clear } else t

/-- The copy of a signal: one whose reported aspect or lamp is unknown is reported STOP with lamp OK, on a current report. -/
def Signal.copy (g : Signal) : Signal :=
  if g.reported.isNone || g.lamp.isNone then
    { g with reported := some .stop, lamp := some .ok, answered := some g.command }
  else g

/-- The copies of a yard's tables. -/
def Yard.copy (y : Yard) : Yard :=
  { y with points := y.points.map Point.copy, tracks := y.tracks.map Track.copy, signals := y.signals.map Signal.copy }

/-- A session as it begins, its time base at 0. -/
def Session.start (rate : Nat) (y : Yard) : Session :=
  { rate := rate, base := 0, copy := y.copy, obstruct := [], noDetect := [], disturb := [], readFail := false, drives := [],
    runs := [], nextRun := 1, departures := 0, missed := 0, arrivals := 0, faults := 0 }

/-- A session begun: HOLD-SAFE on every UP link, the copies made, REHEARSAL BEGUN reported, readiness worked on the copies. -/
def Plant.beginSession (p : Plant) (rate : Nat) : Plant :=
  let q := p.sendAllUp .holdSafe
  let q : Plant := { q with session := some (Session.start rate q.yard) }
  (q.report .real .rehearsalBegun).workReadiness .copy false

/-! ## Simulated reads, sections and injections (R174, R175) -/

/-- A simulated read at a gate of the copy: UNREADABLE when READ_FAIL stands, which it uses up. -/
def Plant.simRead (env : Env) (p : Plant) (gate : Nat) (tram : Option Nat) : Plant :=
  let failed := p.session.any Session.readFail
  let read : GateRead := if failed then .unreadable else tram.elim .unreadable .tram
  let q := p.mapSession fun c => { c with readFail := false }
  Plant.takeRead env q .copy gate read

/-- Whether DISTURB stands on a copy section. -/
def Plant.disturbed (p : Plant) (t : Nat) : Bool := p.session.any fun c => c.disturb.contains t

/-- A copy section made to take a state, unless DISTURB stands on it. -/
def Plant.simSection (env : Env) (p : Plant) (t : Nat) (st : TrackState) : Plant :=
  if p.disturbed t then p else Plant.sectionChange env p .copy t st

/-- A number added to a list that holds each at most once. -/
def addOnce (n : Nat) (l : List Nat) : List Nat := if l.contains n then l else l ++ [n]

/-- The section a run stands on, if any. -/
def SimRun.standing (r : SimRun) : Option Nat := if r.step = 0 then none else r.tracks[r.step - 1]?

/-- DISTURB injected on a section: it becomes DISTURBED until removed. -/
def Plant.injectDisturb (env : Env) (p : Plant) (t : Nat) : Plant :=
  if p.disturbed t then p
  else
    Plant.sectionChange env (p.mapSession fun c => { c with disturb := addOnce t c.disturb }) .copy t .disturbed

/-- DISTURB removed from a section: it becomes OCCUPIED when a run stands on it, and CLEAR otherwise. -/
def Plant.removeDisturb (env : Env) (p : Plant) (t : Nat) : Plant :=
  if p.disturbed t then
    let stands := p.session.any fun c => c.runs.any fun r => r.standing == some t
    let q := p.mapSession fun c => { c with disturb := c.disturb.filter fun x => x != t }
    Plant.sectionChange env q .copy t (if stands then .occupied else .clear)
  else p

/-! ## Simulated drives and runs (R174) -/

/-- The simulated drive of a point. -/
def Plant.simDrive? (p : Plant) (n : Nat) : Option SimDrive := p.session.bind fun c => findBy SimDrive.point n c.drives

/-- When a simulated drive returns its next sample. -/
def SimDrive.sampleDue (d : SimDrive) : Nat := d.startedAt + Config.simSamplePeriod * (d.samples + 1)

/-- When a simulated drive detects its position; absent when none will be. -/
def SimDrive.detectionDue (d : SimDrive) : Option Nat :=
  if d.obstructed || d.undetected then none else some (d.startedAt + Config.simDriveTime)

/-- The current a simulated drive returns: 255 when obstructed, 10 otherwise. With OBSTRUCT and NO_DETECT both injected, OBSTRUCT
prevails (DESIGN CHOICE, notes/assumptions/15). -/
def SimDrive.current (d : SimDrive) : Nat := if d.obstructed then 255 else 10

/-- The simulated sample of a point taken. -/
def Plant.simSample (env : Env) (p : Plant) (d : SimDrive) : Plant :=
  let q := p.mapSession fun c =>
    { c with drives := updBy SimDrive.point d.point (fun x => { x with samples := x.samples + 1 }) c.drives }
  Plant.currentSample env q .copy d.point d.current

/-- The simulated detection of a point: its position detected, its samples ended. -/
def Plant.simDetect (env : Env) (p : Plant) (d : SimDrive) : Plant :=
  let q := p.mapSession fun c => { c with drives := delBy SimDrive.point d.point c.drives }
  Plant.pointDetection env q .copy d.point (some d.target)

/-- The run of a number. -/
def Plant.run? (p : Plant) (n : Nat) : Option SimRun := p.session.bind fun c => findBy SimRun.number n c.runs

/-- How many steps a run makes: one past its last section, and the outbound read on a route to G2. -/
def SimRun.lastStep (r : SimRun) : Nat := r.tracks.length + (if r.outbound then 2 else 1)

/-- A section of a run, counted from 1, made to take a state; nothing for a number that is none of its sections. -/
def Plant.runSection (env : Env) (p : Plant) (r : SimRun) (k : Nat) (st : TrackState) : Plant :=
  match k with
  | 0 => p
  | j + 1 =>
    match r.tracks[j]? with
    | some t => Plant.simSection env p t st
    | none => p

/-- The next step of a run: it occupies its section and clears the one before, and after the last it makes the outbound read on
a route to G2 (R174). Each section change is an event of its own, with its scan (R98; notes/assumptions/5). -/
def Plant.runStep (env : Env) (p : Plant) (r : SimRun) : Plant :=
  let k := r.step + 1
  let due := p.base .copy + Config.simStepTime
  let q := p.mapSession fun c =>
    { c with
      runs :=
        if k < r.lastStep then updBy SimRun.number r.number (fun x => { x with step := k, due := some due }) c.runs
        else delBy SimRun.number r.number c.runs }
  let q := Plant.settled env (Plant.runSection env q r k .occupied)
  let q := Plant.settled env (Plant.runSection env q r (k - 1) .clear)
  if k = r.tracks.length + 2 then
    Plant.simRead env (q.mapSession fun c => { c with departures := c.departures + 1 }) 2 r.tram
  else q

end Sys2Proof.Machine
end

