-- ==== Sys2Proof/Machine/LayoutStore.lean ====
section
/-! DEFINITION. The layout store (chapter 1): validation of a staging area, what a commit and an erase do. -/

namespace Sys2Proof.Machine

open Sys2Proof

/-! ## Validation (R12, R13, Table 1-5) -/

/-- The first check of a list that fails: each stands with whether it passes, its number and its reason. -/
def firstFailed : List (Bool × Nat × Reason) → Option (Nat × Reason)
  | [] => none
  | (ok, n, r) :: rest => if ok then firstFailed rest else some (n, r)

/-- Whether a section is present in a layout. -/
def Layout.hasTrack (l : Layout) (n : Nat) : Bool := (l.track? n).isSome

/-- Whether a signal is present in a layout. -/
def Layout.hasSignal (l : Layout) (n : Nat) : Bool := (l.signal? n).isSome

/-- Whether an endpoint is present in a layout. -/
def Layout.hasEndpoint (l : Layout) : Endpoint → Bool
  | .g1 => (l.gate? 1).isSome
  | .g2 => (l.gate? 2).isSome
  | .berth b => l.hasBerth b

/-- The section over which a point of a layout lies. -/
def Layout.pointTrack (l : Layout) (n : Nat) : Option Nat := (l.point? n).map PointRecord.track

/-- A signal and an entry section given and present (check 4). -/
def Layout.throatEnd (l : Layout) (signal entry : Option Nat) : Bool := signal.any l.hasSignal && entry.any l.hasTrack

/-- Check 1. -/
def Layout.pointChecks (l : Layout) (r : PointRecord) : List (Bool × Nat × Reason) :=
  [(l.hasTrack r.track, 1, .unknownItem)]

/-- Check 2, charged to the key of G1. -/
def Layout.inboundGate (l : Layout) : Bool :=
  (l.gate? 1).any fun g => g.signal.any l.hasSignal && g.approach.all l.hasTrack

/-- Checks 4 and 12 of a stabling road, present or not: one that holds entries stays present, long enough for them (R13). -/
def Layout.roadChecks (l : Layout) (gap : Nat) (y : Yard) (n : Nat) : List (Bool × Nat × Reason) :=
  let held := ((y.road? (.road n)).map Road.entries).getD []
  [((l.road? n).all fun r => l.throatEnd r.signal r.entry, 4, .unknownItem),
   (held.isEmpty || (l.road? n).any fun r => usedLength gap held ≤ r.usable, 12, .length)]

/-- Checks 4 and 12 of a headshunt, present or not. -/
def Layout.headshuntChecks (l : Layout) (y : Yard) (n : Nat) : List (Bool × Nat × Reason) :=
  let held := ((y.road? (.headshunt n)).map Road.entries).getD []
  [((l.headshunt? n).all fun r => l.throatEnd r.signal r.entry, 4, .unknownItem),
   (held.isEmpty || (l.headshunt? n).isSome, 12, .length)]

/-- Checks 5 to 11 and 13 of a route. -/
def Layout.routeChecks (l : Layout) (r : RouteRecord) : List (Bool × Nat × Reason) :=
  let listed := fun (t : Option Nat) => t.any fun t => r.tracks.contains t
  let pts := r.points.map (·.1)
  let flanks := r.flanks.map (·.1)
  [(l.hasEndpoint r.source && l.hasEndpoint r.target && l.hasSignal r.signal &&
      (pts ++ flanks).all (fun n => (l.point? n).isSome) && r.tracks.all l.hasTrack && r.approach.all l.hasTrack,
     5, .unknownItem),
   (r.kind.isSome, 6, .malformed),
   (l.signalOf r.source == some r.signal, 7, .malformed),
   (1 ≤ r.tracks.length && r.tracks.length ≤ 8 && noRepeat r.tracks, 8, .malformed),
   (noRepeat (pts ++ flanks), 9, .malformed),
   (pts.all (fun n => listed (l.pointTrack n)) && flanks.all (fun n => !listed (l.pointTrack n)), 10, .malformed),
   (!listed (l.approachOf r), 11, .malformed),
   (r.berths.all fun b => listed (l.entryOf b), 13, .malformed)]

/-- The checks of a staging area, record by record in the fixed order of 1.4.4. -/
def Layout.checks (l : Layout) (gap : Nat) (y : Yard) : List (Key × List (Bool × Nat × Reason)) :=
  l.points.map (fun r => (.point r.number, l.pointChecks r)) ++
    [(.gate 1, [(l.inboundGate, 2, .unknownItem)]), (.gate 2, [((l.gate? 2).isSome, 3, .unknownItem)])] ++
    roadNumbers.map (fun n => (.road n, l.roadChecks gap y n)) ++
    [1, 2].map (fun n => (.headshunt n, l.headshuntChecks y n)) ++
    l.routes.map fun r => (.route r.number, l.routeChecks r)

/-- The first faulty record of a staging area, with the number of the check it fails and the reason; none when the area is
valid (R12). -/
def Layout.validate (l : Layout) (gap : Nat) (y : Yard) : Option (Key × Nat × Reason) :=
  (l.checks gap y).findSome? fun c => (firstFailed c.2).map fun f => (c.1, f.1, f.2)

/-! ## Elements entered by a commit (R16) -/

/-- A point as a commit or a cold reset enters it (R16, R40); the last duration and peak of a point that a commit enters are 0
(notes/assumptions/62). -/
def Point.fresh (n : Nat) : Point :=
  { number := n, state := .unknown, detected := none, outOfUse := false, claim := none, locks := [], attempts := 0,
    lastDuration := 0, lastPeak := 0, throw := none }

/-- A section as a commit enters it. -/
def Track.fresh (n : Nat) : Track := ⟨n, .unknown, none⟩

/-- A signal as a commit or a reset enters it (R51). -/
def Signal.fresh (n : Nat) : Signal :=
  { number := n, commanded := .stop, command := 0, reported := none, lamp := none, answered := none, wrongRaised := false }

/-- A reader as a commit or a reset enters it (R53). -/
def Reader.fresh (n : Nat) : Reader := ⟨n, none, none⟩

/-- A berth road new in the layout (R17). -/
def Road.fresh (b : Berth) : Road := ⟨b, [], false, true⟩

/-- The points of a new layout: the state kept where the record is unchanged, entered afresh elsewhere. -/
def keepPoints (old new : Layout) (l : List Point) : List Point :=
  new.points.map fun r =>
    if old.point? r.number = some r then (findBy Point.number r.number l).getD (.fresh r.number) else .fresh r.number

/-- The sections of a new layout. -/
def keepTracks (old new : Layout) (l : List Track) : List Track :=
  new.tracks.map fun r =>
    if old.track? r.number = some r then (findBy Track.number r.number l).getD (.fresh r.number) else .fresh r.number

/-- The signals of a new layout. -/
def keepSignals (old new : Layout) (l : List Signal) : List Signal :=
  new.signals.map fun r =>
    if old.signal? r.number = some r then (findBy Signal.number r.number l).getD (.fresh r.number) else .fresh r.number

/-- The readers of a new layout; a reader is changed when its gate's link is. -/
def keepReaders (old new : Layout) (l : List Reader) : List Reader :=
  new.gates.map fun g =>
    if (old.gate? g.number).map GateRecord.link = some g.link then
      (findBy Reader.gate g.number l).getD (.fresh g.number)
    else .fresh g.number

/-- The berth roads of a new layout: kept where present before (R17). -/
def keepRoads (new : Layout) (l : List Road) : List Road :=
  new.berths.map fun b => (l.find? fun r => r.berth == b).getD (.fresh b)

/-- A reserved road that a new layout keeps: present, and admitting the class of the reserving tram (R17). -/
def Arrival.keepReserved (new : Layout) (a : Arrival) : Arrival :=
  if a.reserved.any fun n => (new.road? n).any fun r => classAdmitted r.classMask a.cls then a
  else { a with reserved := none }

/-- The element table under a new layout. -/
def Yard.underLayout (old new : Layout) (y : Yard) : Yard :=
  { y with
    points := keepPoints old new y.points
    tracks := keepTracks old new y.tracks
    signals := keepSignals old new y.signals
    readers := keepReaders old new y.readers
    arrivals := y.arrivals.map (Arrival.keepReserved new) }

/-- Every link that is not DISABLED made to train (R16, R18). -/
def Plant.trainAll (env : Env) (p : Plant) (cause : LinkCause) : Plant :=
  ((p.links.filter fun l => l.state != .disabled).map Link.number).foldl
    (fun q n => Plant.setLink env q n .training cause) p

/-- The OUT_OF_USE flags written to non-volatile store when those kept there are not those of the element table: so no flag that a
commit or an erase ends comes back at a cold reset (R16, R38). -/
def Plant.keepOutOfUseIf (p : Plant) : Plant :=
  if p.yard.outOfUse = p.keptOutOfUse.latest.getD [] then p else p.keepOutOfUse

/-! ## Commit and erase (R15 to R18) -/

/-- The layout store after a commit of a staging area (R15). -/
def LayoutStore.commit (s : LayoutStore) (g : Staging) : LayoutStore :=
  { identity := g.fresh, layout := g.layout, conflicts := deriveConflicts g.layout.routes, staging := none,
    kept := s.kept.write ⟨g.fresh, g.layout⟩ }

/-- A commit taken (R15 to R17): LAYOUT_COMMITTED goes before the LINK STATE reports, as R15 before R16 (notes/assumptions/16). The
stabling record is written to its store also when the commit leaves every berth road as it was (DESIGN CHOICE,
notes/assumptions/6). -/
def State.commit (s : State) (g : Staging) : State :=
  let old := s.store.layout
  let s := { s with store := s.store.commit g }
  s.mapPlant fun env p =>
    let q := p.mapYard .real (Yard.underLayout old g.layout)
    let q := (q.setRoads .real (keepRoads g.layout q.yard.roads)).keepOutOfUseIf
    let q := Plant.trainAll env (q.report .real (.layoutCommitted g.fresh)) .commit
    (q.workReadiness .real false).askRound .real

/-- The layout store erased by a port, whose staging area ends (R18). -/
def LayoutStore.erase (s : LayoutStore) : LayoutStore :=
  { identity := Config.erasedIdentity, layout := .empty, conflicts := [], staging := none,
    kept := s.kept.write ⟨Config.erasedIdentity, .empty⟩ }

/-- An erase taken (R18). -/
def State.erase (s : State) : State :=
  let s := { s with store := s.store.erase }
  s.mapPlant fun env p =>
    let q := p.mapYard .real fun y =>
      { y with points := [], tracks := [], signals := [], readers := [], expectations := [] }
    let q := ((q.setRoads .real []).setArrivals .real []).keepOutOfUseIf
    ((Plant.trainAll env q .erase).report .real .layoutErased).workReadiness .real false

end Sys2Proof.Machine
end

