-- ==== Sys2Proof/Machine/Telegrams.lean ====
section
/-! DEFINITION. How a port takes a request and answers it (R178, R179, R181, R89), and the receiving of frames (R177, R154). -/

namespace Sys2Proof.Machine

open Sys2Proof

/-! ## Answers -/

/-- What a request is answered: outcome, reason and fields. -/
structure Answer where
  outcome : ReplyOutcome
  reason : Option Reason
  fields : ReplyFields
  deriving DecidableEq, Repr

/-- DONE, with fields. -/
def Answer.doneWith (f : ReplyFields) : Answer := ⟨.done, none, f⟩

/-- DONE. -/
def Answer.done : Answer := .doneWith .none

/-- ACCEPTED. -/
def Answer.accepted : Answer := ⟨.accepted, none, .none⟩

/-- REFUSED with a reason. -/
def Answer.refused (r : Reason) : Answer := ⟨.refused, some r, .none⟩

/-- DONE, or DONE-CLAMPED when a value was taken at the limit of its range (R179). -/
def Answer.clamped (c : Bool) (f : ReplyFields) : Answer := ⟨if c then .doneClamped else .done, none, f⟩

/-- The first reason of a list whose condition holds. -/
def firstReason : List (Bool × Reason) → Option Reason
  | [] => none
  | (fails, r) :: rest => if fails then some r else firstReason rest

/-- The refusal of the first condition that fails, or else the answer given. -/
def judge (conditions : List (Bool × Reason)) (otherwise : Answer) : Answer :=
  match firstReason conditions with
  | some r => .refused r
  | none => otherwise

/-! ## Taking a request -/

/-- The oldest frame of a receive buffer dropped, when it is of a kind and a tag. -/
def dropFront (kind tag : Byte) : List (List Byte) → List (List Byte)
  | (k :: t :: rest) :: more => if k = kind && t = tag then more else (k :: t :: rest) :: more
  | l => l

/-- A request handed to the dispatcher of a port: its frame leaves the receive buffer, and the reply before it has been sent
(R178; notes/assumptions/4). -/
def State.dispatch (s : State) (port : Port) (kind tag : Byte) : State :=
  (s.mapIn port fun i => { i with buffer := dropFront kind tag i.buffer }).mapPlant fun _ p =>
    p.mapOut port PortOut.finishReply

/-- The release permit used up by a telegram of the desk port (R89). -/
def Plant.usePermit (p : Plant) (port : Port) : Plant := if port = .desk then { p with permit := none } else p

/-- The answer to a request put on its port's reply path. -/
def Plant.answer (p : Plant) (port : Port) (kind tag : Byte) (a : Answer) : Plant :=
  p.mapOut port fun o =>
    o.putReply { kind := replyKind kind, tag := tag, outcome := a.outcome, reason := a.reason, fields := a.fields }

/-- Whether a port takes no request now: the desk port between the answer to RESET and the reset (R184;
notes/assumptions/26). -/
def State.portWaits (s : State) (port : Port) : Bool := s.resetDue && port == .desk

/-- A request answered and, unless it is refused, given its effect: the release permit is used up as it is taken, and the reply
comes before every report it causes (R89, R179). -/
def State.conclude (s : State) (port : Port) (kind tag : Byte) (a : Answer) (effect : State → State) : State :=
  let t := s.mapPlant fun _ p => (p.usePermit port).answer port kind tag a
  if a.outcome = .refused then t else effect t

/-- The answer to a telegram: FROZEN while the yard is frozen, unless its kind is taken then; else as its own rule judges (R164,
R178). -/
def State.judged (s : State) (k : TelegramKind) (verdict : State → Answer) : Answer :=
  if s.plant.frozen && !k.takenFrozen then .refused .frozen else verdict s

/-- A telegram of a kind taken on a port. -/
def State.takeTelegram (s : State) (k : TelegramKind) (port : Port) (tag : Byte) (verdict : State → Answer)
    (effect : State → State) : State :=
  if s.portWaits port then s
  else
    let t := s.dispatch port k.code tag
    t.conclude port k.code tag (t.judged k verdict) effect

/-- An effect that changes nothing. -/
def noEffect (s : State) : State := s

/-- The plant changed by an event, with the scans and rounds that follow (R98, R150). -/
def State.event (s : State) (f : Env → Plant → Plant) : State := s.mapPlant fun env p => Plant.settled env (f env p)

/-! ## Receiving (R177) -/

/-- Valid frames joined to a receive buffer, in order: one completed while the buffer holds 4 is discarded; the second part says
whether one was. -/
def joinFrames (buffer : List (List Byte)) : List (List Byte) → List (List Byte) × Bool
  | [] => (buffer, false)
  | f :: fs =>
    if buffer.length < Config.receiveCapacity then joinFrames (buffer ++ [f]) fs
    else ((joinFrames buffer fs).1, true)

/-- The plan port's silence timer restarted; silence that stood is ended, with PLAN RESTORED on the desk port and a round
(R154). -/
def Plant.endSilence (p : Plant) : Plant :=
  match p.silence.limit with
  | none => p
  | some ms =>
    let q : Plant := { p with silence := { p.silence with deadline := p.now + ms, silent := false } }
    if p.silence.silent then (q.reportOn .desk false .planRestored).askRound q.active else q

/-- The valid frames completed on a port taken: joined to its buffer, OVERRUN set when one was lost, and on the plan port the
silence timer restarted. -/
def State.takeFrames (s : State) (port : Port) (held : List Byte) (frames : List (List Byte)) : State :=
  let joined := joinFrames (s.portIn port).buffer frames
  let t := s.mapIn port fun i => { i with assembling := held, buffer := joined.1 }
  t.event fun _ p =>
    let q := if joined.2 then p.mapOut port fun o => { o with overrun := true } else p
    if port = .plan && !frames.isEmpty then q.endSilence else q

/-- Bytes received on a port (R177). -/
def State.receive (s : State) (port : Port) (bytes : List Byte) : State :=
  let got := receiveBytes (s.portIn port).assembling bytes
  s.takeFrames port got.1 got.2

end Sys2Proof.Machine
end

