-- ==== Sys2Proof/Machine/PortCommands.lean ====
section
/-! DEFINITION. The telegrams of the ports, the clock, the control mode and the settings store (chapters 6, 9 and 12): kinds 0x01
to 0x0A, and a frame whose kind is not one of Table 12-1. -/

namespace Sys2Proof.Machine

open Sys2Proof

/-! ## STATUS (R185) -/

/-- The fields of the STATUS reply on a port. -/
def State.statusFields (s : State) (port : Port) : ReplyFields :=
  let p := s.plant
  let y := p.current
  .status (p.yardMode s.store.held) p.mode s.resetCause (if y.clock.set then y.clock.minute else 0)
    (if y.clock.set then y.clock.second else 0) y.clock.set p.holdSeconds p.used.length p.queue.length y.arrivals.length
    y.throws s.store.identity p.yard.faults.full (p.out port).overrun p.silence.silent p.session.isSome

/-- STATUS: the fields of R185; the OVERRUN flag shown is cleared. -/
def execStatus (port : Port) (tag : Byte) (s : State) : Host.Outcome State Fault Refusal :=
  .next (s.takeTelegram .status port tag (fun t => .doneWith (t.statusFields port))
    fun t => t.mapPlant fun _ p => p.mapOut port fun o => { o with overrun := false })

/-! ## SET CLOCK (R144, R146) -/

/-- The clock of the yard in force written, CLOCK SET reported, the run-out list placed, and a minute change passed on when the
clock reaches a new minute. -/
def Plant.setClock (env : Env) (p : Plant) (minute second : Nat) : Plant :=
  let sd := p.active
  let old := p.time sd
  let q := p.mapYard sd fun y => { y with clock := ⟨true, minute, second, 0⟩ }
  let q := Plant.placeAll env (q.report sd (.clockSet old ⟨minute, second⟩)) sd
  if old.map ServiceTime.minute = some minute then q else q.askRound sd

/-- SET CLOCK. -/
def execSetClock (port : Port) (tag : Byte) (minute second : Nat) (s : State) : Host.Outcome State Fault Refusal :=
  .next (s.takeTelegram .setClock port tag
    (fun _ => judge [(Config.lastMinute < minute || 59 < second, .malformed)] .done)
    fun t => t.event fun env p => Plant.setClock env p minute second)

/-! ## Control mode (R103 to R105) -/

/-- TAKE CONTROL: MANUAL, and every PLAN or AUTOMATIC request withdrawn. -/
def execTakeControl (port : Port) (tag : Byte) (s : State) : Host.Outcome State Fault Refusal :=
  .next (s.takeTelegram .takeControl port tag (fun _ => judge [(port == .plan, .notAuthority)] .done)
    fun t => t.event fun env p =>
      let q := Plant.dropWhere env { p with mode := .manual } (fun r => r.origin != .desk) .withdrawn .withdrawn
      (q.setMode .manual .takeControl).askScan q.active)

/-- RETURN CONTROL: AUTOMATIC, and every DESK request withdrawn; the sequencer resumes. -/
def execReturnControl (port : Port) (tag : Byte) (s : State) : Host.Outcome State Fault Refusal :=
  .next (s.takeTelegram .returnControl port tag (fun _ => judge [(port == .plan, .notAuthority)] .done)
    fun t => t.event fun env p =>
      let q := Plant.dropWhere env { p with mode := .automatic } (fun r => r.origin == .desk) .withdrawn .withdrawn
      ((q.setMode .automatic .returnControl).askScan q.active).askRound q.active)

/-! ## RESET (R184) -/

/-- RESET: answered DONE; the warm reset follows when that reply has been sent whole. -/
def execReset (port : Port) (tag : Byte) (s : State) : Host.Outcome State Fault Refusal :=
  .next (s.takeTelegram .reset port tag (fun _ => judge [(port == .plan, .notAuthority)] .done)
    fun t => { t with resetDue := true })

/-! ## Permits (R181) -/

/-- An editing permit of a receiving half written; no other name is one. -/
def PortIn.setPermit (i : PortIn) (v : Bool) : PermitName → PortIn
  | .layout => { i with layoutPermit := v }
  | .settings => { i with settingsPermit := v }
  | .record => { i with recordPermit := v }
  | _ => i

/-- Whether a name is one of the three editing permits. -/
def editingPermit : PermitName → Bool
  | .layout => true
  | .settings => true
  | .record => true
  | _ => false

/-- OPEN PERMIT. -/
def execOpenPermit (port : Port) (tag : Byte) (name : PermitName) (s : State) : Host.Outcome State Fault Refusal :=
  .next (s.takeTelegram .openPermit port tag (fun _ => judge [(!editingPermit name, .malformed)] .done)
    fun t => t.mapIn port fun i => i.setPermit true name)

/-- The staging area of a port ended (R10). -/
def State.endStaging (s : State) (port : Port) : State :=
  if s.store.staging.any fun g => g.owner == port then { s with store := { s.store with staging := none } } else s

/-- CLOSE PERMIT; closing LAYOUT ends the port's staging area. -/
def execClosePermit (port : Port) (tag : Byte) (name : PermitName) (s : State) : Host.Outcome State Fault Refusal :=
  .next (s.takeTelegram .closePermit port tag (fun _ => judge [(!editingPermit name, .malformed)] .done)
    fun t =>
      let u := t.mapIn port fun i => i.setPermit false name
      if name = .layout then u.endStaging port else u)

/-! ## Parameters (R109, R182) -/

/-- The stabling road and the length of the tram that a SETTING slot will place there at route locked (R109). -/
def Yard.placing (env : Env) (y : Yard) (sl : Slot) : Option (Nat × Nat) :=
  if sl.state = .setting then
    match env.slotRoute sl with
    | none => none
    | some r =>
      match r.kind, r.source.berth?, r.target.berth? with
      | some .arrival, _, some (.road n) =>
        (y.arrivals.find? fun a => some a.tram == sl.tram).map fun a => (n, a.length)
      | some .shuntIn, some b, some (.road n) => ((y.road? b).bind Road.front).map fun e => (n, e.length)
      | _, _, _ => none
  else none

/-- The lengths of trams at a gap: their sum and one gap between each neighbouring pair. -/
def lengthsAt (gap : Nat) (l : List Nat) : Nat := l.sum + gap * (l.length - 1)

/-- Whether every stabling road of a side keeps the fit rule at a gap (R109). -/
def Plant.gapFits (env : Env) (p : Plant) (sd : Side) (gap : Nat) : Bool :=
  let coming := (p.usedFor sd).filterMap fun sl => Yard.placing env (p.yardOf sd) sl
  env.layout.roads.all fun d =>
    match (p.yardOf sd).road? (.road d.number) with
    | none => true
    | some r =>
      lengthsAt gap (r.entries.map BerthEntry.length ++ (coming.filter fun c => c.1 == d.number).map (·.2)) ≤ d.usable

/-- Whether a berth gap may be stored: one that is not raised, or that keeps the fit rule on the real record and, during a
session, on its copy. -/
def Plant.gapAllowed (env : Env) (p : Plant) (gap : Nat) : Bool :=
  gap ≤ env.params.berthGap ||
    (Plant.gapFits env p .real gap && (p.session.isNone || Plant.gapFits env p .copy gap))

/-- The answer to SET PARAMETER. -/
def setParameterAnswer (port : Port) (n v : Nat) (s : State) : Answer :=
  judge
    [(!(s.portIn port).settingsPermit, .noPermit), (!inRange 19 n, .unknownItem),
     ((n == 14 || n == 17) && 1 < v, .malformed),
     (n == 9 && !Plant.gapAllowed s.env s.plant (paramTaken n v), .length)]
    (.clamped (paramTaken n v != v) (.stored (paramTaken n v)))

/-- A parameter value stored, in both forms (R182, R183). The copy not in use is written also when the value is the one held already
(DESIGN CHOICE, notes/assumptions/6). -/
def Settings.store (t : Settings) (n v : Nat) : Settings :=
  { t with stored := t.stored.set v n, kept := t.kept.write (t.stored.set v n) }

/-- SET PARAMETER. -/
def execSetParameter (port : Port) (tag : Byte) (number value : Nat) (s : State) : Host.Outcome State Fault Refusal :=
  .next (s.takeTelegram .setParameter port tag (setParameterAnswer port number value)
    fun t => { t with settings := t.settings.store number (paramTaken number value) })

/-- READ PARAMETER. -/
def execReadParameter (port : Port) (tag : Byte) (number : Nat) (s : State) : Host.Outcome State Fault Refusal :=
  .next (s.takeTelegram .readParameter port tag
    (fun t =>
      match t.settings.stored.get number with
      | some v => .doneWith (.parameter v (t.settings.inForce.get number))
      | none => .refused .unknownItem)
    noEffect)

/-! ## SET REPORTING (R180) -/

/-- SET REPORTING. -/
def execSetReporting (port : Port) (tag : Byte) (enables : Enables) (s : State) : Host.Outcome State Fault Refusal :=
  .next (s.takeTelegram .setReporting port tag (fun _ => .done)
    fun t => t.mapPlant fun _ p => p.mapOut port fun o => { o with enables := enables })

/-! ## A kind that Table 12-1 does not list, or a body of the wrong length (R178) -/

/-- The telegram kinds taken while the yard is frozen, by their code. -/
def codeTakenFrozen (k : Byte) : Bool := frozenKinds.any fun x => x.code == k

/-- A frame answered REFUSED MALFORMED, or FROZEN while the yard is frozen and its kind is not excepted; it uses the release
permit up. -/
def execUnknownKindFrame (port : Port) (tag kind : Byte) (s : State) : Host.Outcome State Fault Refusal :=
  .next
    (if s.portWaits port then s
     else
       let t := s.dispatch port kind tag
       t.conclude port kind tag
         (judge [(t.plant.frozen && !codeTakenFrozen kind, .frozen)] (.refused .malformed)) noEffect)

end Sys2Proof.Machine
end

