-- ==== Sys2Proof/Machine/RouteCommands.lean ====
section
/-! DEFINITION. The telegrams that act on routes and points and the freeze, and the reading of routes and elements: kinds 0x10 to
0x19 (chapters 2 to 6 and 10). -/

namespace Sys2Proof.Machine

open Sys2Proof

/-! ## REQUEST ROUTE (R95, R96) -/

/-- A tram field: 0 is absent (R186). -/
def tramField (n : Nat) : Option Nat := if n = 0 then none else some n

/-- REQUEST ROUTE: queued with ACCEPTED when every condition of Table 6-2 holds, and a scan follows. -/
def execRequestRoute (port : Port) (tag : Byte) (route tram : Nat) (s : State) : Host.Outcome State Fault Refusal :=
  .next (s.takeTelegram .requestRoute port tag
    (fun t =>
      match Plant.requestRefusal t.env t.plant (t.plant.hasAuthority port) route (tramField tram) with
      | some r => .refused r
      | none => .accepted)
    fun t => t.event fun env p =>
      (Plant.enqueue env p route (originOf port) (tramField tram)).askScan p.active)

/-! ## CANCEL ROUTE (R85 to R87, R102) -/

/-- Whether a route's approach section is CLEAR; a route without one has none that is (R87). -/
def Plant.approachClear (env : Env) (p : Plant) (r : RouteRecord) : Bool :=
  (env.layout.approachOf r).any (Plant.trackClear env p p.active)

/-- Whether a slot is cancelled before its signal was ever shown: SETTING, or LOCKED with opened-once clear (R86). -/
def Slot.unopened (sl : Slot) : Bool := sl.state == .setting || (sl.state == .locked && !sl.openedOnce)

/-- The answer to a cancel of a slot (Table 5-3). -/
def Plant.cancelAnswer (env : Env) (p : Plant) (sl : Slot) : Answer :=
  if sl.unopened then .done
  else
    match sl.state with
    | .locked | .opened => if (env.slotRoute sl).any (Plant.approachClear env p) then .done else .accepted
    | .approachTiming => .accepted
    | _ => .refused .state

/-- A slot put in APPROACH_TIMING for its route's approach release time (R87). -/
def Plant.beginApproachTiming (p : Plant) (sl : Slot) (r : RouteRecord) : Plant :=
  let q := p.mapSlot sl.number fun x =>
    { x with state := .approachTiming, timer := .running (p.base p.active + 1000 * r.releaseSeconds) }
  q.routeState sl .approachTiming .cancelled .none sl.aspectHeld

/-- A cancel of a slot taken: freed at once when it was never opened, else STOP commanded and approach locking (R86, R87). -/
def Plant.cancelSlot (env : Env) (p : Plant) (sl : Slot) : Plant :=
  if sl.unopened then Plant.freeSlot env p sl.number .cancelled
  else if sl.state == .opened || sl.state == .locked then
    match env.slotRoute sl with
    | none => p
    | some r =>
      let q := Plant.stopEntrySignal env p sl
      if Plant.approachClear env p r then Plant.freeSlot env q sl.number .cancelled else q.beginApproachTiming sl r
  else p

/-- The answer to CANCEL ROUTE. -/
def cancelRouteAnswer (port : Port) (route : Nat) (s : State) : Answer :=
  let p := s.plant
  judge
    [(!p.hasAuthority port, .notAuthority), (!s.store.held, .noLayout),
     ((s.store.layout.route? route).isNone, .unknownItem)]
    (if (p.request? route).isSome then .done
     else
       match p.slotOfRoute route with
       | none => .refused .state
       | some sl => Plant.cancelAnswer s.env p sl)

/-- A cancel of a route taken: out of the queue, or in its slot. -/
def Plant.cancelRoute (env : Env) (p : Plant) (route : Nat) : Plant :=
  match p.request? route, p.slotOfRoute route with
  | some r, _ => Plant.dropRequest env p r .cancelled .cancelled
  | none, some sl => Plant.cancelSlot env p sl
  | none, none => p

/-- CANCEL ROUTE. -/
def execCancelRoute (port : Port) (tag : Byte) (route : Nat) (s : State) : Host.Outcome State Fault Refusal :=
  .next (s.takeTelegram .cancelRoute port tag (cancelRouteAnswer port route)
    fun t => t.event fun env p => Plant.cancelRoute env p route)

/-! ## The release permit and EMERGENCY RELEASE (R89, R90) -/

/-- GRANT RELEASE PERMIT: open until 10 s from now. -/
def execGrantReleasePermit (port : Port) (tag : Byte) (s : State) : Host.Outcome State Fault Refusal :=
  .next (s.takeTelegram .grantReleasePermit port tag (fun _ => judge [(port == .plan, .notAuthority)] .done)
    fun t => t.mapPlant fun _ p => { p with permit := some (p.now + Config.permitLapse) })

/-- Whether a slot cannot be emergency released: it is EMERGENCY_TIMING already. -/
def Slot.emergency (sl : Slot) : Bool := sl.state == .emergencyTiming

/-- The answer to EMERGENCY RELEASE (Table 5-4). -/
def emergencyReleaseAnswer (port : Port) (route : Nat) (s : State) : Answer :=
  let held := s.plant.slotOfRoute route
  judge
    [(port == .plan, .notAuthority), (s.plant.permit.isNone, .noPermit), (!s.store.held, .noLayout),
     ((s.store.layout.route? route).isNone, .unknownItem), (held.isNone, .state), (held.any Slot.emergency, .state)]
    (if held.any Slot.unopened then .done else .accepted)

/-- EMERGENCY_TIMING begun (R90). No section is tested for release here, also in a slot that was RELEASE_STOPPED: R80 tests when a
section of the route becomes CLEAR (DEDUCED, notes/assumptions/76). -/
def Plant.beginEmergency (env : Env) (p : Plant) (sl : Slot) : Plant :=
  let q := Plant.stopEntrySignal env p sl
  let q := q.mapSlot sl.number fun x =>
    { x with state := .emergencyTiming, timer := .running (p.base p.active + 1000 * env.params.emergencyTime) }
  q.routeState sl .emergencyTiming .emergency .none sl.aspectHeld

/-- An emergency release taken. -/
def Plant.emergencyRelease (env : Env) (p : Plant) (route : Nat) : Plant :=
  match p.slotOfRoute route with
  | none => p
  | some sl =>
    if sl.unopened then Plant.freeSlot env p sl.number .cancelled
    else if sl.emergency then p
    else Plant.beginEmergency env p sl

/-- EMERGENCY RELEASE. -/
def execEmergencyRelease (port : Port) (tag : Byte) (route : Nat) (s : State) : Host.Outcome State Fault Refusal :=
  .next (s.takeTelegram .emergencyRelease port tag (emergencyReleaseAnswer port route)
    fun t => t.event fun env p => Plant.emergencyRelease env p route)

/-! ## THROW POINT and POINT USE (R38, R39) -/

/-- The answer to THROW POINT (Table 2-5). -/
def throwPointAnswer (port : Port) (n : Nat) (target : Position) (s : State) : Answer :=
  let p := s.plant
  let env := s.env
  judge
    [(!(port == .desk && p.mode == .manual), .notAuthority), (!s.store.held, .noLayout), (p.holding, .hold),
     ((p.current.point? n).isNone, .unknownItem)]
    (match p.current.point? n with
     | none => .refused .unknownItem
     | some x =>
       if x.state = .unknown then .refused .state
       else if x.lies target then .done
       else
         judge
           [(x.outOfUse, .state), (x.claim.isSome || !x.locks.isEmpty, .inUse), (x.throwing, .busy),
            (!Plant.pointClear env p p.active n, .state), (!p.elementUp env p.active (.point n), .state)]
           .accepted)

/-- THROW POINT: a throw with no claim begun toward the target, unless the point lies there. -/
def execThrowPoint (port : Port) (tag : Byte) (point : Nat) (target : Position) (s : State) :
    Host.Outcome State Fault Refusal :=
  .next (s.takeTelegram .throwPoint port tag (throwPointAnswer port point target)
    fun t => t.event fun env p =>
      if (p.current.point? point).any fun x => x.lies target then p
      else Plant.beginThrow env p p.active point target .desk)

/-- The OUT_OF_USE flag of a point of the yard in force written, and POINT USE reported; a change of the real yard's flag goes to
non-volatile store, a change is followed by a round, and a clearing by a scan (R38, R98, R150). -/
def Plant.setPointUse (p : Plant) (n : Nat) (out : Bool) : Plant :=
  let sd := p.active
  match p.current.point? n with
  | none => p
  | some x =>
    let q := p.mapPoint sd n fun y => { y with outOfUse := out }
    let q := q.report sd (.pointUse n out)
    if x.outOfUse = out then q
    else
      let q := if sd = .real then q.keepOutOfUse else q
      if out then q.askRound sd else (q.askScan sd).askRound sd

/-- The conditions that both forms of POINT USE share. -/
def pointUseConditions (port : Port) (n : Nat) (s : State) : List (Bool × Reason) :=
  [(port == .plan, .notAuthority), (!s.store.held, .noLayout), ((s.plant.current.point? n).isNone, .unknownItem)]

/-- POINT USE OUT: refused while the point has a throw in progress or a claim. -/
def execPointUseOut (port : Port) (tag : Byte) (point : Nat) (s : State) : Host.Outcome State Fault Refusal :=
  .next (s.takeTelegram .pointUse port tag
    (fun t =>
      let x := t.plant.current.point? point
      judge (pointUseConditions port point t ++
        [(x.any Point.throwing, .busy), (x.any fun y => y.claim.isSome, .inUse)]) .done)
    fun t => t.event fun _ p => p.setPointUse point true)

/-- POINT USE IN. -/
def execPointUseIn (port : Port) (tag : Byte) (point : Nat) (s : State) : Host.Outcome State Fault Refusal :=
  .next (s.takeTelegram .pointUse port tag (fun t => judge (pointUseConditions port point t) .done)
    fun t => t.event fun _ p => p.setPointUse point false)

/-! ## ALL STOP and FREEZE ACKNOWLEDGE (R162, R165, R166) -/

/-- ALL STOP: a YARD fault of the real yard, with no element. -/
def execAllStop (port : Port) (tag : Byte) (s : State) : Host.Outcome State Fault Refusal :=
  .next (s.takeTelegram .allStop port tag (fun _ => judge [(port == .plan, .notAuthority)] .done)
    fun t => t.event fun env p => Plant.yardFault env p .real .allStop none none none)

/-- One slot in use freed by the acknowledge: what it holds let go, WITHDRAWN told to the sequencer for an AUTOMATIC one, its
ROUTE STATE report placed with aspect held as the slot still holds it (R166, step 1; notes/assumptions/60). -/
def Plant.ackSlot (env : Env) (p : Plant) (sl : Slot) : Plant :=
  let q := p.mapYard p.active fun y => y.letGo sl.number
  let q := q.routeState sl .free .freeze .none sl.aspectHeld
  let q := Plant.handFate env q q.active sl.origin (sl.route.getD 0) sl.tram .withdrawn
  ((q.discardRun sl.number).clearSlot sl.number).tellFreed

/-- The berth roads that the acknowledge makes UNVERIFIED: those that hold an ARRIVING or DEPARTING entry, and the headshunts
that a freed slot named (R127). -/
def Plant.ackRoads (env : Env) (p : Plant) (freed : List Slot) : List Berth :=
  (p.current.roads.filter fun r =>
    r.entries.any (fun e => e.state != .stabled) ||
      match r.berth with
      | .headshunt _ => freed.any fun sl => (env.slotRoute sl).any fun x => x.names r.berth
      | .road _ => false).map Road.berth

/-- The restart hold started for the duration in force (R75). -/
def Plant.startHold (env : Env) (p : Plant) : Plant := { p with hold := some (p.now + 1000 * env.options.hold) }

/-- The freeze record stored and the freeze ended, with FREEZE ENDED, and FAULT LIST FULL when it could not be stored and none had
been reported (R158, R166). FREEZE ENDED carries the primary cause's number also when the record found no place
(notes/assumptions/71). -/
def Plant.endFreeze (p : Plant) : Plant :=
  match p.freeze with
  | none => p
  | some f =>
    let full := p.current.faults.full
    let kept := p.storeFreeze
    let q := if !kept.2 && !full then kept.1.report kept.1.active .faultListFull else kept.1
    q.report q.active (.freezeEnded f.primary.number)

/-- The freeze acknowledged (R166). -/
def Plant.acknowledge (env : Env) (p : Plant) : Plant :=
  let freed := p.used
  let q := freed.foldl (fun q sl => Plant.ackSlot env q sl) p
  let q := Plant.dropWhere env q (fun _ => true) .freeze .withdrawn
  let q := q.unverifyAll q.active (Plant.ackRoads env q freed) .freeze
  Plant.startHold env q.endFreeze

/-- FREEZE ACKNOWLEDGE. -/
def execFreezeAcknowledge (port : Port) (tag : Byte) (s : State) : Host.Outcome State Fault Refusal :=
  .next (s.takeTelegram .freezeAcknowledge port tag
    (fun t =>
      judge
        [(port == .plan, .notAuthority), (t.plant.freeze.isNone, .state),
         (t.plant.freeze.any fun f => !Plant.primaryGone t.env t.plant f.primary, .stillPresent)] .done)
    fun t => t.event Plant.acknowledge)

/-! ## READ ROUTES and READ ELEMENT (R21, R54, R56, R107) -/

/-- What READ ROUTES returns of a slot: its record, and the reserved-by field of each route section. -/
def Plant.slotView (env : Env) (p : Plant) (sl : Slot) : SlotView :=
  { slot := sl
    reserved := (((env.slotRoute sl).map RouteRecord.tracks).getD []).map fun t =>
      (t, (p.current.track? t).bind Track.reservedBy) }

/-- What READ ROUTES returns of a queued request (R107). -/
def Plant.requestView (p : Plant) (r : Request) : RequestView := ⟨r, r.remaining (p.base p.active)⟩

/-- READ ROUTES. -/
def execReadRoutes (port : Port) (tag : Byte) (s : State) : Host.Outcome State Fault Refusal :=
  .next (s.takeTelegram .readRoutes port tag
    (fun t =>
      let p := t.plant
      judge [(!t.store.held, .noLayout)]
        (.doneWith (.routes (p.used.map (Plant.slotView t.env p)) (p.queue.map p.requestView))))
    noEffect)

/-- The fields of READ ELEMENT for a key, absent when the key is no present element's (R21, R54). The elapsed time of a throw is in
whole units of 0.1 s (notes/assumptions/47); the link of a reader counts as UP during a session, as in the copies
(notes/assumptions/49). -/
def Plant.elementFields (env : Env) (p : Plant) : Key → Option ReplyFields
  | .point n => (p.current.point? n).map fun x =>
      .point x ((x.throw.map fun th => (p.base p.active - th.startedAt) / 100).getD 0)
  | .track n => (p.current.track? n).map fun t => .track t.state t.reservedBy
  | .signal n => (p.current.signal? n).map fun g => .signal g.commanded g.reported g.lamp g.isCurrent
  | .gate n =>
    match p.current.reader? n, (env.layout.linkOf (.reader n)).bind p.link? with
    | some r, some l => some (.gate r.lastRead r.time (if p.active = .copy then .up else l.state))
    | _, _ => none
  | _ => none

/-- READ ELEMENT. -/
def execReadElement (port : Port) (tag : Byte) (key : Key) (s : State) : Host.Outcome State Fault Refusal :=
  .next (s.takeTelegram .readElement port tag
    (fun t =>
      judge [(!t.store.held, .noLayout)]
        (match Plant.elementFields t.env t.plant key with
         | some f => .doneWith f
         | none => .refused .unknownItem))
    noEffect)

end Sys2Proof.Machine
end

