-- ==== Sys2Proof/Machine/SequencingCommands.lean ====
section
/-! DEFINITION. The telegrams of the tram register and the run-out list (chapter 9), and ALLOCATE QUERY (chapter 8): kinds 0x20 to
0x25. -/

namespace Sys2Proof.Machine

open Sys2Proof

/-! ## The tram register (R142, R143) -/

/-- Whether a telegram that carries 1 to `hi` items does so (R178; notes/assumptions/11). -/
def countOk (hi n : Nat) : Bool := 1 ≤ n && n ≤ hi

/-- The register with entries taken in, in ascending tram number. -/
def enterTrams (l : List RegisterEntry) (es : List TramFields) : List RegisterEntry :=
  es.foldl (fun l e => putBy RegisterEntry.tram (registerEntryOf e) l) l

/-- The register written, in both forms (R142). The copy not in use is written at every TRAM ENTRY and TRAM REMOVE taken, also when
the register stays as it was (DESIGN CHOICE, notes/assumptions/6). -/
def Register.store (r : Register) (l : List RegisterEntry) : Register :=
  { trams := l, kept := r.kept.write l }

/-- The answer to TRAM ENTRY. -/
def tramEntryAnswer (port : Port) (es : List TramFields) (s : State) : Answer :=
  judge
    [(!countOk 10 es.length, .malformed), (port == .desk, .notAuthority), (s.plant.session.isSome, .rehearsal),
     (!es.all (fun e => tramInRange e.tram), .unknownItem),
     (!es.all (fun e => inRange 4 e.cls) || !noRepeat (es.map TramFields.tram), .malformed),
     (Config.registerCapacity < (enterTrams s.register.trams es).length, .state)]
    (.clamped (es.any tramFieldsClamped) .none)

/-- TRAM ENTRY. -/
def execTramEntry (port : Port) (tag : Byte) (entries : List TramFields) (s : State) : Host.Outcome State Fault Refusal :=
  .next (s.takeTelegram .tramEntry port tag (tramEntryAnswer port entries)
    fun t => { t with register := t.register.store (enterTrams t.register.trams entries) })

/-- Whether a list of tram names is in form: ALL, or 1 to `hi` numbers. -/
def tramNamesCountOk (hi : Nat) : TramNames → Bool
  | .all => true
  | .list l => countOk hi l.length

/-- Whether every tram named is in 1 to 9999. -/
def tramNamesInRange : TramNames → Bool
  | .all => true
  | .list l => l.all tramInRange

/-- Whether a tram is named. -/
def namesTram (names : TramNames) (n : Nat) : Bool :=
  match names with
  | .all => true
  | .list l => l.contains n

/-- TRAM REMOVE. -/
def execTramRemove (port : Port) (tag : Byte) (names : TramNames) (s : State) : Host.Outcome State Fault Refusal :=
  .next (s.takeTelegram .tramRemove port tag
    (fun t =>
      judge
        [(!tramNamesCountOk 10 names, .malformed), (port == .desk, .notAuthority), (t.plant.session.isSome, .rehearsal),
         (!tramNamesInRange names, .unknownItem)] .done)
    fun t =>
      { t with
        register := t.register.store (t.register.trams.filter fun e => !namesTram names e.tram) })

/-! ## The run-out list (R145, R147, R148) -/

/-- An entry placed after every entry of equal or earlier minute, NONE after 2159 (R145, R147). -/
def insertRunOut (e : RunOut) : List RunOut → List RunOut
  | [] => [e]
  | x :: xs => if starred e.departure < starred x.departure then e :: x :: xs else x :: insertRunOut e xs

/-- A new run-out entry: WAITING, with its first readiness, then placed (R140, R147). -/
def Plant.addRunOut (env : Env) (p : Plant) (tram : Nat) (departure : Option Nat) (clamped : Bool) : Plant :=
  let sd := p.active
  let q := p.mapYard sd fun y =>
    { y with
      runOut := insertRunOut ⟨tram, departure, clamped, .waiting, some (y.readinessOf tram departure), none⟩ y.runOut }
  (Plant.placeEntry env q sd tram).askRound sd

/-- A run-out entry sent again: its minute written and its place found anew; unless it is REQUESTED or DEPARTING it becomes
WAITING and is placed (R147). -/
def Plant.resendRunOut (env : Env) (p : Plant) (e : RunOut) (departure : Option Nat) (clamped : Bool) : Plant :=
  let sd := p.active
  let q := p.mapYard sd fun y =>
    { y with
      runOut := insertRunOut { e with departure := departure, clamped := clamped } (delBy RunOut.tram e.tram y.runOut) }
  if e.state == .requested || e.state == .departing then q
  else Plant.placeEntry env (q.setRunOutState sd e.tram .waiting) sd e.tram

/-- One pair of RUN-OUT PLAN taken. -/
def Plant.planPair (env : Env) (p : Plant) (pair : Nat × Nat) : Plant :=
  let departure := departureOf pair.2
  let clamped := departureClamped pair.2
  match p.current.runOut? pair.1 with
  | none => Plant.addRunOut env p pair.1 departure clamped
  | some e => Plant.resendRunOut env p e departure clamped

/-- The answer to RUN-OUT PLAN. -/
def runOutPlanAnswer (port : Port) (pairs : List (Nat × Nat)) (s : State) : Answer :=
  let y := s.plant.current
  let fresh := (pairs.filter fun x => (y.runOut? x.1).isNone).length
  judge
    [(!countOk 16 pairs.length, .malformed), (port == .desk, .notAuthority), (!s.store.held, .noLayout),
     (!pairs.all (fun x => tramInRange x.1), .unknownItem), (!noRepeat (pairs.map (·.1)), .duplicate),
     (Config.runOutCapacity < y.runOut.length + fresh, .state)]
    (.clamped (pairs.any fun x => departureClamped x.2) .none)

/-- RUN-OUT PLAN. -/
def execRunOutPlan (port : Port) (tag : Byte) (pairs : List (Nat × Nat)) (s : State) : Host.Outcome State Fault Refusal :=
  .next (s.takeTelegram .runOutPlan port tag (runOutPlanAnswer port pairs)
    fun t => t.event fun env p =>
      (pairs.foldl (fun q x => Plant.planPair env q x) p).workReadiness p.active false)

/-- RUN-OUT CLEAR. -/
def execRunOutClear (port : Port) (tag : Byte) (names : TramNames) (s : State) : Host.Outcome State Fault Refusal :=
  .next (s.takeTelegram .runOutClear port tag
    (fun t =>
      judge
        [(!tramNamesCountOk 16 names, .malformed), (port == .desk, .notAuthority), (!t.store.held, .noLayout)] .done)
    fun t => t.event fun _ p =>
      (p.mapYard p.active fun y => { y with runOut := y.runOut.filter fun e => !namesTram names e.tram }).workReadiness
        p.active false)

/-- READ RUN-OUT (R148). -/
def execReadRunOut (port : Port) (tag : Byte) (s : State) : Host.Outcome State Fault Refusal :=
  .next (s.takeTelegram .readRunOut port tag
    (fun t =>
      judge [(!t.store.held, .noLayout)] (.doneWith (.runOut t.plant.current.clock t.plant.current.runOut)))
    noEffect)

/-! ## ALLOCATE QUERY (R136, R137) -/

/-- The tram a query is for, or what refuses it (Table 8-3). -/
def State.querySubject (s : State) : Subject → Except Reason RegisterEntry
  | .tram n =>
    match if tramInRange n then s.env.tram? n else none with
    | some t => .ok t
    | none => .error .unknownItem
  | .head =>
    match s.plant.current.arrivals with
    | a :: _ => .ok ⟨a.tram, a.length, a.cls, a.departure⟩
    | [] => .error .noTram

/-- The fields of the reply to a query. -/
def Plant.queryFields (env : Env) (p : Plant) (t : RegisterEntry) : ReplyFields :=
  let ranked := Plant.allocate env p t
  .allocation t.tram t.length t.cls t.departure ranked.length (ranked.take 3) (Plant.roadCodes env p t)

/-- ALLOCATE QUERY. -/
def execAllocateQuery (port : Port) (tag : Byte) (subject : Subject) (s : State) : Host.Outcome State Fault Refusal :=
  .next (s.takeTelegram .allocateQuery port tag
    (fun t =>
      judge [(!t.store.held, .noLayout)]
        (match t.querySubject subject with
         | .ok e => .doneWith (Plant.queryFields t.env t.plant e)
         | .error r => .refused r))
    noEffect)

end Sys2Proof.Machine
end

