-- ==== Sys2Proof/Machine/StablingCommands.lean ====
section
/-! DEFINITION. The telegrams of the stabling record: kinds 0x26 to 0x29 (R123, R124, R128). -/

namespace Sys2Proof.Machine

open Sys2Proof

/-! ## READ ROAD and READ ARRIVALS (R128) -/

/-- The fields of READ ROAD. -/
def Plant.roadFields (env : Env) (r : Road) : ReplyFields :=
  .road r.closed r.verified
    (match r.berth with
     | .road n => (env.layout.road? n).map RoadRecord.usable
     | .headshunt _ => none)
    (usedLength env.params.berthGap r.entries) r.entries

/-- READ ROAD. -/
def execReadRoad (port : Port) (tag : Byte) (berth : Berth) (s : State) : Host.Outcome State Fault Refusal :=
  .next (s.takeTelegram .readRoad port tag
    (fun t =>
      judge [(!t.store.held, .noLayout)]
        (match t.plant.current.road? berth with
         | some r => .doneWith (Plant.roadFields t.env r)
         | none => .refused .unknownItem))
    noEffect)

/-- READ ARRIVALS. -/
def execReadArrivals (port : Port) (tag : Byte) (s : State) : Host.Outcome State Fault Refusal :=
  .next (s.takeTelegram .readArrivals port tag
    (fun t =>
      let p := t.plant
      let y := p.current
      judge [(!t.store.held, .noLayout)]
        (.doneWith (.arrivals y.arrivals (Plant.arrivalCount t.env p p.active) y.expectations y.readers)))
    noEffect)

/-! ## ROAD CENSUS (R123) -/

/-- How many trams a berth road holds at most. -/
def berthCapacity : Berth → Nat
  | .road _ => Config.roadCapacity
  | .headshunt _ => 1

/-- The entries a census gives a road. -/
def censusEntries (env : Env) (time : Option ServiceTime) (trams : List Nat) : List BerthEntry :=
  trams.map fun n =>
    let d := env.dataOf n
    ⟨n, d.length, d.cls, d.departure, .stabled, time⟩

/-- Whether the listed trams fit a stabling road at their census lengths; a headshunt has no length (R109). -/
def censusFits (env : Env) (b : Berth) (trams : List Nat) : Bool :=
  match b with
  | .road n => (env.layout.road? n).any fun d =>
      usedLength env.params.berthGap (censusEntries env none trams) ≤ d.usable
  | .headshunt _ => true

/-- The answer to ROAD CENSUS (Table 7-5). -/
def roadCensusAnswer (port : Port) (b : Berth) (trams : List Nat) (s : State) : Answer :=
  let p := s.plant
  let env := s.env
  judge
    [(!(s.portIn port).recordPermit, .noPermit), (!s.store.held, .noLayout),
     ((p.current.road? b).isNone || !trams.all tramInRange, .unknownItem),
     (berthCapacity b < trams.length || !noRepeat trams, .malformed),
     (p.slotNames env b || p.queueNames env b || trams.any p.tramCarried, .notQuiescent),
     (!censusFits env b trams, .length)]
    .done

/-- A berth road after a census of another takes trams from it. -/
def Road.lose (trams : List Nat) (r : Road) : Road :=
  if r.entries.any fun e => trams.contains e.tram then
    { r with entries := r.entries.filter fun e => !trams.contains e.tram, verified := false }
  else r

/-- The positions of trams in a list, compared: those in both that stand elsewhere. -/
def movedTrams (old new : List Nat) : List Nat := new.filter fun n => old.contains n && old.idxOf n != new.idxOf n

/-- CENSUS_DIFF of a road (R123). -/
def censusDiff (b : Berth) (old new : List BerthEntry) : ReportBody :=
  let was := old.map BerthEntry.tram
  let now := new.map BerthEntry.tram
  .censusDiff b (now.filter fun n => !was.contains n) (was.filter fun n => !now.contains n) (movedTrams was now)
    ((old.filter fun e => e.state != .stabled && now.contains e.tram).map BerthEntry.tram)

/-- The trams that a census of a road makes STABLED again where they stood DEPARTING (R149; notes/assumptions/55). -/
def stabledAgain (old : List BerthEntry) (trams : List Nat) : List Nat :=
  (old.filter fun e => e.state == .departing && trams.contains e.tram).map BerthEntry.tram

/-- A census taken (R123), its berth changes passed to the allocation unit and the sequencer (R119, R149). The ROAD VERIFICATION
report of the road is placed at every census; which other roads are reported is notes/assumptions/35, and that a census which repeats
the road writes the store is notes/assumptions/6 (DESIGN CHOICE). -/
def Plant.census (env : Env) (p : Plant) (b : Berth) (trams : List Nat) : Plant :=
  let sd := p.active
  match p.current.road? b with
  | none => p
  | some old =>
    let entries := censusEntries env (p.time sd) trams
    let before := p.current.roads
    let robbed := (before.filter fun r => r.berth != b && r.verified && !(r.lose trams).verified).map Road.berth
    let q := p.setArrivals sd (p.current.arrivals.filter fun a => !trams.contains a.tram)
    let q := q.mapYard sd fun y => { y with expectations := y.expectations.filter fun x => !trams.contains x.tram }
    let q := q.setRoads sd (before.map fun r =>
      if r.berth == b then { r with entries := entries, verified := true } else r.lose trams)
    let q := robbed.foldl (fun q x => q.clearReservedRoad sd x) q
    let q := q.passBerthChange sd
    let q := (stabledAgain old.entries trams).foldl (fun q n => Plant.noteStabled env q sd n) q
    let q := q.report sd (censusDiff b old.entries entries)
    let q := q.report sd (.roadVerification b true .census)
    robbed.foldl (fun q x => q.report sd (.roadVerification x false .census)) q

/-- ROAD CENSUS. -/
def execRoadCensus (port : Port) (tag : Byte) (berth : Berth) (trams : List Nat) (s : State) :
    Host.Outcome State Fault Refusal :=
  .next (s.takeTelegram .roadCensus port tag (roadCensusAnswer port berth trams)
    fun t => t.event fun env p => Plant.census env p berth trams)

/-! ## ROAD CLOSE/OPEN (R124) -/

/-- The service setting of a berth road written; a change is a berth change with its ROAD SETTING report, and a road made CLOSED
loses its reservation (R124, R152). -/
def Plant.setService (p : Plant) (b : Berth) (closed : Bool) : Plant :=
  let sd := p.active
  match p.current.road? b with
  | none => p
  | some r =>
    if r.closed = closed then p
    else
      let q := p.mapRoad sd b fun r => { r with closed := closed }
      let q := if closed then q.clearReservedRoad sd b else q
      (q.passBerthChange sd).report sd (.roadSetting b closed)

/-- The answer to both forms of ROAD CLOSE/OPEN. -/
def roadServiceAnswer (b : Berth) (s : State) : Answer :=
  judge [(!s.store.held, .noLayout), ((s.plant.current.road? b).isNone, .unknownItem)] .done

/-- ROAD CLOSE. -/
def execRoadClose (port : Port) (tag : Byte) (berth : Berth) (s : State) : Host.Outcome State Fault Refusal :=
  .next (s.takeTelegram .roadCloseOpen port tag (roadServiceAnswer berth)
    fun t => t.event fun _ p => p.setService berth true)

/-- ROAD OPEN. -/
def execRoadOpen (port : Port) (tag : Byte) (berth : Berth) (s : State) : Host.Outcome State Fault Refusal :=
  .next (s.takeTelegram .roadCloseOpen port tag (roadServiceAnswer berth)
    fun t => t.event fun _ p => p.setService berth false)

end Sys2Proof.Machine
end

