-- ==== Sys2Proof/Machine/FaultCommands.lean ====
section
/-! DEFINITION. READ FAULT and CLEAR FAULT (R159, R160). -/

namespace Sys2Proof.Machine

open Sys2Proof

/-- The fields of READ FAULT, absent for a position beyond the records held. -/
def Plant.faultFields (p : Plant) : FaultPlace → Option ReplyFields
  | .position n =>
    let l := p.current.faults
    if n = 0 then none else (l.records[n - 1]?).map fun r => .fault r l.records.length l.next l.full
  | .freeze => some (.freeze p.freeze)

/-- READ FAULT. -/
def execReadFault (port : Port) (tag : Byte) (place : FaultPlace) (s : State) : Host.Outcome State Fault Refusal :=
  .next (s.takeTelegram .readFault port tag
    (fun t =>
      match t.plant.faultFields place with
      | some f => .doneWith f
      | none => .refused .unknownItem)
    noEffect)

/-- Whether a record's route context names a route that the layout no longer holds. -/
def contextRouteGone (env : Env) (r : FaultRecord) : Bool := r.context.any fun c => (env.layout.route? c.route).isNone

/-- Whether the condition of a record of an ELEMENT kind stands no more on the yard in force (Table 10-1); that of an element the
layout no longer holds is taken as gone (R17). An element that one commit removed and a later one entered again under its number is
tested as it then stands (DESIGN CHOICE, notes/assumptions/72). -/
def Plant.elementConditionGone (env : Env) (p : Plant) (r : FaultRecord) : Bool :=
  let y := p.current
  match r.kind, r.element with
  | .sectionDisturbed, some (.track n) => (env.layout.track? n).isNone || Plant.trackClear env p p.active n
  | .aspectLost, some (.signal n) =>
    (env.layout.signal? n).isNone || (y.signal? n).any fun g => g.isCurrent && g.reported == some g.commanded
  | .lampFailed, some (.signal n) =>
    (env.layout.signal? n).isNone || (y.signal? n).any fun g => g.lamp == some .ok
  | .linkDown, some (.link n) => p.linkUpFor p.active n
  | .sequence, _ => true
  | .passedAtStop, _ => true
  | .identity, _ => true
  | _, some (.point n) =>
    (env.layout.point? n).isNone || (y.point? n).any fun x => x.isDetected .normal || x.isDetected .reverse
  | _, _ => true

/-- Whether the condition of a record is gone, for CLEAR FAULT: by Table 10-1, or because the record names an element or a route
that the layout no longer holds (R17, R159), also when a LAYOUT ERASE and no commit removed it (DESIGN CHOICE,
notes/assumptions/72). -/
def Plant.conditionGone (env : Env) (p : Plant) (r : FaultRecord) : Bool :=
  contextRouteGone env r || Plant.elementConditionGone env p r

/-- The record of a number made CLEARED; should the list hold two of one number, after a wrap of the next number, both are
(notes/assumptions/59). -/
def clearRecord (n : Nat) (l : List FaultRecord) : List FaultRecord :=
  updBy FaultRecord.number n (fun r => { r with cleared := true }) l

/-- The answer to CLEAR FAULT. -/
def clearFaultAnswer (n : Nat) (s : State) : Answer :=
  match findBy FaultRecord.number n s.plant.current.faults.records with
  | none => .refused .unknownItem
  | some r => if r.cleared || Plant.conditionGone s.env s.plant r then .done else .refused .stillPresent

/-- An OPEN record cleared: CLEARED, the list-full indicator cleared, its report placed, and a round asked for (R159). -/
def Plant.clearFault (p : Plant) (n : Nat) : Plant :=
  let sd := p.active
  match findBy FaultRecord.number n p.current.faults.records with
  | none => p
  | some r =>
    if r.cleared then p
    else
      let q := p.mapYard sd fun y =>
        { y with faults := { y.faults with records := clearRecord n y.faults.records, full := false } }
      (q.report sd (.fault { r with cleared := true } true none)).askRound sd

/-- CLEAR FAULT. -/
def execClearFault (port : Port) (tag : Byte) (number : Nat) (s : State) : Host.Outcome State Fault Refusal :=
  .next (s.takeTelegram .clearFault port tag (clearFaultAnswer number)
    fun t => t.event fun _ p => p.clearFault number)

end Sys2Proof.Machine
end

