-- ==== Sys2Proof/Machine/LayoutCommands.lean ====
section
/-! DEFINITION. The telegrams of the layout store: kinds 0x40 to 0x45 (R9 to R20). -/

namespace Sys2Proof.Machine

open Sys2Proof

/-- Whether the other port owns a staging area. -/
def State.otherOwns (s : State) (port : Port) : Bool := s.store.staging.any fun g => g.owner == port.other

/-- Whether a port owns the staging area. -/
def State.owns (s : State) (port : Port) : Bool := s.store.staging.any fun g => g.owner == port

/-- The conditions that LAYOUT BEGIN, COMMIT and ERASE begin with, after the freeze (Tables 1-4, 1-6, 1-7). -/
def layoutConditions (port : Port) (s : State) : List (Bool × Reason) :=
  [(s.plant.session.isSome, .rehearsal), (!(s.portIn port).layoutPermit, .noPermit), (s.otherOwns port, .busy)]

/-- LAYOUT BEGIN (R9). -/
def execLayoutBegin (port : Port) (tag : Byte) (expected fresh : Nat) (form : StartForm) (s : State) :
    Host.Outcome State Fault Refusal :=
  .next (s.takeTelegram .layoutBegin port tag
    (fun t =>
      judge (layoutConditions port t ++
        [(t.store.held && expected != t.store.identity, .layoutMismatch),
         (fresh == Config.erasedIdentity || fresh == 0, .malformed)]) .done)
    fun t =>
      { t with
        store :=
          { t.store with
            staging := some
              { owner := port, expected := expected, fresh := fresh, erasedThen := !t.store.held,
                layout := match form with | .empty => .empty | .copy => t.store.layout } } })

/-- The staging area's records changed. -/
def State.mapStaging (s : State) (f : Layout → Layout) : State :=
  { s with store := { s.store with staging := s.store.staging.map fun g => { g with layout := f g.layout } } }

/-- The conditions of both forms of LAYOUT RECORD, after the freeze (R11). -/
def recordConditions (port : Port) (s : State) : List (Bool × Reason) :=
  [(!(s.portIn port).layoutPermit, .noPermit), (s.otherOwns port, .busy), (!s.owns port, .state)]

/-- LAYOUT RECORD, PUT form. -/
def execLayoutRecordPut (port : Port) (tag : Byte) (record : LayoutRecord) (s : State) : Host.Outcome State Fault Refusal :=
  .next (s.takeTelegram .layoutRecord port tag
    (fun t =>
      judge (recordConditions port t)
        (match recordRefusal record with
         | some r => .refused r
         | none => .done))
    fun t => t.mapStaging fun l => l.put record)

/-- LAYOUT RECORD, REMOVE form: DONE whether or not a record was there. -/
def execLayoutRecordRemove (port : Port) (tag : Byte) (key : Key) (s : State) : Host.Outcome State Fault Refusal :=
  .next (s.takeTelegram .layoutRecord port tag (fun t => judge (recordConditions port t) .done)
    fun t => t.mapStaging fun l => l.remove key)

/-- Whether the stored identity is still the one LAYOUT BEGIN found (Table 1-6). -/
def Staging.matches (g : Staging) (s : LayoutStore) : Bool :=
  s.identity == g.expected || (g.erasedThen && !s.held)

/-- The answer to LAYOUT COMMIT (Table 1-6); a refusal for an invalid staging area carries the faulty key and the check. -/
def layoutCommitAnswer (port : Port) (s : State) : Answer :=
  match s.store.staging with
  | none => judge (layoutConditions port s) (.refused .state)
  | some g =>
    judge (layoutConditions port s ++
      [(!s.owns port, .state), (!g.matches s.store, .layoutMismatch), (!s.plant.quiescent, .notQuiescent)])
      (match g.layout.validate s.settings.stored.berthGap s.plant.yard with
       | some f => ⟨.refused, some f.2.2, .faulty f.1 f.2.1⟩
       | none => .done)

/-- LAYOUT COMMIT. -/
def execLayoutCommit (port : Port) (tag : Byte) (s : State) : Host.Outcome State Fault Refusal :=
  .next (s.takeTelegram .layoutCommit port tag (layoutCommitAnswer port)
    fun t =>
      match t.store.staging with
      | some g => (t.commit g).event fun _ p => p
      | none => t)

/-- LAYOUT ABANDON. -/
def execLayoutAbandon (port : Port) (tag : Byte) (s : State) : Host.Outcome State Fault Refusal :=
  .next (s.takeTelegram .layoutAbandon port tag (fun t => judge [(t.otherOwns port, .busy)] .done)
    fun t => t.endStaging port)

/-- LAYOUT ERASE. -/
def execLayoutErase (port : Port) (tag : Byte) (expected : Nat) (s : State) : Host.Outcome State Fault Refusal :=
  .next (s.takeTelegram .layoutErase port tag
    (fun t =>
      judge (layoutConditions port t ++
        [(!t.store.held, .noLayout), (expected != t.store.identity, .layoutMismatch),
         (!t.plant.quiescent, .notQuiescent)]) .done)
    fun t => t.erase.event fun _ p => p)

/-- The other routes that conflict with a route, in ascending number (R20). -/
def LayoutStore.conflictsOf (s : LayoutStore) (n : Nat) : List Nat :=
  (s.layout.routes.map RouteRecord.number).filter fun m => m != n && inConflict s.conflicts n m

/-- The answer to READ LAYOUT from the committed layout. -/
def readCommitted (s : LayoutStore) (key : Key) : Answer :=
  judge [(!s.held, .noLayout)]
    (match s.layout.record? key with
     | none => .refused .unknownItem
     | some r =>
       match r with
       | .route x => .doneWith (.layout s.identity none r x.kind (s.conflictsOf x.number))
       | _ => .doneWith (.layout s.identity none r none []))

/-- The answer to READ LAYOUT from the staging area. While the other port owns it the refusal is BUSY, and STATE where no port owns
one (DEDUCED, notes/assumptions/77). -/
def readStaging (port : Port) (s : LayoutStore) (key : Key) : Answer :=
  match s.staging with
  | none => .refused .state
  | some g =>
    if g.owner = port then
      match g.layout.record? key with
      | none => .refused .unknownItem
      | some r => .doneWith (.layout s.identity (some (g.expected, g.fresh)) r none [])
    else .refused .busy

/-- READ LAYOUT (R20). -/
def execReadLayout (port : Port) (tag : Byte) (source : LayoutSource) (key : Key) (s : State) :
    Host.Outcome State Fault Refusal :=
  .next (s.takeTelegram .readLayout port tag
    (fun t =>
      match source with
      | .committed => readCommitted t.store key
      | .staging => readStaging port t.store key)
    noEffect)

end Sys2Proof.Machine
end

