-- ==== Sys2Proof/Machine/LinkCommands.lean ====
section
/-! DEFINITION. The desk's commands for the field links, and the telegrams of a rehearsal session: kinds 0x50 to 0x62 (R170 to
R176). -/

namespace Sys2Proof.Machine

open Sys2Proof

/-! ## Links (R170, R171) -/

/-- The conditions that the link telegrams share. -/
def linkConditions (port : Port) (link : Nat) (s : State) : List (Bool × Reason) :=
  [(port == .plan, .notAuthority), ((s.plant.link? link).isNone, .unknownItem)]

/-- Whether a link is in a state. -/
def Plant.linkIs (p : Plant) (n : Nat) (st : LinkState) : Bool := (p.link? n).any fun l => l.state == st

/-- LINK RETRAIN: TRAINING with a fresh window; a LINK RETRAINED report is owed. -/
def execLinkRetrain (port : Port) (tag : Byte) (link : Nat) (s : State) : Host.Outcome State Fault Refusal :=
  .next (s.takeTelegram .linkRetrain port tag
    (fun t => judge (linkConditions port link t ++ [(t.plant.linkIs link .disabled, .state)]) .accepted)
    fun t => t.event fun env p =>
      (Plant.setLink env p link .training .retrain).mapLink link fun l => { l with retrainOwed := true })

/-- Whether a slot in use holds a route with an element on a link, in whatever session. -/
def Plant.linkInUse (env : Env) (p : Plant) (n : Nat) : Bool :=
  p.used.any fun sl => (env.slotRoute sl).any fun r => env.layout.routeUsesLink r n

/-- LINK DISABLE. IN_USE comes first, also for a link that is DISABLED already (R171; notes/assumptions/68). -/
def execLinkDisable (port : Port) (tag : Byte) (link : Nat) (s : State) : Host.Outcome State Fault Refusal :=
  .next (s.takeTelegram .linkDisableEnable port tag
    (fun t => judge (linkConditions port link t ++ [(Plant.linkInUse t.env t.plant link, .inUse)]) .done)
    fun t => t.event fun env p =>
      if p.linkIs link .disabled then p else Plant.setLink env p link .disabled .disable)

/-- LINK ENABLE. -/
def execLinkEnable (port : Port) (tag : Byte) (link : Nat) (s : State) : Host.Outcome State Fault Refusal :=
  .next (s.takeTelegram .linkDisableEnable port tag (fun t => judge (linkConditions port link t) .done)
    fun t => t.event fun env p =>
      if p.linkIs link .disabled then Plant.setLink env p link .training .enable else p)

/-! ## Sessions (R172, R176) -/

/-- The answer to REHEARSAL BEGIN. -/
def rehearsalBeginAnswer (port : Port) (rate : Nat) (s : State) : Answer :=
  let p := s.plant
  judge
    [(port == .plan, .notAuthority), (!s.store.held, .noLayout), (p.session.isSome, .state),
     (p.mode != .manual, .notAuthority), (p.holding, .hold), (!p.quiescent, .notQuiescent),
     (rate != 1 && rate != 10, .malformed)]
    .done

/-- REHEARSAL BEGIN. -/
def execRehearsalBegin (port : Port) (tag : Byte) (rate : Nat) (s : State) : Host.Outcome State Fault Refusal :=
  .next (s.takeTelegram .rehearsalBegin port tag (rehearsalBeginAnswer port rate)
    fun t => t.event fun _ p => p.beginSession rate)

/-- REHEARSAL END: the reply carries the summary. -/
def execRehearsalEnd (port : Port) (tag : Byte) (s : State) : Host.Outcome State Fault Refusal :=
  .next (s.takeTelegram .rehearsalEnd port tag
    (fun t =>
      judge [(port == .plan, .notAuthority)]
        (match Plant.endSummary t.env t.plant with
         | some x => .doneWith (.summary x)
         | none => .refused .state))
    fun t => t.event Plant.endSession)

/-! ## REHEARSAL ACT (R175) -/

/-- The answer to an action, given whether what it names is present and of the right kind. R175 names no order, so the items named
come before the state (R178): UNKNOWN_ITEM, MALFORMED, then STATE without a session. -/
def actAnswer (s : State) (present right : Bool) : Answer :=
  judge [(!present, .unknownItem), (!right, .malformed), (s.plant.session.isNone, .state)] .done

/-- Whether a key's record is present in the layout. -/
def State.keyPresent (s : State) (k : Key) : Bool := (s.store.layout.record? k).isSome

/-- REHEARSAL ACT ARRIVE: a simulated inbound read. -/
def execRehearsalActArrive (port : Port) (tag : Byte) (tram : Nat) (s : State) : Host.Outcome State Fault Refusal :=
  .next (s.takeTelegram .rehearsalAct port tag (fun t => actAnswer t (tramInRange tram) true)
    fun t => t.event fun env p => Plant.simRead env p 1 (some tram))

/-- The section of a key. -/
def trackKey : Key → Option Nat
  | .track n => some n
  | _ => none

/-- The point of a key. -/
def pointKey : Key → Option Nat
  | .point n => some n
  | _ => none

/-- A copy section of a key made to take a state. -/
def Plant.actSection (env : Env) (p : Plant) (key : Key) (st : TrackState) : Plant :=
  match trackKey key with
  | some n => Plant.simSection env p n st
  | none => p

/-- REHEARSAL ACT OCCUPY. -/
def execRehearsalActOccupy (port : Port) (tag : Byte) (key : Key) (s : State) : Host.Outcome State Fault Refusal :=
  .next (s.takeTelegram .rehearsalAct port tag (fun t => actAnswer t (t.keyPresent key) (trackKey key).isSome)
    fun t => t.event fun env p => Plant.actSection env p key .occupied)

/-- REHEARSAL ACT CLEAR. -/
def execRehearsalActClear (port : Port) (tag : Byte) (key : Key) (s : State) : Host.Outcome State Fault Refusal :=
  .next (s.takeTelegram .rehearsalAct port tag (fun t => actAnswer t (t.keyPresent key) (trackKey key).isSome)
    fun t => t.event fun env p => Plant.actSection env p key .clear)

/-- Whether an injection's element is of its kind: a point for OBSTRUCT and NO_DETECT, a section for DISTURB, none for
READ_FAIL. -/
def injectionFits : Injection → Option Key → Bool
  | .obstruct, some (.point _) => true
  | .noDetect, some (.point _) => true
  | .disturb, some (.track _) => true
  | .readFail, none => true
  | _, _ => false

/-- An injection made to stand. -/
def Plant.inject (env : Env) (p : Plant) (kind : Injection) (key : Option Key) : Plant :=
  match kind, key.bind pointKey, key.bind trackKey with
  | .obstruct, some n, _ => p.mapSession fun c => { c with obstruct := addOnce n c.obstruct }
  | .noDetect, some n, _ => p.mapSession fun c => { c with noDetect := addOnce n c.noDetect }
  | .disturb, _, some n => Plant.injectDisturb env p n
  | .readFail, _, _ => p.mapSession fun c => { c with readFail := true }
  | _, _, _ => p

/-- An injection ended. -/
def Plant.uninject (env : Env) (p : Plant) (kind : Injection) (key : Option Key) : Plant :=
  match kind, key.bind pointKey, key.bind trackKey with
  | .obstruct, some n, _ => p.mapSession fun c => { c with obstruct := c.obstruct.filter fun x => x != n }
  | .noDetect, some n, _ => p.mapSession fun c => { c with noDetect := c.noDetect.filter fun x => x != n }
  | .disturb, _, some n => Plant.removeDisturb env p n
  | .readFail, _, _ => p.mapSession fun c => { c with readFail := false }
  | _, _, _ => p

/-- REHEARSAL ACT INJECT. -/
def execRehearsalActInject (port : Port) (tag : Byte) (kind : Injection) (key : Option Key) (s : State) :
    Host.Outcome State Fault Refusal :=
  .next (s.takeTelegram .rehearsalAct port tag (fun t => actAnswer t (key.all t.keyPresent) (injectionFits kind key))
    fun t => t.event fun env p => Plant.inject env p kind key)

/-- REHEARSAL ACT REMOVE. -/
def execRehearsalActRemove (port : Port) (tag : Byte) (kind : Injection) (key : Option Key) (s : State) :
    Host.Outcome State Fault Refusal :=
  .next (s.takeTelegram .rehearsalAct port tag (fun t => actAnswer t (key.all t.keyPresent) (injectionFits kind key))
    fun t => t.event fun env p => Plant.uninject env p kind key)

end Sys2Proof.Machine
end

