-- ==== Sys2Proof/Machine/LineEvents.lean ====
section
/-! DEFINITION. Events on the lines of the telegram ports: bytes received, a gap inside a frame, a frame sent (R177, R179). -/

namespace Sys2Proof.Machine

open Sys2Proof

/-- Bytes received on a port, which complete a frame. -/
def execValidFrameReceived (port : Port) (bytes : List Byte) (s : State) : Host.Outcome State Fault Refusal :=
  .next (s.receive port bytes)

/-- Bytes received on a port and then a gap of more than 20 ms: a frame in hand is discarded. -/
def execFrameGapTimeout (port : Port) (bytes : List Byte) (s : State) : Host.Outcome State Fault Refusal :=
  .next ((s.receive port bytes).mapIn port fun i => { i with assembling := [] })

/-- Bytes received on a port, among them a length byte outside 2 to 250: that frame is discarded, and the receiver hunts from
the byte after. -/
def execFrameLengthOutsideRange (port : Port) (bytes : List Byte) (s : State) : Host.Outcome State Fault Refusal :=
  .next (s.receive port bytes)

/-- The transmitter of a port finishes its frame and starts the waiting reply, or else the oldest report. -/
def execFrameSent (port : Port) (s : State) : Host.Outcome State Fault Refusal :=
  .next (s.mapPlant fun _ p => p.mapOut port PortOut.frameSent)

end Sys2Proof.Machine
end

