-- ==== Sys2Proof/Machine/FieldEvents.lean ====
section
/-! DEFINITION. Reports from the field stations, taken from the element's own link while it is UP (R1, R22, R42, R47, R52, R168).
-/

namespace Sys2Proof.Machine

open Sys2Proof

/-- A good frame on a link that carries a report for an element: on a link that is UP its silence starts afresh, and the report
is given its effect when the element is the link's own. -/
def Plant.fieldReport (env : Env) (p : Plant) (link : Nat) (e : FaultElement) (effect : Plant → Plant) : Plant :=
  if p.linkUp link then
    let q := p.goodFrame link
    if Plant.reportTaken env q link e then effect q else q
  else p

/-- A detection report for a point. -/
def execPointDetectionReport (link point : Nat) (detected : Option Position) (s : State) :
    Host.Outcome State Fault Refusal :=
  .next (s.event fun env p =>
    Plant.fieldReport env p link (.point point) fun q => Plant.pointDetection env q .real point detected)

/-- A current sample for a point. -/
def execCurrentSample (link point value : Nat) (s : State) : Host.Outcome State Fault Refusal :=
  .next (s.event fun env p =>
    Plant.fieldReport env p link (.point point) fun q => Plant.currentSample env q .real point value)

/-- A drive-stopped report, on which no action is taken (R22). -/
def execDriveStopped (link point : Nat) (s : State) : Host.Outcome State Fault Refusal :=
  .next (s.event fun env p => Plant.fieldReport env p link (.point point) fun q => q)

/-- A section report. -/
def execSectionReport (link track : Nat) (condition : Occupancy) (s : State) : Host.Outcome State Fault Refusal :=
  .next (s.event fun env p =>
    Plant.fieldReport env p link (.track track) fun q => Plant.sectionChange env q .real track condition.state)

/-- A signal report. -/
def execSignalReport (link signal : Nat) (aspect : Aspect) (lamp : Lamp) (number : Nat) (s : State) :
    Host.Outcome State Fault Refusal :=
  .next (s.event fun env p =>
    Plant.fieldReport env p link (.signal signal) fun q => Plant.signalReport env q .real signal aspect lamp number)

/-- A read from a gate's reader, which always goes to the real stabling record (R52). -/
def execGateRead (link gate : Nat) (read : GateRead) (s : State) : Host.Outcome State Fault Refusal :=
  .next (s.event fun env p =>
    Plant.fieldReport env p link (.reader gate) fun q => Plant.takeRead env q .real gate read)

/-- A training answer: on a link in TRAINING one that names the link's own number brings it UP, with the full state that the
station then sends; any other answer is a good frame and nothing more (R168). -/
def execTrainingAnswer (link number : Nat) (full : FullState) (s : State) : Host.Outcome State Fault Refusal :=
  .next (s.event fun env p =>
    if p.linkIs link .training && number == link then Plant.linkComesUp env p link full else p.goodFrame link)

/-- A frame whose check fails: the third in a row takes an UP link DOWN (Table 11-1). -/
def execLinkBadFrame (link : Nat) (s : State) : Host.Outcome State Fault Refusal :=
  .next (s.event fun env p =>
    match p.link? link with
    | none => p
    | some l =>
      if l.state = .up then
        let q := p.mapLink link fun x => { x with bad := l.bad + 1 }
        if Config.badFrameLimit ≤ l.bad + 1 then Plant.setLink env q link .down .badFrames else q
      else p)

end Sys2Proof.Machine
end

