-- ==== Sys2Proof/Machine/TimerEvents.lean ====
section
/-! DEFINITION. Events of the part's timers, of the service clocks and of the simulated field. Each brings the time base to the
moment when it falls due, and has no effect when its timer does not run (notes/assumptions/2). -/

namespace Sys2Proof.Machine

open Sys2Proof

/-! ## Links (Table 11-1) -/

/-- A link in a state, moved on when its supervision falls due. -/
def Plant.linkDue (p : Plant) (n : Nat) (st : LinkState) (due : Link → Nat) (f : Plant → Plant) : Plant :=
  match p.link? n with
  | none => p
  | some l => if l.state = st then f (p.advanceTo .real (due l)) else p

/-- The training window of a link ends without an answer. -/
def execTrainingTimeout (link : Nat) (s : State) : Host.Outcome State Fault Refusal :=
  .next (s.event fun env p =>
    p.linkDue link .training Link.windowEnd fun q => Plant.setLink env q link .down .timeout)

/-- When a link UP has been silent too long. -/
def Link.silenceDue (l : Link) : Nat := l.lastGood + Config.linkSilence

/-- No good frame for 1 s on a link that is UP. -/
def execLinkSilenceTimeout (link : Nat) (s : State) : Host.Outcome State Fault Refusal :=
  .next (s.event fun env p =>
    p.linkDue link .up Link.silenceDue fun q => Plant.setLink env q link .down .silence)

/-- The wait of a link in DOWN is over. -/
def execDownWaitExpiry (link : Nat) (s : State) : Host.Outcome State Fault Refusal :=
  .next (s.event fun env p =>
    p.linkDue link .down Link.windowEnd fun q => Plant.setLink env q link .training .waitOver)

/-- When a link is next sent a frame. -/
def Link.pollDue (l : Link) : Nat := l.lastSent + Config.pollPeriod

/-- A TRAINING or UP link that has been sent nothing for 250 ms is sent a poll (R168). -/
def execLinkPoll (link : Nat) (s : State) : Host.Outcome State Fault Refusal :=
  .next (s.event fun _ p =>
    match p.link? link with
    | none => p
    | some l =>
      if l.state = .training ∨ l.state = .up then (p.advanceTo .real l.pollDue).send link .poll else p)

/-! ## Throws (R27, R30) -/

/-- The time limit of the running drive of a point reached. -/
def execDriveTimeLimitExpiry (point : Nat) (s : State) : Host.Outcome State Fault Refusal :=
  .next (s.event fun env p =>
    match (p.current.point? point).bind Point.limitDue with
    | none => p
    | some due =>
      let q := p.advanceTo p.active due
      match q.current.point? point with
      | some x => Plant.driveLimit env q q.active x
      | none => q)

/-- The pause of a point in RETRY_WAIT ends. -/
def execRetryPauseEnd (point : Nat) (s : State) : Host.Outcome State Fault Refusal :=
  .next (s.event fun env p =>
    match (p.current.point? point).bind Point.pauseDue with
    | none => p
    | some due =>
      let q := p.advanceTo p.active due
      match q.current.point? point with
      | some x =>
        match x.throw with
        | some th => Plant.retry env q q.active x th
        | none => q
      | none => q)

/-! ## Slots, requests, permit, hold (R64, R88, R89, R92, R101, R75) -/

/-- A slot in a state whose timer runs, given an effect at its expiry. -/
def Plant.slotDue (p : Plant) (n : Nat) (st : SlotState) (f : Plant → Plant) : Plant :=
  match p.slot? n with
  | none => p
  | some sl =>
    match sl.timer.expiry? with
    | some due => if sl.state = st then f (p.advanceTo p.active due) else p
    | none => p

/-- The setting limit of a slot in SETTING reached (R64). -/
def execSettingLimitExpiry (slot : Nat) (s : State) : Host.Outcome State Fault Refusal :=
  .next (s.event fun env p => p.slotDue slot .setting fun q => Plant.abandon env q slot .settingLimit)

/-- The approach release timer of a slot expires (R88). -/
def execApproachReleaseExpiry (slot : Nat) (s : State) : Host.Outcome State Fault Refusal :=
  .next (s.event fun env p => p.slotDue slot .approachTiming fun q => Plant.freeSlot env q slot .approachExpired)

/-- The emergency release timer of a slot expires (R92). -/
def execEmergencyReleaseExpiry (slot : Nat) (s : State) : Host.Outcome State Fault Refusal :=
  .next (s.event fun env p => p.slotDue slot .emergencyTiming fun q => Plant.freeSlot env q slot .emergencyExpired)

/-- The release permit lapses (R89). -/
def execReleasePermitLapse (s : State) : Host.Outcome State Fault Refusal :=
  .next (s.mapPlant fun _ p =>
    match p.permit with
    | some due => { p.advanceTo .real due with permit := none }
    | none => p)

/-- A queued request expires (R101). -/
def execRequestExpiry (route : Nat) (s : State) : Host.Outcome State Fault Refusal :=
  .next (s.event fun env p =>
    match p.request? route with
    | none => p
    | some r =>
      match r.expiry? with
      | some due => Plant.dropRequest env (p.advanceTo p.active due) r .expired .expired
      | none => p)

/-- The restart hold ends: HOLD ENDED, a scan and a round (R75). -/
def execRestartHoldEnd (s : State) : Host.Outcome State Fault Refusal :=
  .next (s.event fun _ p =>
    match p.hold with
    | none => p
    | some due =>
      let q : Plant := { p.advanceTo .real due with hold := none }
      ((q.report .real .holdEnded).askScan q.active).askRound q.active)

/-- The plan port has been silent for the limit (R154). -/
def execPlanSilenceTimeout (s : State) : Host.Outcome State Fault Refusal :=
  .next (s.mapPlant fun _ p =>
    if p.silence.limit.isSome && !p.silence.silent then
      let q := p.advanceTo .real p.silence.deadline
      ({ q with silence := { q.silence with silent := true } } : Plant).reportOn .desk false .planSilent
    else p)

/-! ## The service clocks (R144, R146) -/

/-- A clock that is SET and not at the end of the service day. -/
def Clock.counts (c : Clock) : Bool := c.set && c.minute < Config.lastMinute

/-- Whether a side has tables of its own: the copies stand only during a session. -/
def Plant.hasSide (p : Plant) : Side → Bool
  | .real => true
  | .copy => p.session.isSome

/-- The clock of a side reaches its next minute: the run-out list of that side is placed, and a round follows. -/
def Plant.minuteChange (env : Env) (p : Plant) (sd : Side) : Plant :=
  let c := (p.yardOf sd).clock
  if p.hasSide sd && c.counts then
    let q := p.advance (p.ownTime sd c.toNextMinute)
    let q := q.mapYard sd fun y => { y with clock := y.clock.nextMinute }
    (Plant.placeAll env q sd).askRound sd
  else p

/-- A clock reaches a new minute by running. -/
def execMinuteChange (side : Side) (s : State) : Host.Outcome State Fault Refusal :=
  .next (s.event fun env p => Plant.minuteChange env p side)

/-! ## The simulated field (R174) -/

/-- The next sample of a simulated drive. -/
def execSimCurrentSample (point : Nat) (s : State) : Host.Outcome State Fault Refusal :=
  .next (s.event fun env p =>
    match p.simDrive? point with
    | some d => Plant.simSample env (p.advanceTo .copy d.sampleDue) d
    | none => p)

/-- The position of a simulated drive detected. -/
def execSimDriveDetection (point : Nat) (s : State) : Host.Outcome State Fault Refusal :=
  .next (s.event fun env p =>
    match p.simDrive? point with
    | none => p
    | some d =>
      match d.detectionDue with
      | some due => Plant.simDetect env (p.advanceTo .copy due) d
      | none => p)

/-- The next step of a simulated tram run. -/
def execSimTramStep (run : Nat) (s : State) : Host.Outcome State Fault Refusal :=
  .next (s.event fun env p =>
    match p.run? run with
    | none => p
    | some r =>
      match r.due with
      | some due => Plant.runStep env (p.advanceTo .copy due) r
      | none => p)

end Sys2Proof.Machine
end

