-- ==== Sys2Proof/Machine/ResetEvents.lean ====
section
/-! DEFINITION. Cold and warm resets (0.8, R8, R40, R44, R51, R53, R75, R76, R125, R126, R155, R167, R180, R183, R184). -/

namespace Sys2Proof.Machine

open Sys2Proof

/-! ## What both kinds share -/

/-- The control mode of the option "mode after reset" (R103). -/
def modeOf (o : Options) : Mode := if o.mode = 1 then .automatic else .manual

/-- Silence supervision as a reset at a time arms it or leaves it (R154, R183). -/
def silenceOf (o : Options) (now : Nat) : Silence :=
  if o.silence = 0 then ⟨none, 0, false⟩ else ⟨some (1000 * o.silence), now + 1000 * o.silence, false⟩

/-- The training requests that a reset sends on the four links (R168). -/
def trainingRequests : List (Nat × LinkFrame) := [1, 2, 3, 4].map fun n => (n, .trainingRequest n)

/-- The settings after a reset: the start-up options read into force (R183). -/
def Settings.afterReset (t : Settings) : Settings := { t with inForce := t.stored.options }

/-! ## Warm reset -/

/-- A point after a warm reset (R40). -/
def Point.warm (x : Point) : Point :=
  { x with state := .unknown, detected := none, claim := none, locks := [], throw := none }

/-- A berth road after a warm reset: UNVERIFIED when it holds an ARRIVING or DEPARTING entry (R126). -/
def Road.warm (r : Road) : Road :=
  if r.entries.any fun e => e.state != .stabled then { r with verified := false } else r

/-- The tables after a warm reset, but for the placing of the run-out list. -/
def Yard.warm (y : Yard) : Yard :=
  { y with
    points := y.points.map Point.warm
    tracks := y.tracks.map fun t => .fresh t.number
    signals := y.signals.map fun g => .fresh g.number
    readers := y.readers.map fun r => .fresh r.gate
    arrivals := y.arrivals.map fun a => { a with reserved := none }
    runOut := y.runOut.map fun e => { e with route := none } }

/-- LINK STATE for every link that a reset changed. -/
def Plant.reportTrained (p : Plant) (old : List Link) : Plant :=
  (old.filter fun l => l.state != .training).foldl
    (fun q l => q.report .real (.linkState l.number l.state .training .reset)) p

/-- The reports, berth changes and placings of a warm reset, after the ports were cleared (R103, R126, R155, R168). -/
def Plant.warmReports (env : Env) (p : Plant) (before : Plant) : Plant :=
  let q := p.reportTrained before.links
  let q := if q.mode = before.mode then q else q.report .real (.controlMode q.mode .reset)
  let shaken := (q.yard.roads.filter fun r => r.verified && !r.warm.verified).map Road.berth
  let q := if shaken.isEmpty then q else q.setRoads .real (q.yard.roads.map Road.warm)
  let q := shaken.foldl (fun q b => q.report .real (.roadVerification b false (.event .reset))) q
  let moving := (q.yard.runOut.filter fun e => e.state == .requested || e.state == .departing).map RunOut.tram
  let q := moving.foldl (fun q t => Plant.placeEntry env q .real t) q
  q.workReadiness .real true

/-- The plant after a warm reset. -/
def Plant.warmReset (env : Env) (p : Plant) : Plant :=
  let q := if p.session.isSome then p.sendAllUp .releaseSafe else p
  let q := { q with session := none }.storeFreeze.1
  let q : Plant :=
    { q with
      planOut := .reset, deskOut := .reset, links := freshLinks q.now, linkSent := q.linkSent ++ trainingRequests,
      yard := q.yard.warm, slots := freeSlots, queue := [], mode := modeOf env.options, permit := none,
      silence := silenceOf env.options q.now, noBerthTram := none, wantScan := false, wantRound := false }
  Plant.warmReports env (Plant.startHold env q) p

/-- A warm reset with its cause. -/
def State.warmReset (s : State) (cause : ResetCause) : State :=
  let t : State :=
    { s with
      store := { s.store with staging := none }, settings := s.settings.afterReset, planIn := .reset, deskIn := .reset,
      resetCause := cause, resetDue := false }
  t.event Plant.warmReset

/-- The reset input on the front panel asserted. -/
def execWarmResetInput (s : State) : Host.Outcome State Fault Refusal := .next (s.warmReset .warmInput)

/-- The reset that a RESET telegram causes, once its reply has been sent; none is due otherwise. -/
def execWarmResetTelegram (s : State) : Host.Outcome State Fault Refusal :=
  .next (if s.resetDue then s.warmReset .warmTelegram else s)

/-! ## Cold reset -/

/-- The layout store as a cold reset loads it, the conflict table derived (R7, R8). -/
def LayoutStore.load (s : LayoutStore) (c : CopyChecks) : LayoutStore :=
  let kept := s.kept.load c
  let v := kept.latest.getD ⟨Config.erasedIdentity, .empty⟩
  { identity := v.identity, layout := v.layout, conflicts := deriveConflicts v.layout.routes, staging := none, kept := kept }

/-- The settings store as a cold reset loads it (R183). -/
def Settings.load (t : Settings) (c : CopyChecks) : Settings :=
  let kept := t.kept.load c
  { t with stored := kept.latest.getD .default, kept := kept }.afterReset

/-- The register as a cold reset loads it (R142). -/
def Register.load (r : Register) (c : CopyChecks) : Register :=
  let kept := r.kept.load c
  ⟨kept.latest.getD [], kept⟩

/-- The berth roads of a layout as a cold reset loads them: the stored ones, every one UNVERIFIED (R125); of another layout's stored
roads those that this one has (notes/assumptions/66). -/
def loadRoads (l : Layout) (stored : List Road) : List Road :=
  (keepRoads l stored).map fun r => { r with verified := false }

/-- The tables of a layout after a cold reset. -/
def Yard.cold (l : Layout) (roads : List Road) (outOfUse : List Nat) : Yard :=
  { points := l.points.map fun r => { Point.fresh r.number with outOfUse := outOfUse.contains r.number }
    tracks := l.tracks.map fun r => .fresh r.number
    signals := l.signals.map fun r => .fresh r.number
    readers := l.gates.map fun g => .fresh g.number
    roads := roads, arrivals := [], expectations := [], runOut := [], faults := ⟨[], 1, false⟩, clock := .unset }

/-- The plant after a cold reset, its time base at 0, before any report of it. -/
def Plant.coldReset (env : Env) (keptRoads : Store (List Road)) (keptOut : Store (List Nat)) : Plant :=
  let stored := keptRoads.latest.getD []
  let roads := loadRoads env.layout stored
  { now := 0, planOut := .reset, deskOut := .reset, links := freshLinks 0, linkSent := trainingRequests,
    yard := Yard.cold env.layout roads (keptOut.latest.getD []), session := none, slots := freeSlots, queue := [],
    mode := modeOf env.options, freeze := none, hold := some (1000 * env.options.hold), permit := none,
    silence := silenceOf env.options 0, noBerthTram := none,
    keptRoads := if roads = stored then keptRoads else keptRoads.write roads,
    keptOutOfUse := keptOut, wantScan := false, wantRound := false }

/-- A report placed when a store was lost. -/
def Plant.reportIf (p : Plant) (lost : Bool) (b : ReportBody) : Plant := if lost then p.report .real b else p

/-- A cold reset that finds the given checks: every store loaded from its most recent good copy, the losses reported, and every
block at its cold reset state (R8, R125, R142, R183, R184). The losses are reported for the layout, the settings, the register and
the record, in this order (DESIGN CHOICE, notes/assumptions/16). -/
def State.coldReset (s : State) (c : StoreChecks) : State :=
  let roads := s.plant.keptRoads.load c.record
  let out := s.plant.keptOutOfUse.load c.outOfUse
  let t : State :=
    { s with
      store := s.store.load c.layout, settings := s.settings.load c.settings, register := s.register.load c.register,
      planIn := .reset, deskIn := .reset, resetCause := .cold, resetDue := false }
  t.mapPlant fun env _ =>
    ((((Plant.coldReset env roads out).reportIf t.store.kept.latest.isNone .layoutLost).reportIf
      t.settings.kept.latest.isNone .settingsLost).reportIf t.register.kept.latest.isNone .registerLost).reportIf
      roads.latest.isNone .recordLost

/-- A start after the supply has been off. -/
def execColdReset (checks : StoreChecks) (s : State) : Host.Outcome State Fault Refusal := .next (s.coldReset checks)

end Sys2Proof.Machine
end

