-- ==== Sys2Proof/Machine/Idle.lean ====
section
/-! DEFINITION. What falls due while no command waits: the part's timers, its clocks, the simulated field, the next frame of a
receive buffer, and the reset that RESET has caused (notes/assumptions/1 and 25). -/

namespace Sys2Proof.Machine

open Sys2Proof

/-- An event of the part's own, and when it falls due on the part's time base. -/
structure DueEvent where
  due : Nat
  command : Instr
  deriving DecidableEq, Repr

/-- A moment of a side's time base on the part's own. -/
def Plant.dueOn (p : Plant) (sd : Side) (due : Nat) : Nat := p.now + p.ownTime sd (due - p.base sd)

/-- The link events due (Table 11-1, R168). -/
def Plant.linkEvents (p : Plant) : List DueEvent :=
  p.links.flatMap fun l =>
    match l.state with
    | .training => [⟨l.windowEnd, .trainingTimeout l.number⟩, ⟨l.pollDue, .linkPoll l.number⟩]
    | .up => [⟨l.silenceDue, .linkSilenceTimeout l.number⟩, ⟨l.pollDue, .linkPoll l.number⟩]
    | .down => [⟨l.windowEnd, .downWaitExpiry l.number⟩]
    | .disabled => []

/-- The throw events due (R27, R30). -/
def Plant.throwEvents (p : Plant) : List DueEvent :=
  p.current.points.flatMap fun x =>
    (x.limitDue.toList.map fun d => ⟨p.dueOn p.active d, .driveTimeLimitExpiry x.number⟩) ++
      x.pauseDue.toList.map fun d => ⟨p.dueOn p.active d, .retryPauseEnd x.number⟩

/-- The expiry command of a slot's timer, by its state. -/
def Slot.expiryCommand (sl : Slot) : Option Instr :=
  match sl.state with
  | .setting => some (.settingLimitExpiry sl.number)
  | .approachTiming => some (.approachReleaseExpiry sl.number)
  | .emergencyTiming => some (.emergencyReleaseExpiry sl.number)
  | _ => none

/-- The slot timers and request expiries due (R93, R101). -/
def Plant.routeEvents (p : Plant) : List DueEvent :=
  (p.slots.filterMap fun sl =>
    match sl.timer.expiry?, sl.expiryCommand with
    | some d, some c => some ⟨p.dueOn p.active d, c⟩
    | _, _ => none) ++
  p.queue.filterMap fun r => r.expiry?.map fun d => ⟨p.dueOn p.active d, .requestExpiry r.route⟩

/-- The timers of the part itself due: the permit, the hold, the silence of the plan port. -/
def Plant.ownEvents (p : Plant) : List DueEvent :=
  (p.permit.toList.map fun d => ⟨d, .releasePermitLapse⟩) ++ (p.hold.toList.map fun d => ⟨d, .restartHoldEnd⟩) ++
    if p.silence.limit.isSome && !p.silence.silent then [⟨p.silence.deadline, .planSilenceTimeout⟩] else []

/-- The minute change of a side due. -/
def Plant.clockEvent (p : Plant) (sd : Side) : List DueEvent :=
  let c := (p.yardOf sd).clock
  if p.hasSide sd && c.counts then [⟨p.now + p.ownTime sd c.toNextMinute, .minuteChange sd⟩] else []

/-- The events of the simulated field due (R174). -/
def Plant.simEvents (p : Plant) : List DueEvent :=
  match p.session with
  | none => []
  | some c =>
    (c.drives.flatMap fun d =>
      (d.detectionDue.toList.map fun t => ⟨p.dueOn .copy t, .simDriveDetection d.point⟩) ++
        [⟨p.dueOn .copy d.sampleDue, .simCurrentSample d.point⟩]) ++
    c.runs.flatMap fun r => r.due.toList.map fun t => ⟨p.dueOn .copy t, .simTramStep r.number⟩

/-- The oldest frame of a port's receive buffer as the command it spells, once no reply is outstanding (R178). -/
def State.frameEvent (s : State) (port : Port) : List DueEvent :=
  if (s.plant.out port).replyOutstanding || s.portWaits port then []
  else
    match (s.portIn port).buffer with
    | [] => []
    | f :: _ => (telegramOf port f).toList.map fun c => ⟨s.plant.now, c⟩

/-- The reset that a RESET telegram has caused, once its reply has been sent (R184). -/
def State.resetEvent (s : State) : List DueEvent :=
  if s.resetDue && !s.plant.deskOut.replyOutstanding then [⟨s.plant.now, .warmResetTelegram⟩] else []

/-- Everything that falls due, in the order in which ties are taken. -/
def State.dueEvents (s : State) : List DueEvent :=
  let p := s.plant
  s.resetEvent ++ s.frameEvent .plan ++ s.frameEvent .desk ++ p.simEvents ++ p.throwEvents ++ p.routeEvents ++
    p.ownEvents ++ p.linkEvents ++ p.clockEvent .real ++ p.clockEvent .copy

/-- The earlier of two events, the first at a tie. -/
def DueEvent.earlier (a b : DueEvent) : DueEvent := if b.due < a.due then b else a

/-- The first event to fall due. -/
def firstDue : List DueEvent → Option DueEvent
  | [] => none
  | e :: rest => some (rest.foldl DueEvent.earlier e)

/-- The event that an idle step takes: the first that falls due within the tick. -/
def State.idleEvent (s : State) : Option Instr :=
  match firstDue s.dueEvents with
  | some e => if e.due ≤ s.plant.now + Config.tick then some e.command else none
  | none => none

/-- A tick in which nothing falls due: the time base moves on. -/
def State.tick (s : State) : State := s.mapPlant fun _ p => p.advance Config.tick

end Sys2Proof.Machine
end

