-- ==== Sys2Proof/Machine/Dispatch.lean ====
section
/-! DEFINITION. One arm for each command: its meaning, called by its full name. -/

namespace Sys2Proof.Machine

/-- The effect of a command on everything but the queue. -/
def exec (i : Instr) (s : State) : Host.Outcome State Fault Refusal :=
  match i with
  | .status p tag => Sys2Proof.Machine.execStatus p tag s
  | .setClock p tag minute second => Sys2Proof.Machine.execSetClock p tag minute second s
  | .takeControl p tag => Sys2Proof.Machine.execTakeControl p tag s
  | .returnControl p tag => Sys2Proof.Machine.execReturnControl p tag s
  | .reset p tag => Sys2Proof.Machine.execReset p tag s
  | .openPermit p tag name => Sys2Proof.Machine.execOpenPermit p tag name s
  | .closePermit p tag name => Sys2Proof.Machine.execClosePermit p tag name s
  | .setParameter p tag number value => Sys2Proof.Machine.execSetParameter p tag number value s
  | .readParameter p tag number => Sys2Proof.Machine.execReadParameter p tag number s
  | .setReporting p tag enables => Sys2Proof.Machine.execSetReporting p tag enables s
  | .requestRoute p tag route tram => Sys2Proof.Machine.execRequestRoute p tag route tram s
  | .cancelRoute p tag route => Sys2Proof.Machine.execCancelRoute p tag route s
  | .grantReleasePermit p tag => Sys2Proof.Machine.execGrantReleasePermit p tag s
  | .emergencyRelease p tag route => Sys2Proof.Machine.execEmergencyRelease p tag route s
  | .throwPoint p tag point target => Sys2Proof.Machine.execThrowPoint p tag point target s
  | .pointUseOut p tag point => Sys2Proof.Machine.execPointUseOut p tag point s
  | .pointUseIn p tag point => Sys2Proof.Machine.execPointUseIn p tag point s
  | .allStop p tag => Sys2Proof.Machine.execAllStop p tag s
  | .freezeAcknowledge p tag => Sys2Proof.Machine.execFreezeAcknowledge p tag s
  | .readRoutes p tag => Sys2Proof.Machine.execReadRoutes p tag s
  | .readElement p tag key => Sys2Proof.Machine.execReadElement p tag key s
  | .tramEntry p tag entries => Sys2Proof.Machine.execTramEntry p tag entries s
  | .tramRemove p tag names => Sys2Proof.Machine.execTramRemove p tag names s
  | .runOutPlan p tag pairs => Sys2Proof.Machine.execRunOutPlan p tag pairs s
  | .runOutClear p tag names => Sys2Proof.Machine.execRunOutClear p tag names s
  | .readRunOut p tag => Sys2Proof.Machine.execReadRunOut p tag s
  | .allocateQuery p tag subject => Sys2Proof.Machine.execAllocateQuery p tag subject s
  | .readRoad p tag berth => Sys2Proof.Machine.execReadRoad p tag berth s
  | .roadCensus p tag berth trams => Sys2Proof.Machine.execRoadCensus p tag berth trams s
  | .roadClose p tag berth => Sys2Proof.Machine.execRoadClose p tag berth s
  | .roadOpen p tag berth => Sys2Proof.Machine.execRoadOpen p tag berth s
  | .readArrivals p tag => Sys2Proof.Machine.execReadArrivals p tag s
  | .readFault p tag place => Sys2Proof.Machine.execReadFault p tag place s
  | .clearFault p tag number => Sys2Proof.Machine.execClearFault p tag number s
  | .layoutBegin p tag expected fresh form => Sys2Proof.Machine.execLayoutBegin p tag expected fresh form s
  | .layoutRecordPut p tag record => Sys2Proof.Machine.execLayoutRecordPut p tag record s
  | .layoutRecordRemove p tag key => Sys2Proof.Machine.execLayoutRecordRemove p tag key s
  | .layoutCommit p tag => Sys2Proof.Machine.execLayoutCommit p tag s
  | .layoutAbandon p tag => Sys2Proof.Machine.execLayoutAbandon p tag s
  | .layoutErase p tag expected => Sys2Proof.Machine.execLayoutErase p tag expected s
  | .readLayout p tag source key => Sys2Proof.Machine.execReadLayout p tag source key s
  | .linkRetrain p tag link => Sys2Proof.Machine.execLinkRetrain p tag link s
  | .linkDisable p tag link => Sys2Proof.Machine.execLinkDisable p tag link s
  | .linkEnable p tag link => Sys2Proof.Machine.execLinkEnable p tag link s
  | .rehearsalBegin p tag rate => Sys2Proof.Machine.execRehearsalBegin p tag rate s
  | .rehearsalEnd p tag => Sys2Proof.Machine.execRehearsalEnd p tag s
  | .rehearsalActArrive p tag tram => Sys2Proof.Machine.execRehearsalActArrive p tag tram s
  | .rehearsalActOccupy p tag key => Sys2Proof.Machine.execRehearsalActOccupy p tag key s
  | .rehearsalActClear p tag key => Sys2Proof.Machine.execRehearsalActClear p tag key s
  | .rehearsalActInject p tag kind key => Sys2Proof.Machine.execRehearsalActInject p tag kind key s
  | .rehearsalActRemove p tag kind key => Sys2Proof.Machine.execRehearsalActRemove p tag kind key s
  | .unknownKindFrame p tag kind => Sys2Proof.Machine.execUnknownKindFrame p tag kind s
  | .validFrameReceived p bytes => Sys2Proof.Machine.execValidFrameReceived p bytes s
  | .frameGapTimeout p bytes => Sys2Proof.Machine.execFrameGapTimeout p bytes s
  | .frameSent p => Sys2Proof.Machine.execFrameSent p s
  | .coldReset checks => Sys2Proof.Machine.execColdReset checks s
  | .warmResetInput => Sys2Proof.Machine.execWarmResetInput s
  | .warmResetTelegram => Sys2Proof.Machine.execWarmResetTelegram s
  | .pointDetectionReport link point detected => Sys2Proof.Machine.execPointDetectionReport link point detected s
  | .currentSample link point value => Sys2Proof.Machine.execCurrentSample link point value s
  | .driveStopped link point => Sys2Proof.Machine.execDriveStopped link point s
  | .sectionReport link track condition => Sys2Proof.Machine.execSectionReport link track condition s
  | .signalReport link signal aspect lamp number => Sys2Proof.Machine.execSignalReport link signal aspect lamp number s
  | .gateRead link gate read => Sys2Proof.Machine.execGateRead link gate read s
  | .trainingAnswer link number full => Sys2Proof.Machine.execTrainingAnswer link number full s
  | .linkBadFrame link => Sys2Proof.Machine.execLinkBadFrame link s
  | .trainingTimeout link => Sys2Proof.Machine.execTrainingTimeout link s
  | .linkSilenceTimeout link => Sys2Proof.Machine.execLinkSilenceTimeout link s
  | .downWaitExpiry link => Sys2Proof.Machine.execDownWaitExpiry link s
  | .linkPoll link => Sys2Proof.Machine.execLinkPoll link s
  | .driveTimeLimitExpiry point => Sys2Proof.Machine.execDriveTimeLimitExpiry point s
  | .retryPauseEnd point => Sys2Proof.Machine.execRetryPauseEnd point s
  | .settingLimitExpiry slot => Sys2Proof.Machine.execSettingLimitExpiry slot s
  | .approachReleaseExpiry slot => Sys2Proof.Machine.execApproachReleaseExpiry slot s
  | .emergencyReleaseExpiry slot => Sys2Proof.Machine.execEmergencyReleaseExpiry slot s
  | .releasePermitLapse => Sys2Proof.Machine.execReleasePermitLapse s
  | .requestExpiry route => Sys2Proof.Machine.execRequestExpiry route s
  | .restartHoldEnd => Sys2Proof.Machine.execRestartHoldEnd s
  | .planSilenceTimeout => Sys2Proof.Machine.execPlanSilenceTimeout s
  | .minuteChange side => Sys2Proof.Machine.execMinuteChange side s
  | .simCurrentSample point => Sys2Proof.Machine.execSimCurrentSample point s
  | .simDriveDetection point => Sys2Proof.Machine.execSimDriveDetection point s
  | .simTramStep run => Sys2Proof.Machine.execSimTramStep run s
  | .frameLengthOutsideRange p bytes => Sys2Proof.Machine.execFrameLengthOutsideRange p bytes s

end Sys2Proof.Machine
end

