-- ==== Sys2Proof/Machine/Step.lean ====
section
/-! DEFINITION. The step: the command at the front of the queue, or what falls due while none waits. -/

namespace Sys2Proof.Machine

open Sys2Proof

/-- A step with no command waiting: the event that falls due within the tick, or the tick (notes/assumptions/1). -/
def idle (s : State) : Host.Outcome State Fault Refusal :=
  match s.idleEvent with
  | some c => exec c s
  | none => .next s.tick

/-- The command at the front of the queue is taken and run with the queue's rest; on an empty queue the block idles. -/
def step (s : State) : Host.Outcome State Fault Refusal :=
  match s.pending with
  | c :: rest => exec c { s with pending := rest }
  | [] => idle s

/-- The state with the command that a word spells put at the front of the queue; unchanged when it spells none. -/
def State.withFetchWord (s : State) (nbits w : Nat) : State :=
  match decodeTableWord nbits w with
  | some c => { s with pending := c :: s.pending }
  | none => s

end Sys2Proof.Machine
end

