-- ==== Sys2Proof/WellFormed.lean ====
section
/-! DEFINITION. Which commands can come: operands within the widths and ranges that the description gives the carriers (0.4,
0.7.6, R42, R47, R93, R142, R147, R168, R177, R182, R186). A telegram may still carry a number that its rule refuses. -/

namespace Sys2Proof

/-- A number that one byte carries. -/
def fitsByte (n : Nat) : Bool := n < 256

/-- A number that two bytes carry. -/
def fitsWord (n : Nat) : Bool := n < 65536

/-- A layout identity: 32 bits (1.3). -/
def fitsIdentity (n : Nat) : Bool := n < 4294967296

/-- One of the four field links (0.4). -/
def isLink (n : Nat) : Bool := 1 ≤ n && n ≤ 4

/-- One of the two gates. -/
def isGate (n : Nat) : Bool := 1 ≤ n && n ≤ 2

/-- One of the eight route slots (R55). -/
def isSlot (n : Nat) : Bool := 1 ≤ n && n ≤ 8

/-- The number of a berth road. -/
def Berth.number : Berth → Nat
  | .road n => n
  | .headshunt n => n

/-- The number of a record key. -/
def Key.number : Key → Nat
  | .point n => n
  | .track n => n
  | .signal n => n
  | .road n => n
  | .headshunt n => n
  | .gate n => n
  | .route n => n

/-- The number of the key of a layout record. -/
def LayoutRecord.number : LayoutRecord → Nat
  | .point r => r.number
  | .track r => r.number
  | .signal r => r.number
  | .road r => r.number
  | .headshunt r => r.number
  | .gate r => r.number
  | .route r => r.number

/-- Trams named that two bytes each carry. -/
def TramNames.fits : TramNames → Bool
  | .all => true
  | .list l => l.all fitsWord

/-- A subject that can be carried. -/
def Subject.fits : Subject → Bool
  | .head => true
  | .tram n => fitsWord n

/-- A fault place that can be carried. -/
def FaultPlace.fits : FaultPlace → Bool
  | .position n => fitsByte n
  | .freeze => true

/-- A gate read that can be carried. -/
def GateRead.fits : GateRead → Bool
  | .tram n => fitsWord n
  | .unreadable => true

/-- One entry of TRAM ENTRY that can be carried. -/
def TramFields.fits (f : TramFields) : Bool := fitsWord f.tram && fitsWord f.length && fitsByte f.cls && fitsWord f.departure

/-- A full state whose numbers can be carried. -/
def FullState.fits (f : FullState) : Bool :=
  f.points.all (fun x => fitsByte x.1) && f.tracks.all (fun x => fitsByte x.1) &&
    f.signals.all fun x => fitsByte x.signal && fitsByte x.number

/-- Whether a command can come as it is written. -/
def Instr.wf : Instr → Bool
  | .status _ _ => true
  | .setClock _ _ minute second => fitsWord minute && fitsByte second
  | .takeControl _ _ => true
  | .returnControl _ _ => true
  | .reset _ _ => true
  | .openPermit _ _ _ => true
  | .closePermit _ _ _ => true
  | .setParameter _ _ number value => fitsByte number && fitsWord value
  | .readParameter _ _ number => fitsByte number
  | .setReporting _ _ _ => true
  | .requestRoute _ _ route tram => fitsByte route && fitsWord tram
  | .cancelRoute _ _ route => fitsByte route
  | .grantReleasePermit _ _ => true
  | .emergencyRelease _ _ route => fitsByte route
  | .throwPoint _ _ point _ => fitsByte point
  | .pointUseOut _ _ point => fitsByte point
  | .pointUseIn _ _ point => fitsByte point
  | .allStop _ _ => true
  | .freezeAcknowledge _ _ => true
  | .readRoutes _ _ => true
  | .readElement _ _ key => fitsByte key.number
  | .tramEntry _ _ entries => entries.all TramFields.fits
  | .tramRemove _ _ names => names.fits
  | .runOutPlan _ _ pairs => pairs.all fun x => fitsWord x.1 && fitsWord x.2
  | .runOutClear _ _ names => names.fits
  | .readRunOut _ _ => true
  | .allocateQuery _ _ subject => subject.fits
  | .readRoad _ _ berth => fitsByte berth.number
  | .roadCensus _ _ berth trams => fitsByte berth.number && trams.all fitsWord
  | .roadClose _ _ berth => fitsByte berth.number
  | .roadOpen _ _ berth => fitsByte berth.number
  | .readArrivals _ _ => true
  | .readFault _ _ place => place.fits
  | .clearFault _ _ number => fitsWord number
  | .layoutBegin _ _ expected fresh _ => fitsIdentity expected && fitsIdentity fresh
  | .layoutRecordPut _ _ record => fitsByte record.number
  | .layoutRecordRemove _ _ key => fitsByte key.number
  | .layoutCommit _ _ => true
  | .layoutAbandon _ _ => true
  | .layoutErase _ _ expected => fitsIdentity expected
  | .readLayout _ _ _ key => fitsByte key.number
  | .linkRetrain _ _ link => fitsByte link
  | .linkDisable _ _ link => fitsByte link
  | .linkEnable _ _ link => fitsByte link
  | .rehearsalBegin _ _ rate => fitsByte rate
  | .rehearsalEnd _ _ => true
  | .rehearsalActArrive _ _ tram => fitsWord tram
  | .rehearsalActOccupy _ _ key => fitsByte key.number
  | .rehearsalActClear _ _ key => fitsByte key.number
  | .rehearsalActInject _ _ _ key => key.all fun k => fitsByte k.number
  | .rehearsalActRemove _ _ _ key => key.all fun k => fitsByte k.number
  | .unknownKindFrame _ _ _ => true
  | .validFrameReceived _ bytes => !bytes.isEmpty
  | .frameGapTimeout _ _ => true
  | .frameSent _ => true
  | .coldReset _ => true
  | .warmResetInput => true
  | .warmResetTelegram => true
  | .pointDetectionReport link point _ => isLink link && fitsByte point
  | .currentSample link point value => isLink link && fitsByte point && fitsByte value
  | .driveStopped link point => isLink link && fitsByte point
  | .sectionReport link track _ => isLink link && fitsByte track
  | .signalReport link signal _ _ number => isLink link && fitsByte signal && fitsByte number
  | .gateRead link gate read => isLink link && isGate gate && read.fits
  | .trainingAnswer link number full => isLink link && fitsByte number && full.fits
  | .linkBadFrame link => isLink link
  | .trainingTimeout link => isLink link
  | .linkSilenceTimeout link => isLink link
  | .downWaitExpiry link => isLink link
  | .linkPoll link => isLink link
  | .driveTimeLimitExpiry point => fitsByte point
  | .retryPauseEnd point => fitsByte point
  | .settingLimitExpiry slot => isSlot slot
  | .approachReleaseExpiry slot => isSlot slot
  | .emergencyReleaseExpiry slot => isSlot slot
  | .releasePermitLapse => true
  | .requestExpiry route => fitsByte route
  | .restartHoldEnd => true
  | .planSilenceTimeout => true
  | .minuteChange _ => true
  | .simCurrentSample point => fitsByte point
  | .simDriveDetection point => fitsByte point
  | .simTramStep _ => true
  | .frameLengthOutsideRange _ bytes => !bytes.isEmpty

end Sys2Proof
end

