-- ==== Sys2Proof/Safety.lean ====
section
/-! DEFINITION. The terms in which the claims speak: what a telegram command carries, a state that hears it and answers it, a
plant in which no scan or round has work, the invariants of the stores, receivers and report queues, and a yard at stop. -/

namespace Sys2Proof

open Sys2Proof.Machine

/-- The port, the tag and the kind of a telegram command; none for a frame of no known kind, and for what is no telegram. -/
def Instr.telegram : Instr → Option (Port × Byte × TelegramKind)
  | .status p tag => some (p, tag, .status)
  | .setClock p tag _ _ => some (p, tag, .setClock)
  | .takeControl p tag => some (p, tag, .takeControl)
  | .returnControl p tag => some (p, tag, .returnControl)
  | .reset p tag => some (p, tag, .reset)
  | .openPermit p tag _ => some (p, tag, .openPermit)
  | .closePermit p tag _ => some (p, tag, .closePermit)
  | .setParameter p tag _ _ => some (p, tag, .setParameter)
  | .readParameter p tag _ => some (p, tag, .readParameter)
  | .setReporting p tag _ => some (p, tag, .setReporting)
  | .requestRoute p tag _ _ => some (p, tag, .requestRoute)
  | .cancelRoute p tag _ => some (p, tag, .cancelRoute)
  | .grantReleasePermit p tag => some (p, tag, .grantReleasePermit)
  | .emergencyRelease p tag _ => some (p, tag, .emergencyRelease)
  | .throwPoint p tag _ _ => some (p, tag, .throwPoint)
  | .pointUseOut p tag _ => some (p, tag, .pointUse)
  | .pointUseIn p tag _ => some (p, tag, .pointUse)
  | .allStop p tag => some (p, tag, .allStop)
  | .freezeAcknowledge p tag => some (p, tag, .freezeAcknowledge)
  | .readRoutes p tag => some (p, tag, .readRoutes)
  | .readElement p tag _ => some (p, tag, .readElement)
  | .tramEntry p tag _ => some (p, tag, .tramEntry)
  | .tramRemove p tag _ => some (p, tag, .tramRemove)
  | .runOutPlan p tag _ => some (p, tag, .runOutPlan)
  | .runOutClear p tag _ => some (p, tag, .runOutClear)
  | .readRunOut p tag => some (p, tag, .readRunOut)
  | .allocateQuery p tag _ => some (p, tag, .allocateQuery)
  | .readRoad p tag _ => some (p, tag, .readRoad)
  | .roadCensus p tag _ _ => some (p, tag, .roadCensus)
  | .roadClose p tag _ => some (p, tag, .roadCloseOpen)
  | .roadOpen p tag _ => some (p, tag, .roadCloseOpen)
  | .readArrivals p tag => some (p, tag, .readArrivals)
  | .readFault p tag _ => some (p, tag, .readFault)
  | .clearFault p tag _ => some (p, tag, .clearFault)
  | .layoutBegin p tag _ _ _ => some (p, tag, .layoutBegin)
  | .layoutRecordPut p tag _ => some (p, tag, .layoutRecord)
  | .layoutRecordRemove p tag _ => some (p, tag, .layoutRecord)
  | .layoutCommit p tag => some (p, tag, .layoutCommit)
  | .layoutAbandon p tag => some (p, tag, .layoutAbandon)
  | .layoutErase p tag _ => some (p, tag, .layoutErase)
  | .readLayout p tag _ _ => some (p, tag, .readLayout)
  | .linkRetrain p tag _ => some (p, tag, .linkRetrain)
  | .linkDisable p tag _ => some (p, tag, .linkDisableEnable)
  | .linkEnable p tag _ => some (p, tag, .linkDisableEnable)
  | .rehearsalBegin p tag _ => some (p, tag, .rehearsalBegin)
  | .rehearsalEnd p tag => some (p, tag, .rehearsalEnd)
  | .rehearsalActArrive p tag _ => some (p, tag, .rehearsalAct)
  | .rehearsalActOccupy p tag _ => some (p, tag, .rehearsalAct)
  | .rehearsalActClear p tag _ => some (p, tag, .rehearsalAct)
  | .rehearsalActInject p tag _ _ => some (p, tag, .rehearsalAct)
  | .rehearsalActRemove p tag _ _ => some (p, tag, .rehearsalAct)
  | .unknownKindFrame _ _ _ => none
  | .validFrameReceived _ _ => none
  | .frameGapTimeout _ _ => none
  | .frameSent _ => none
  | .coldReset _ => none
  | .warmResetInput => none
  | .warmResetTelegram => none
  | .pointDetectionReport _ _ _ => none
  | .currentSample _ _ _ => none
  | .driveStopped _ _ => none
  | .sectionReport _ _ _ => none
  | .signalReport _ _ _ _ _ => none
  | .gateRead _ _ _ => none
  | .trainingAnswer _ _ _ => none
  | .linkBadFrame _ => none
  | .trainingTimeout _ => none
  | .linkSilenceTimeout _ => none
  | .downWaitExpiry _ => none
  | .linkPoll _ => none
  | .driveTimeLimitExpiry _ => none
  | .retryPauseEnd _ => none
  | .settingLimitExpiry _ => none
  | .approachReleaseExpiry _ => none
  | .emergencyReleaseExpiry _ => none
  | .releasePermitLapse => none
  | .requestExpiry _ => none
  | .restartHoldEnd => none
  | .planSilenceTimeout => none
  | .minuteChange _ => none
  | .simCurrentSample _ => none
  | .simDriveDetection _ => none
  | .simTramStep _ => none
  | .frameLengthOutsideRange _ _ => none

end Sys2Proof

namespace Sys2Proof.Machine

open Sys2Proof

/-! ## Telegrams -/

/-- A port takes a telegram of a kind now: it does not wait for a reset, and the yard is not frozen unless the kind is taken then
(R164, R184). -/
def State.hears (s : State) (port : Port) (k : TelegramKind) : Prop :=
  s.portWaits port = false ∧ (s.plant.freeze = none ∨ k.takenFrozen = true)

/-- The state in which a request of a kind byte has been taken from its port and answered, before any effect of its own: its frame
has left the receive buffer, the reply before it has been sent, the release permit is used up if the port is the desk's, and the
reply stands on the reply path (R89, R178, R179). -/
def State.answered (s : State) (port : Port) (kind tag : Byte) (a : Answer) : State :=
  (s.dispatch port kind tag).mapPlant fun _ p => (p.usePermit port).answer port kind tag a

/-- A reply stands on a port's reply path: being sent, or next to be (R179). -/
def PortOut.replies (o : PortOut) (r : Reply) : Prop := o.sending = some (.reply r) ∨ o.reply = some r

/-- The reply that an answer makes to a request (R179). -/
def Answer.reply (a : Answer) (kind tag : Byte) : Reply :=
  { kind := replyKind kind, tag := tag, outcome := a.outcome, reason := a.reason, fields := a.fields }

/-- The plant with no scan and no round left to be made. -/
def Plant.unmarked (p : Plant) : Plant := { p with wantScan := false, wantRound := false }

/-- Beyond its plant, a state is as another. -/
def State.plantOnly (u t : State) : Prop := t = { u with plant := t.plant }

/-- Beyond its reports and the tables in force, a plant is as another, with no scan or round left to be made. -/
def Plant.tablesOnly (p q : Plant) : Prop :=
  q = { p.unmarked with planOut := q.planOut, deskOut := q.deskOut, yard := q.yard, session := q.session }

/-! ## Scans and rounds -/

/-- No request waits, and the sequencer does not work automatically: a scan and a round change nothing (R99, R150). -/
def Plant.quiet (env : Env) (p : Plant) : Prop := p.queue = [] ∧ Plant.automatic env p = false

/-- No scan and no round is left to be made. -/
def Plant.settledAlready (p : Plant) : Prop := p.wantScan = false ∧ p.wantRound = false

/-- No slot is in use, and no throw is in progress in the yard in force. -/
def Plant.still (p : Plant) : Prop := p.used = [] ∧ ∀ x ∈ p.current.points, x.throw = none

/-! ## The stores -/

/-- The conflict table is the one that the layout held derives (R7). -/
def State.conflictsDerived (s : State) : Prop := s.store.conflicts = deriveConflicts s.store.layout.routes

/-- A parameter value within Table 12-4: in its range, or OFF for parameter 18. -/
def paramInRange (n v : Nat) : Bool := (n == 18 && v == 0) || ((paramRange n).1 ≤ v && v ≤ (paramRange n).2)

/-- The numbers of Table 12-4. -/
def paramNumbers : List Nat := [1, 2, 3, 4, 5, 6, 7, 8, 9, 10, 11, 12, 13, 14, 15, 16, 17, 18, 19]

/-- Every parameter within Table 12-4. -/
def Params.inRange (p : Params) : Bool := paramNumbers.all fun n => (p.get n).any (paramInRange n)

/-- A register entry within R142. -/
def RegisterEntry.inRange (e : RegisterEntry) : Bool :=
  tramInRange e.tram && (100 ≤ e.length && e.length ≤ 450) && (1 ≤ e.cls && e.cls ≤ 4) &&
    e.departure.all fun d => d ≤ Config.lastMinute

/-- A tram register within R142: at most 160 trams, in ascending number, each entry within its ranges. -/
def registerInOrder (l : List RegisterEntry) : Prop :=
  l.length ≤ Config.registerCapacity ∧ l.Pairwise (fun a b => a.tram < b.tram) ∧ ∀ e ∈ l, e.inRange = true

/-- Both copies of a store, as far as their checks are good, hold what a test asks. -/
def Store.holds {α : Type} (s : Store α) (good : α → Prop) : Prop :=
  (∀ v, s.latest = some v → good v) ∧ ∀ v, s.earlier = some v → good v

/-- The settings and the tram register, the values in use and both non-volatile copies, within Table 12-4 and R142. -/
def State.storesInRange (s : State) : Prop :=
  s.settings.stored.inRange = true ∧ s.settings.kept.holds (fun p => p.inRange = true) ∧
    registerInOrder s.register.trams ∧ s.register.kept.holds registerInOrder

/-- The key under which the layout store holds a record (Table 1-1). -/
def keyOf : LayoutRecord → Key
  | .point r => .point r.number
  | .track r => .track r.number
  | .signal r => .signal r.number
  | .road r => .road r.number
  | .headshunt r => .headshunt r.number
  | .gate r => .gate r.number
  | .route r => .route r.number

/-! ## The ports -/

/-- What a receiver may hold of a frame in hand: nothing, its start byte, or a start byte, a length in range and fewer bytes than
the body and the check take (R177). -/
def framePrefix : List Byte → Prop
  | [] => True
  | [a] => a = startByte
  | a :: n :: rest => a = startByte ∧ lengthInRange n = true ∧ rest.length < n.toNat + 2

/-- A receiving half within R177: at most 4 frames, each body of 2 to 250 bytes, and a frame in hand that is not yet whole. -/
def PortIn.inForm (i : PortIn) : Prop :=
  framePrefix i.assembling ∧ i.buffer.length ≤ Config.receiveCapacity ∧
    ∀ b ∈ i.buffer, 2 ≤ b.length ∧ b.length ≤ 250

/-- Both receiving halves within R177. -/
def State.receiversInForm (s : State) : Prop := s.planIn.inForm ∧ s.deskIn.inForm

/-- Both report queues within their capacity (R180). -/
def Plant.reportsBounded (p : Plant) : Prop :=
  p.planOut.reports.length ≤ Config.reportCapacity ∧ p.deskOut.reports.length ≤ Config.reportCapacity

/-! ## A link that carries nothing -/

/-- Every element on a link is UNKNOWN: no state and no throw of its points, no state of its sections, no aspect, lamp or number of
its signals (R33, R44, R51, R169). That such a point has no detected position either is log 39. -/
def Plant.elementsLost (env : Env) (p : Plant) (n : Nat) : Prop :=
  (∀ k x, env.layout.linkOf (.point k) = some n → p.yard.point? k = some x →
    x.state = .unknown ∧ x.detected = none ∧ x.throw = none) ∧
  (∀ k x, env.layout.linkOf (.track k) = some n → p.yard.track? k = some x → x.state = .unknown) ∧
  ∀ k g, env.layout.linkOf (.signal k) = some n → p.yard.signal? k = some g →
    g.reported = none ∧ g.lamp = none ∧ g.answered = none

/-! ## A yard at stop -/

/-- Every signal of a yard is commanded STOP. -/
def Yard.allAtStop (y : Yard) : Prop := ∀ g ∈ y.signals, g.commanded = .stop

/-- No point of a yard has a throw in progress. -/
def Yard.noThrow (y : Yard) : Prop := ∀ n x, y.point? n = some x → x.throw = none

/-- No slot is OPEN. -/
def Plant.noneOpen (p : Plant) : Prop := ∀ n sl, p.slot? n = some sl → sl.state ≠ .opened

/-- No slot timer and no request expiry runs. -/
def Plant.timersStopped (p : Plant) : Prop :=
  (∀ sl ∈ p.slots, sl.timer.expiry? = none) ∧ ∀ r ∈ p.queue, r.expiry? = none

end Sys2Proof.Machine
end

