-- ==== Sys2Proof/Certificates/Slice0/Obligations.lean ====
section
/-! DEFINITION. The statements about the DY48, for the provers. In them `s.answered port kind tag a` is the state in which a
telegram has been taken and answered (Safety.lean); what it is, `AnsweringTouchesOnlyThePort` says. -/

open Sys2Proof Sys2Proof.Machine

/-! ## The machine -/

/-- A step takes the command at the front of the queue and runs it with the queue's rest. The queue of commands is the model's own
(log 1). -/
def Obligations.StepTakesFrontCommand : Prop :=
  ∀ (c : Instr) (rest : List Instr) (s : State),
    step { s with pending := c :: rest } = exec c { s with pending := rest }

/-- Every command of the table is given an effect in every state, and leaves the queue of commands alone. That none stops is read
from the spec as a whole (log 31). -/
def Obligations.EveryCommandIsTaken : Prop :=
  ∀ (c : Instr) (s : State), ∃ t, exec c s = .next t ∧ t.pending = s.pending

/-- A step keeps the conflict table equal to the one that the layout held derives (R7, R8, R15, R18). -/
def Obligations.ConflictTableKept : Prop :=
  ∀ s t : State, s.conflictsDerived → step s = .next t → t.conflictsDerived

/-- A step keeps every parameter within Table 12-4 and the tram register within R142, in both non-volatile copies too. -/
def Obligations.StoredValuesKept : Prop :=
  ∀ s t : State, s.storesInRange → step s = .next t → t.storesInRange

/-- A step keeps both receivers within R177: at most 4 frames, each body of 2 to 250 bytes, the frame in hand not yet whole. -/
def Obligations.ReceiversKept : Prop :=
  ∀ s t : State, s.receiversInForm → step s = .next t → t.receiversInForm

/-- A step keeps both report queues at 24 reports or fewer (R180). -/
def Obligations.ReportQueuesKept : Prop :=
  ∀ s t : State, s.plant.reportsBounded → step s = .next t → t.plant.reportsBounded

/-- The four invariants hold of the machine after reset. The contents of a new part's stores are the model's choice (log 3). -/
def Obligations.InvariantsHoldAtReset : Prop :=
  State.reset.conflictsDerived ∧ State.reset.storesInRange ∧ State.reset.receiversInForm ∧
    State.reset.plant.reportsBounded

/-! ## The line in bytes (R177, R186) -/

/-- A hunting receiver takes the frame that carries a body of 2 to 250 bytes, whatever the bytes, as that body, and then hunts. -/
def Obligations.FrameReceivedWhole : Prop :=
  ∀ body : List Byte, 2 ≤ body.length → body.length ≤ 250 → receiveBytes [] (frameBytes body) = ([], [body])

/-- The byte layouts of R186, byte by byte, with their codes: the frame (Table 12-5), the reply header (Table 12-6), the
REQUEST ROUTE body, which is also read back as the telegram it carries (Table 12-7), the ROUTE STATE report (Table 12-8), the
berth entry of READ ROAD (Table 12-9) and the fault record with every form of its check data (Table 12-10). The byte of an
aspect is a free value, of which nothing is said (log 24); the bytes that stand for nothing, as the second of an absent time,
are 0 (log 61), and a record that was stored is reported with 1 (log 69). -/
def Obligations.ByteLayoutsOfTables : Prop :=
  let hi := fun n : Nat => byteOf (n / 256)
  let lo := fun n : Nat => byteOf n
  let bit := fun b : Bool => if b then (1 : Byte) else 0
  let time := fun t : Option ServiceTime =>
    match t with
    | some x => [hi x.minute, lo x.minute, byteOf x.second]
    | none => [(0xFF : Byte), 0xFF, 0]
  -- Table 12-5: the check is over the length byte and the body
  (∀ body : List Byte, frameBytes body =
    [0xC7, lo body.length] ++ body ++
      [hi (checkOf (lo body.length :: body)).toNat, lo (checkOf (lo body.length :: body)).toNat]) ∧
  -- Table 12-6, offsets 0 to 3
  (∀ r : Reply, replyHeader r = [r.kind, r.tag, r.outcome.code, (r.reason.map Reason.code).getD 0]) ∧
  -- Table 12-7, offsets 0 to 4
  (∀ (p : Port) (tag : Byte) (route tram : Nat), requestRouteBody tag route tram = [0x10, tag, byteOf route, hi tram, lo tram] ∧
    (route < 256 → tram < 65536 →
      telegramOf p [0x10, tag, byteOf route, hi tram, lo tram] = some (.requestRoute p tag route tram))) ∧
  -- Table 12-8, offsets 0 to 14, and two bytes for each claimed point from 15
  (∀ (m : Bool) (slot route : Nat) (o : Origin) (tram : Option Nat) (a b : SlotState) (c : RouteCause) (f : FailedCondition)
    (held : Bool) (claimed : List (Nat × Position)),
    routeStateBody ⟨m, .routeState slot route o tram a b c f held claimed⟩ =
      some ([0x70, 0, 1, byteOf slot, byteOf route, o.code, hi (tram.getD 0), lo (tram.getD 0), a.code, b.code, c.code, f.code,
        bit held, bit m, byteOf claimed.length] ++ claimed.flatMap fun x => [byteOf x.1, positionCode x.2])) ∧
  -- Table 12-9, offsets 0 to 10
  (∀ e : BerthEntry, berthEntryBytes e =
    [hi e.tram, lo e.tram, hi e.length, lo e.length, byteOf e.cls, hi (e.departure.getD 0xFFFF), lo (e.departure.getD 0xFFFF),
      e.state.code] ++ time e.timeStabled) ∧
  -- Table 12-10, offsets 0 to 23, and six bytes for each further cause from 24
  (∀ r : FaultRecord, faultRecordBytes r =
    [hi r.number, lo r.number, r.kind.cls.code, r.kind.code] ++ elementBytes r.element ++ time r.time ++
      (match r.context with
        | some c => [byteOf c.route, c.state.code, hi (c.tram.getD 0), lo (c.tram.getD 0)]
        | none => [0, 0, 0, 0]) ++
      checkDataBytes r.check ++ [bit r.cleared, bit r.marker, byteOf r.further.length, bit r.more] ++
      r.further.flatMap fun c => [c.kind.code] ++ elementBytes c.element ++ time c.time) ∧
  (∀ (m stored : Bool) (r : FaultRecord), faultReportBody ⟨m, .fault r stored none⟩ =
    some ([0x78, 0, 1] ++ faultRecordBytes r ++ [bit stored])) ∧
  (∀ (m stored : Bool) (r : FaultRecord), ∃ first further,
    faultReportBody ⟨m, .fault r stored (some true)⟩ = some ([0x78, 0, 1] ++ faultRecordBytes r ++ [bit stored, first]) ∧
    faultReportBody ⟨m, .fault r stored (some false)⟩ = some ([0x78, 0, 1] ++ faultRecordBytes r ++ [bit stored, further]) ∧
    first ≠ further) ∧
  checkDataBytes none = [0, 0, 0, 0, 0, 0, 0] ∧
  (∀ (target : Position) (attempts peak duration : Nat),
    checkDataBytes (some (.throwData target attempts peak duration)) =
      [1, positionCode target, byteOf attempts, byteOf peak, hi duration, lo duration, 0]) ∧
  (∀ (expected : Option Nat) (read : Nat), checkDataBytes (some (.identity expected read)) =
    [2, hi (expected.getD 0), lo (expected.getD 0), hi read, lo read, 0, 0]) ∧
  (∀ commanded reported : Aspect, ∃ x y, checkDataBytes (some (.aspects commanded reported)) = [3, x, y, 0, 0, 0, 0]) ∧
  (∀ a b : Nat, checkDataBytes (some (.sequence a b)) = [4, byteOf a, byteOf b, 0, 0, 0, 0]) ∧
  -- the keys of elements, and the codes
  (elementBytes none = [0, 0] ∧ ∀ n, elementBytes (some (.point n)) = [1, byteOf n] ∧
    elementBytes (some (.track n)) = [2, byteOf n] ∧ elementBytes (some (.signal n)) = [3, byteOf n] ∧
    elementBytes (some (.reader n)) = [6, byteOf n] ∧ elementBytes (some (.link n)) = [8, byteOf n]) ∧
  (∀ n, [Key.point n, .track n, .signal n, .road n, .headshunt n, .gate n, .route n].map keyBytes =
    [[1, byteOf n], [2, byteOf n], [3, byteOf n], [4, byteOf n], [5, byteOf n], [6, byteOf n], [7, byteOf n]]) ∧
  [ReplyOutcome.done, .accepted, .doneClamped, .refused].map ReplyOutcome.code = [0, 1, 2, 3] ∧
  [Reason.notAuthority, .noPermit, .frozen, .hold, .queueFull, .duplicate, .unknownItem, .notQuiescent, .stillPresent, .state,
    .length, .unfit, .closed, .noTram, .inUse, .busy, .noLayout, .layoutMismatch, .rehearsal, .malformed].map Reason.code =
    [1, 2, 3, 4, 5, 6, 7, 8, 9, 10, 11, 12, 13, 14, 15, 16, 17, 18, 19, 20] ∧
  [Origin.plan, .desk, .automatic].map Origin.code = [0, 1, 2] ∧
  [SlotState.free, .setting, .locked, .opened, .approachTiming, .entered, .releaseStopped, .emergencyTiming].map
    SlotState.code = [0, 1, 2, 3, 4, 5, 6, 7] ∧
  [RouteCause.taken, .settingDone, .opened, .reverted, .aspectLost, .frozen, .entered, .passedAtStop, .cancelled, .sequence,
    .emergency, .freed, .approachExpired, .emergencyExpired, .freeze].map RouteCause.code =
    [1, 2, 3, 4, 5, 6, 7, 8, 9, 10, 11, 12, 13, 14, 15] ∧
  [FailedCondition.none, .point, .track, .link, .lamp].map FailedCondition.code = [0, 1, 2, 3, 4] ∧
  [BerthState.arriving, .stabled, .departing].map BerthState.code = [0, 1, 2] ∧
  [Position.normal, .reverse].map positionCode = [0, 1] ∧
  [FaultClass.corrected, .element, .yard].map FaultClass.code = [0, 1, 2] ∧
  [FaultKind.throwRetried, .throwObstructed, .throwNoDetection, .motorOpen, .throwInterrupted, .detectionLost,
    .sectionDisturbed, .aspectLost, .lampFailed, .linkDown, .sequence, .passedAtStop, .identity, .pointTrailed, .wrongAspect,
    .allStop].map FaultKind.code = [1, 2, 3, 4, 5, 6, 7, 8, 9, 10, 11, 12, 13, 14, 15, 16]

/-! ## Telegrams in general (R164, R178, R179) -/

/-- While the yard is frozen, a telegram of any kind that R164 does not except is answered FROZEN and changes nothing else. What
taking and answering does to the port rests on log 4. -/
def Obligations.FrozenYardRefuses : Prop :=
  ∀ (c : Instr) (s : State) (port : Port) (tag : Byte) (k : TelegramKind), c.telegram = some (port, tag, k) →
    k.takenFrozen = false → s.plant.freeze.isSome = true → s.portWaits port = false →
    exec c s = .next (s.answered port k.code tag (.refused .frozen))

/-- Taking and answering a telegram puts its reply on its own port's reply path, takes its frame from that port's buffer, may send
reports of that port that were queued before, and uses up the release permit if the port is the desk's; it touches nothing else.
That the reply before has been sent, and which frame leaves the buffer, is the model's choice (log 4). -/
def Obligations.AnsweringTouchesOnlyThePort : Prop :=
  ∀ (s : State) (port : Port) (kind tag : Byte) (a : Answer),
    let t := s.answered port kind tag a
    (t.plant.out port).replies (a.reply kind tag) ∧
    (∃ sent, (s.plant.out port).reports = sent ++ (t.plant.out port).reports) ∧
    (t.plant.out port).enables = (s.plant.out port).enables ∧ (t.plant.out port).overrun = (s.plant.out port).overrun ∧
    t.plant.out port.other = s.plant.out port.other ∧
    t.plant = { s.plant with
      planOut := t.plant.planOut, deskOut := t.plant.deskOut,
      permit := if port = .desk then none else s.plant.permit } ∧
    (s.mapIn port fun i => { i with buffer := dropFront kind tag i.buffer }).plantOnly t

/-! ## The ports (chapter 12) -/

/-- STATUS in every yard mode: the reply carries the fields of R185, the OVERRUN flag shown is cleared, and nothing else of
the part changes. What taking and answering does to the port rests on log 4, the yard mode is worked as log 32 says, and the
hold remaining is rounded up by log 65. -/
def Obligations.StatusShowsTheYard : Prop :=
  ∀ (s : State) (port : Port) (tag : Byte), s.portWaits port = false →
    exec (.status port tag) s = .next
      ((s.answered port TelegramKind.status.code tag
        (.doneWith (.status (s.plant.yardMode s.store.held) s.plant.mode s.resetCause
          (if s.plant.current.clock.set then s.plant.current.clock.minute else 0)
          (if s.plant.current.clock.set then s.plant.current.clock.second else 0) s.plant.current.clock.set
          s.plant.holdSeconds s.plant.used.length s.plant.queue.length s.plant.current.arrivals.length
          s.plant.current.throws s.store.identity s.plant.yard.faults.full (s.plant.out port).overrun
          s.plant.silence.silent s.plant.session.isSome))).mapPlant
        fun _ p => p.mapOut port fun o => { o with overrun := false })

/-- The port telegrams that act on their own port or wait: RESET is answered DONE and makes the reset due; OPEN PERMIT and CLOSE
PERMIT write one permit of the sending port, and closing LAYOUT ends the staging area that the port owns; SET REPORTING writes the
nine enables of the sending port. The mark of the reset that is due is the model's (log 26). -/
def Obligations.PortTelegrams : Prop :=
  ∀ (s : State) (port : Port) (tag : Byte),
    (s.portWaits .desk = false →
      exec (.reset .desk tag) s = .next { s.answered .desk TelegramKind.reset.code tag .done with resetDue := true }) ∧
    (s.hears port .openPermit →
      let u := s.answered port TelegramKind.openPermit.code tag .done
      exec (.openPermit port tag .layout) s = .next (u.mapIn port fun i => { i with layoutPermit := true }) ∧
      exec (.openPermit port tag .settings) s = .next (u.mapIn port fun i => { i with settingsPermit := true }) ∧
      exec (.openPermit port tag .record) s = .next (u.mapIn port fun i => { i with recordPermit := true })) ∧
    (s.hears port .closePermit →
      let u := s.answered port TelegramKind.closePermit.code tag .done
      exec (.closePermit port tag .layout) s = .next
        { (u.mapIn port fun i => { i with layoutPermit := false }) with
          store :=
            { s.store with
              staging := match s.store.staging with
                | some g => if g.owner = port then none else some g
                | none => none } } ∧
      exec (.closePermit port tag .settings) s = .next (u.mapIn port fun i => { i with settingsPermit := false }) ∧
      exec (.closePermit port tag .record) s = .next (u.mapIn port fun i => { i with recordPermit := false })) ∧
    ∀ e : Enables, s.hears port .setReporting →
      exec (.setReporting port tag e) s = .next
        ((s.answered port TelegramKind.setReporting.code tag .done).mapPlant
          fun _ p => p.mapOut port fun o => { o with enables := e })

/-- SET PARAMETER with the SETTINGS permit stores the value taken in, in the range of Table 12-4, in the store and in the copy not
in use, also when it is the value held already (log 6), and leaves the start-up options in force; READ PARAMETER returns the
stored value and the one in force. -/
def Obligations.ParameterTelegrams : Prop :=
  ∀ (s : State) (port : Port) (tag : Byte) (n : Nat), 1 ≤ n → n ≤ 19 →
    (∀ v, s.hears port .setParameter → (s.portIn port).settingsPermit = true → ((n = 14 ∨ n = 17) → v ≤ 1) →
      (n = 9 → Plant.gapAllowed s.env s.plant (paramTaken n v) = true) →
      let w := paramTaken n v
      paramInRange n w = true ∧ (paramInRange n v = true → w = v) ∧
      exec (.setParameter port tag n v) s = .next
        { s.answered port TelegramKind.setParameter.code tag
            ⟨if w = v then .done else .doneClamped, none, .stored w⟩ with
          settings :=
            { s.settings with
              stored := s.settings.stored.set w n
              kept := ⟨some (s.settings.stored.set w n), s.settings.kept.latest⟩ } } ∧
      (s.settings.stored.set w n).get n = some w ∧
      ∀ m, m ≠ n → (s.settings.stored.set w n).get m = s.settings.stored.get m) ∧
    (s.portWaits port = false →
      ∃ v, s.settings.stored.get n = some v ∧
        exec (.readParameter port tag n) s = .next
          (s.answered port TelegramKind.readParameter.code tag
            (.doneWith (.parameter v (s.settings.inForce.get n)))))

/-- A frame of a kind that Table 12-1 does not list, or of a length its kind does not give, is answered REFUSED MALFORMED and
changes nothing else; a kind of 0x80 or above is answered under kind 0xFF. What answering does to the port rests on log 4. -/
def Obligations.UnknownFrameAnsweredMalformed : Prop :=
  ∀ (s : State) (port : Port) (tag kind : Byte), s.portWaits port = false → s.plant.freeze = none →
    exec (.unknownKindFrame port tag kind) s = .next (s.answered port kind tag (.refused .malformed)) ∧
    (0x80 ≤ kind.toNat → replyKind kind = 0xFF) ∧ (kind.toNat < 0x80 → replyKind kind = kind + 0x80)

/-- Bytes on a line: a whole frame taken by a hunting receiver joins the receive buffer, or is lost with OVERRUN set when the
buffer holds 4; on the plan port it restarts the silence timer, and ends silence that stood with PLAN RESTORED on the desk port;
it touches nothing else. A gap discards the frame in hand. A length outside 2 to 250 leaves the receiver hunting. -/
def Obligations.LineFrames : Prop :=
  ∀ (s : State) (port : Port), (s.portIn port).assembling = [] → s.plant.settledAlready →
    (∀ body : List Byte, 2 ≤ body.length → body.length ≤ 250 →
      let full := decide (4 ≤ (s.portIn port).buffer.length)
      let u := s.mapIn port fun i => { i with buffer := if full then i.buffer else i.buffer ++ [body] }
      let p := if full then s.plant.mapOut port fun o => { o with overrun := true } else s.plant
      let heard := exec (.validFrameReceived port (frameBytes body)) s
      (port = .desk → heard = .next { u with plant := p }) ∧
      (port = .plan → s.plant.silence.limit = none → heard = .next { u with plant := p }) ∧
      ∀ ms, port = .plan → s.plant.silence.limit = some ms →
        let q : Plant := { p with silence := ⟨some ms, s.plant.now + ms, false⟩ }
        (s.plant.silence.silent = false → heard = .next { u with plant := q }) ∧
        (s.plant.silence.silent = true → s.plant.mode = .manual →
          heard = .next { u with plant := (q.reportOn .desk false .planRestored).unmarked })) ∧
    (∀ bytes : List Byte, (receiveBytes [] bytes).2 = [] → exec (.frameGapTimeout port bytes) s = .next s) ∧
    (∀ n : Byte, lengthInRange n = false → exec (.frameLengthOutsideRange port [startByte, n]) s = .next s)

/-- A transmitter that finishes its frame starts the reply that waits, or else the oldest queued report, and touches nothing else.
The time a frame takes is left out (log 42). -/
def Obligations.TransmitterPutsReplyFirst : Prop :=
  ∀ (s : State) (port : Port),
    exec (.frameSent port) s = .next (s.mapPlant fun _ p => p.mapOut port fun o =>
      match o.reply, o.reports with
      | some r, _ => { o with sending := some (.reply r), reply := none }
      | none, r :: rest => { o with sending := some (.report r), reports := rest }
      | none, [] => { o with sending := none })

/-! ## The clock, the control mode, the register and the run-out list (chapters 6 and 9) -/

/-- SET CLOCK writes the clock of the yard in force and makes it SET; of that yard only the run-out list, which is placed afresh,
may change besides, and during a session nothing of the real yard. Scans and rounds follow log 5. -/
def Obligations.SetClockWritesTheClock : Prop :=
  ∀ (s : State) (port : Port) (tag : Byte) (minute second : Nat), s.hears port .setClock → minute ≤ 2159 → second ≤ 59 →
    s.plant.quiet s.env →
    ∃ t, exec (.setClock port tag minute second) s = .next t ∧
      (s.answered port TelegramKind.setClock.code tag .done).plantOnly t ∧
      (s.answered port TelegramKind.setClock.code tag .done).plant.tablesOnly t.plant ∧
      t.plant.current =
        { s.plant.current with clock := ⟨true, minute, second, 0⟩, runOut := t.plant.current.runOut } ∧
      t.plant.current.runOut.map RunOut.tram = s.plant.current.runOut.map RunOut.tram ∧
      (s.plant.session.isSome = true → t.plant.yard = s.plant.yard)

/-- TAKE CONTROL and RETURN CONTROL from the desk set the control mode and withdraw the requests of the other side. -/
def Obligations.ControlModeTelegrams : Prop :=
  ∀ (s : State) (tag : Byte),
    (s.portWaits .desk = false → (∀ r ∈ s.plant.queue, r.origin = .plan) →
      ∃ t, exec (.takeControl .desk tag) s = .next t ∧
        (s.answered .desk TelegramKind.takeControl.code tag .done).plantOnly t ∧
        t.plant = { (s.answered .desk TelegramKind.takeControl.code tag .done).plant.unmarked with
          mode := .manual, queue := [], planOut := t.plant.planOut, deskOut := t.plant.deskOut }) ∧
    (s.hears .desk .returnControl → (∀ r ∈ s.plant.queue, r.origin = .desk) →
      s.plant.hold.isSome = true ∨ s.plant.silence.silent = true ∨ s.store.held = false →
      ∃ t, exec (.returnControl .desk tag) s = .next t ∧
        (s.answered .desk TelegramKind.returnControl.code tag .done).plantOnly t ∧
        t.plant = { (s.answered .desk TelegramKind.returnControl.code tag .done).plant.unmarked with
          mode := .automatic, queue := [], planOut := t.plant.planOut, deskOut := t.plant.deskOut })

/-- TRAM ENTRY from the plan port puts each entry, its values taken in, in the place of the tram's register entry, keeps every
other tram's, writes the copy not in use, also when nothing differs (log 6), and answers DONE-CLAMPED when a value was changed. -/
def Obligations.TramEntryReplaces : Prop :=
  ∀ (s : State) (tag : Byte) (es : List TramFields), s.hears .plan .tramEntry → s.plant.session = none →
    1 ≤ es.length → es.length ≤ 10 → (∀ e ∈ es, 1 ≤ e.tram ∧ e.tram ≤ 9999 ∧ 1 ≤ e.cls ∧ e.cls ≤ 4) →
    (es.map TramFields.tram).Nodup → (enterTrams s.register.trams es).length ≤ 160 →
    ∃ l, exec (.tramEntry .plan tag es) s = .next
        { s.answered .plan TelegramKind.tramEntry.code tag
            ⟨if es.any tramFieldsClamped then .doneClamped else .done, none, .none⟩ with
          register := ⟨l, ⟨some l, s.register.kept.latest⟩⟩ } ∧
      (∀ e ∈ es, findBy RegisterEntry.tram e.tram l =
        some ⟨e.tram, clampTo 100 450 e.length, e.cls,
          if e.departure = 65535 then none else some (min e.departure 2159)⟩) ∧
      ∀ n, (∀ e ∈ es, e.tram ≠ n) →
        findBy RegisterEntry.tram n l = findBy RegisterEntry.tram n s.register.trams

/-- TRAM REMOVE whole: its refusals in order, and otherwise the named trams, or every tram for ALL, deleted from the register and
nothing else touched; a tram removed has the substitute values of R120. What taking and answering does to the port rests on log 4,
the copies written on log 6, the count of names on log 11. -/
def Obligations.TramRemoveDeletes : Prop :=
  ∀ (s : State) (port : Port) (tag : Byte) (names : TramNames), s.portWaits port = false →
    (∀ l, names = .list l → 1 ≤ l.length ∧ l.length ≤ 10) →
    let k := TelegramKind.tramRemove.code
    let l := s.register.trams.filter fun e => !namesTram names e.tram
    let t := { s.answered port k tag .done with register := ⟨l, ⟨some l, s.register.kept.latest⟩⟩ }
    (s.plant.freeze.isSome = true →
      exec (.tramRemove port tag names) s = .next (s.answered port k tag (.refused .frozen))) ∧
    (s.plant.freeze = none → port = .desk →
      exec (.tramRemove port tag names) s = .next (s.answered port k tag (.refused .notAuthority))) ∧
    (s.plant.freeze = none → port = .plan → s.plant.session.isSome = true →
      exec (.tramRemove port tag names) s = .next (s.answered port k tag (.refused .rehearsal))) ∧
    (s.plant.freeze = none → port = .plan → s.plant.session = none → tramNamesInRange names = false →
      exec (.tramRemove port tag names) s = .next (s.answered port k tag (.refused .unknownItem))) ∧
    (s.plant.freeze = none → port = .plan → s.plant.session = none → tramNamesInRange names = true →
      exec (.tramRemove port tag names) s = .next t ∧
      (∀ n, namesTram names n = true → t.env.tram? n = none ∧ t.env.dataOf n = ⟨n, 450, 1, none⟩) ∧
      ∀ n, namesTram names n = false → t.env.tram? n = s.env.tram? n)

/-- RUN-OUT PLAN with a tram that the list does not hold adds its entry, placed by its window and readiness, and keeps the
departure of every other entry; of the yard in force only the run-out list changes. That the first readiness stands in the new
entry is read from the rules by log 21; LOST carries d 0 by log 67. -/
def Obligations.RunOutPlanAddsEntry : Prop :=
  ∀ (s : State) (tag : Byte) (tram dep : Nat), s.hears .plan .runOutPlan → s.store.held = true → 1 ≤ tram → tram ≤ 9999 →
    s.plant.current.runOut? tram = none → s.plant.current.runOut.length < 64 → s.plant.quiet s.env →
    let u := s.answered .plan TelegramKind.runOutPlan.code tag
      ⟨if departureClamped dep then .doneClamped else .done, none, .none⟩
    let d := if dep = 65535 then none else some (min dep 2159)
    let ready := s.plant.current.readinessOf tram d
    ∃ t, exec (.runOutPlan .plan tag [(tram, dep)]) s = .next t ∧ u.plantOnly t ∧ u.plant.tablesOnly t.plant ∧
      t.plant.current = { s.plant.current with runOut := t.plant.current.runOut } ∧
      t.plant.current.runOut? tram =
        some ⟨tram, d, departureClamped dep, placedState s.settings.stored s.plant.current.clock d ready.kind, some ready,
          none⟩ ∧
      (∀ n, n ≠ tram →
        (t.plant.current.runOut? n).map RunOut.departure = (s.plant.current.runOut? n).map RunOut.departure) ∧
      t.plant.current.runOut.length = s.plant.current.runOut.length + 1

/-- RUN-OUT CLEAR takes the named trams, or all, from the run-out list of the yard in force and nothing else of that yard. -/
def Obligations.RunOutClearRemoves : Prop :=
  ∀ (s : State) (tag : Byte) (names : TramNames), s.hears .plan .runOutClear → s.store.held = true →
    (∀ l, names = .list l → 1 ≤ l.length ∧ l.length ≤ 16) → s.plant.quiet s.env →
    let u := s.answered .plan TelegramKind.runOutClear.code tag .done
    ∃ t, exec (.runOutClear .plan tag names) s = .next t ∧ u.plantOnly t ∧ u.plant.tablesOnly t.plant ∧
      t.plant.current = { s.plant.current with runOut := t.plant.current.runOut } ∧
      t.plant.current.runOut.map RunOut.tram =
        (s.plant.current.runOut.map RunOut.tram).filter fun n => !namesTram names n

/-! ## Routes, points and the freeze (chapters 2 to 6 and 10) -/

/-- REQUEST ROUTE that no condition of Table 6-2 refuses is answered ACCEPTED. One that the take test leaves waiting is queued
as the youngest request, WAITING with a bypass count of 0, its expiry running from now. One that the test passes is taken into
the first FREE slot: the sections of the route are reserved, each required point is locked where it lies or claimed with a
throw toward its position, the slot is SETTING with its limit running while a point is claimed and is else LOCKED, or OPEN
when its entry signal's link is UP and its lamp OK, and no other slot changes. Behind an older request whose route conflicts
and has to wait, the scan goes on by R99 and R100: a HELD one is not overtaken, and the new request stays behind it; a WAITING
one is overtaken by a request that the test passes, its bypass count raised by one, and is HELD once that reaches the limit.
The scan that follows is worked as log 5 says, and the take test holds every conflicting route apart as log 8 says. -/
def Obligations.RequestRouteQueues : Prop :=
  ∀ (s : State) (port : Port) (tag : Byte) (route tram : Nat) (r : RouteRecord), s.portWaits port = false →
    Plant.requestRefusal s.env s.plant (s.plant.hasAuthority port) route (tramField tram) = none →
    s.store.layout.route? route = some r → Plant.automatic s.env s.plant = false → 1 ≤ s.settings.stored.bypassLimit →
    let u := s.answered port TelegramKind.requestRoute.code tag .accepted
    let now := s.plant.base s.plant.active
    let origin : Origin := if port = .plan then .plan else .desk
    let q : Request :=
      { route := route, origin := origin, tram := if tram = 0 then none else some tram,
        queuedAt := now, queuedTime := s.plant.time s.plant.active,
        expiry := now + 1000 * s.settings.stored.requestExpiry, stopped := none, bypass := 0, held := false }
    let waits :=
      exec (.requestRoute port tag route tram) s = .next
        { u with
          plant :=
            (({ u.plant with queue := s.plant.queue ++ [q] } : Plant).report s.plant.active
              (.requestQueued route q.origin q.tram (s.plant.queue.length + 1) now q.queuedTime)).unmarked }
    (s.plant.queue = [] → Plant.takeTest s.env s.plant r (tramField tram) = .wait → waits) ∧
    (∀ (older : Request) (r' : RouteRecord), s.plant.queue = [older] → s.store.layout.route? older.route = some r' →
      s.env.conflict older.route route = true → Plant.takeTest s.env s.plant r' older.tram = .wait →
      (older.held = true → waits) ∧
      ∀ (named : Nat) (sl : Slot), older.held = false → older.bypass < s.settings.stored.bypassLimit →
        Plant.takeTest s.env s.plant r (tramField tram) = .takes named →
        s.plant.slots.find? (fun x => !x.inUse) = some sl → s.plant.slot? sl.number = some sl →
        (r.required.map (·.1)).Nodup →
        ∃ t x, exec (.requestRoute port tag route tram) s = .next t ∧ u.plantOnly t ∧
          t.plant.queue =
            [{ older with
              bypass := older.bypass + 1, held := decide (s.settings.stored.bypassLimit ≤ older.bypass + 1) }] ∧
          t.plant.slot? sl.number = some x ∧ x.route = some route ∧ x.origin = some origin ∧ x.tram = some named ∧
          ∀ m, m ≠ sl.number → t.plant.slot? m = s.plant.slot? m) ∧
    ∀ (named : Nat) (sl : Slot), s.plant.queue = [] → Plant.takeTest s.env s.plant r (tramField tram) = .takes named →
      s.plant.slots.find? (fun x => !x.inUse) = some sl → s.plant.slot? sl.number = some sl → (r.required.map (·.1)).Nodup →
      let n := sl.number
      let right := fun x : Nat × Position => (s.plant.current.point? x.1).any fun y => y.lies x.2
      ∃ t x, exec (.requestRoute port tag route tram) s = .next t ∧ u.plantOnly t ∧ t.plant.queue = [] ∧
        t.plant.slot? n = some x ∧ x.route = some route ∧ x.kind = kindOf r.source r.target ∧ x.origin = some origin ∧
        x.tram = some named ∧ x.marks = r.tracks.map (fun _ => false) ∧ x.released = 0 ∧ x.aspectHeld = false ∧
        x.settingLimit = s.settings.stored.settingLimit ∧ x.takenAt = s.plant.time s.plant.active ∧
        (∀ m, m ≠ n → t.plant.slot? m = s.plant.slot? m) ∧
        t.plant.current.tracks = s.plant.current.tracks.map (fun y =>
          if y.number ∈ r.tracks then { y with reservedBy := some n } else y) ∧
        (∀ z ∈ r.required, ∃ y, t.plant.current.point? z.1 = some y ∧
          (right z = true → y.state = z.2.state ∧ (∃ k ∈ y.locks, k.slot = n ∧ k.position = z.2)) ∧
          (right z = false → y.claim = some n ∧ ∃ th, y.throw = some th ∧ th.target = z.2)) ∧
        (r.required.all right = false → x.state = .setting ∧ x.claimed = r.required.filter (fun z => !right z) ∧
          x.timer = .running (now + 1000 * s.settings.stored.settingLimit)) ∧
        (r.required.all right = true → x.claimed = [] ∧ x.timer = .off ∧
          let opens := s.plant.elementUp s.env s.plant.active (.signal r.signal) = true ∧
            (s.plant.current.signal? r.signal).any (fun g => g.lamp == some .ok) = true
          (opens → x.state = .opened ∧ ∀ g, t.plant.current.signal? r.signal = some g → g.commanded = .proceed) ∧
          (¬opens → x.state = .locked))

/-- CANCEL ROUTE of the one queued request takes it from the queue, with REQUEST DROPPED, and touches no slot. A slot that is
SETTING, or LOCKED and never opened, is freed at once, and so is one that is OPEN, or LOCKED and opened once, when its approach
section is CLEAR: it is FREE, its claims, locks and reservations are dropped, throws run on, its entry signal is at STOP, and the
answer is DONE. When the approach section is not CLEAR, STOP is commanded on the entry signal, the slot is APPROACH_TIMING for the
release time of the route, and the answer is ACCEPTED. No other slot changes. -/
def Obligations.CancelRouteWithdraws : Prop :=
  ∀ (s : State) (port : Port) (tag : Byte), s.hears port .cancelRoute → s.plant.hasAuthority port = true →
    s.store.held = true →
    (∀ r : Request, (s.store.layout.route? r.route).isSome = true → s.plant.queue = [r] → r.origin ≠ .automatic →
      Plant.automatic s.env s.plant = false →
      let u := s.answered port TelegramKind.cancelRoute.code tag .done
      exec (.cancelRoute port tag r.route) s = .next
        { u with
          plant :=
            (({ u.plant with queue := [] } : Plant).report s.plant.active
              (.requestDropped none r.route r.origin r.tram r.bypass .cancelled none)).unmarked }) ∧
    ∀ (route : Nat) (sl : Slot) (r : RouteRecord), s.store.layout.route? route = some r → s.plant.quiet s.env →
      s.plant.slotOfRoute route = some sl → s.plant.slot? sl.number = some sl →
      let n := sl.number
      let shown := sl.state = .opened ∨ sl.state = .locked ∧ sl.openedOnce = true
      let gives := fun (a : Answer) (x : Slot) (more : State → Prop) =>
        ∃ t, exec (.cancelRoute port tag route) s = .next t ∧
          (s.answered port TelegramKind.cancelRoute.code tag a).plantOnly t ∧ t.plant.slot? n = some x ∧
          (∀ m, m ≠ n → t.plant.slot? m = s.plant.slot? m) ∧
          (∀ g, t.plant.current.signal? r.signal = some g → g.commanded = .stop) ∧
          (∀ m, m ≠ r.signal → t.plant.current.signal? m = s.plant.current.signal? m) ∧ t.plant.queue = [] ∧ more t
      let freed := gives .done (Slot.free n) fun t =>
        t.plant.current.points = s.plant.current.points.map (fun y =>
          { y with claim := if y.claim = some n then none else y.claim, locks := y.locks.filter fun l => l.slot != n }) ∧
        t.plant.current.tracks = s.plant.current.tracks.map (fun y =>
          if y.reservedBy = some n then { y with reservedBy := none } else y) ∧
        t.plant.current.faults = s.plant.current.faults ∧ t.plant.current.expectations = s.plant.current.expectations
      (sl.state = .setting ∨ sl.state = .locked ∧ sl.openedOnce = false → freed) ∧
      (shown → Plant.approachClear s.env s.plant r = true → freed) ∧
      (shown → Plant.approachClear s.env s.plant r = false →
        gives .accepted
          { sl with
            state := .approachTiming
            timer := .running (s.plant.base s.plant.active + 1000 * r.releaseTime.getD 60) }
          fun t => t.plant.current = { s.plant.current with signals := t.plant.current.signals })

/-- GRANT RELEASE PERMIT opens the desk's permit for 10 s, and at the lapse time an open permit closes. That the command of the
lapse brings the time base to it is the model's choice (log 2). -/
def Obligations.ReleasePermitOpensAndLapses : Prop :=
  ∀ (s : State) (tag : Byte),
    (s.hears .desk .grantReleasePermit →
      let u := s.answered .desk TelegramKind.grantReleasePermit.code tag .done
      exec (.grantReleasePermit .desk tag) s = .next
        { u with plant := { u.plant with permit := some (s.plant.now + 10000) } }) ∧
    ∀ due, s.plant.permit = some due →
      exec .releasePermitLapse s = .next
        { s with plant := { s.plant.advance (due - s.plant.now) with permit := none } }

/-- EMERGENCY RELEASE with the permit open, of a slot that was opened and is not released so already: ACCEPTED, the permit used up,
STOP commanded, and the slot EMERGENCY_TIMING for the time of the parameter. That no section is released at this moment is log 76. -/
def Obligations.EmergencyReleaseTimes : Prop :=
  ∀ (s : State) (tag : Byte) (route : Nat) (sl : Slot) (r : RouteRecord), s.hears .desk .emergencyRelease →
    s.plant.permit.isSome = true → s.store.held = true → s.store.layout.route? route = some r → s.plant.quiet s.env →
    s.plant.slotOfRoute route = some sl → s.plant.slot? sl.number = some sl → sl.unopened = false →
    sl.state ≠ .emergencyTiming →
    let u := s.answered .desk TelegramKind.emergencyRelease.code tag .accepted
    ∃ t, exec (.emergencyRelease .desk tag route) s = .next t ∧ u.plantOnly t ∧ t.plant.permit = none ∧
      t.plant.slot? sl.number = some { sl with
        state := .emergencyTiming
        timer := .running (s.plant.base s.plant.active + 1000 * s.settings.stored.emergencyTime) } ∧
      (∀ n, n ≠ sl.number → t.plant.slot? n = s.plant.slot? n) ∧
      (∀ g, t.plant.current.signal? r.signal = some g → g.commanded = .stop) ∧
      t.plant.current = { s.plant.current with signals := t.plant.current.signals }

/-- THROW POINT from the desk in MANUAL, outside a session: a free point that may be driven is MOVING toward the target with
the parameters captured, DRIVE is sent on its link, and THROW STARTED is reported; one whose section is not CLEAR, or whose
section's link is not UP, is refused STATE and is not driven. That the figures of the throw before stay until the end is log 74; the list of frames sent
is the model's own (log 7). -/
def Obligations.ThrowPointDrives : Prop :=
  ∀ (s : State) (tag : Byte) (n link : Nat) (target : Position) (x : Point), s.hears .desk .throwPoint →
    s.plant.mode = .manual → s.store.held = true → s.plant.hold = none → s.plant.session = none →
    s.plant.yard.point? n = some x → x.state = .failed ∨ x.state = target.opposite.state → x.outOfUse = false →
    x.claim = none → x.locks = [] → x.throw = none →
    (∀ d, s.store.layout.point? n = some d →
      s.plant.yard.trackState d.track ≠ .clear ∨ s.plant.elementUp s.env .real (.track d.track) = false →
      exec (.throwPoint .desk tag n target) s = .next (s.answered .desk TelegramKind.throwPoint.code tag (.refused .state))) ∧
    (Plant.pointClear s.env s.plant .real n = true →
      s.env.layout.linkOf (.point n) = some link → s.plant.linkUp link = true → s.plant.queue = [] →
      let u := s.answered .desk TelegramKind.throwPoint.code tag .accepted
      let th : Throw :=
        { target := target, origin := .desk, timeLimit := s.settings.stored.throwTimeLimit,
          obstruction := s.settings.stored.obstruction, openCircuit := s.settings.stored.openCircuit,
          retries := s.settings.stored.retries, peak := 0, startedAt := s.plant.now, driveAt := s.plant.now, samples := 0,
          obstructionRun := 0, openRun := 0, pauseEnd := none }
      exec (.throwPoint .desk tag n target) s = .next
        { u with
          plant :=
            (((u.plant.mapPoint .real n fun y => { y with state := .moving, attempts := 0, throw := some th }).send link
              (.drive n target)).report .real (.throwStarted n target .desk)).unmarked })

/-- POINT USE from the desk, outside a session: the OUT_OF_USE flag of the point is written, a change goes to non-volatile store,
POINT USE is reported, and no other point changes. That an unchanged flag is reported too is the model's choice (log 38). -/
def Obligations.PointUseWritesFlag : Prop :=
  ∀ (s : State) (tag : Byte) (n : Nat) (x : Point) (out : Bool), s.hears .desk .pointUse → s.store.held = true →
    s.plant.session = none → s.plant.quiet s.env → s.plant.yard.point? n = some x →
    (out = true → x.throw = none ∧ x.claim = none) →
    let u := s.answered .desk TelegramKind.pointUse.code tag .done
    let q := (u.plant.mapPoint .real n fun y => { y with outOfUse := out }).report .real (.pointUse n out)
    exec (if out then .pointUseOut .desk tag n else .pointUseIn .desk tag n) s = .next
      { u with
        plant :=
          { q.unmarked with
            keptOutOfUse :=
              if x.outOfUse = out then s.plant.keptOutOfUse else s.plant.keptOutOfUse.write q.yard.outOfUse } }

/-- ALL STOP freezes the yard: a session ends; the freeze record holds ALL_STOP under the next fault number; every signal of the
real yard is commanded STOP, no throw is in progress, no slot is OPEN, no slot timer, request expiry or restart hold runs.
That ALL STOP is a fault of the real yard in a session too is log 14. -/
def Obligations.AllStopFreezesTheYard : Prop :=
  ∀ (s : State) (tag : Byte), s.hears .desk .allStop →
    ∃ t, exec (.allStop .desk tag) s = .next t ∧
      (s.answered .desk TelegramKind.allStop.code tag .done).plantOnly t ∧
      t.plant.freeze =
        some ⟨⟨s.plant.yard.faults.next, .allStop, none, s.plant.yard.clock.time, none, none⟩, [], false⟩ ∧
      t.plant.session = none ∧ t.plant.hold = none ∧ t.plant.yard.allAtStop ∧ t.plant.yard.noThrow ∧
      t.plant.noneOpen ∧ t.plant.timersStopped

/-- FREEZE ACKNOWLEDGE once the primary cause has gone: the freeze ends, every slot is FREE, the queue is empty, the freeze record
is stored CLEARED in the fault list while it has room, and a restart hold of the duration in force begins. That in a session the
record goes to the copies' fault list, with the REHEARSAL marker, is read from R157 and R173 by log 14. -/
def Obligations.FreezeAcknowledgeEndsTheFreeze : Prop :=
  ∀ (s : State) (tag : Byte) (f : FreezeRecord), s.portWaits .desk = false → s.plant.freeze = some f →
    Plant.primaryGone s.env s.plant f.primary = true →
    ∃ t, exec (.freezeAcknowledge .desk tag) s = .next t ∧
      (s.answered .desk TelegramKind.freezeAcknowledge.code tag .done).plantOnly t ∧
      t.plant.freeze = none ∧ t.plant.used = [] ∧ t.plant.queue = [] ∧
      t.plant.hold = some (s.plant.now + 1000 * s.settings.inForce.hold) ∧
      (s.plant.current.faults.records.length < 16 →
        t.plant.current.faults.records = s.plant.current.faults.records ++
          [{ number := f.primary.number, kind := f.primary.kind, element := f.primary.element, time := f.primary.time,
             context := f.primary.context, check := f.primary.check, further := f.further, more := f.more,
             cleared := true, marker := s.plant.session.isSome }])

/-- CLEAR FAULT of an OPEN record whose condition is gone makes it CLEARED, clears the list-full indicator, reports it, and
touches no record of another number; should the list hold two records of the number, the first is tested and reported and both
are CLEARED, by log 59. Scans and rounds follow log 5. -/
def Obligations.ClearFaultClears : Prop :=
  ∀ (s : State) (port : Port) (tag : Byte) (n : Nat) (r : FaultRecord), s.portWaits port = false →
    findBy FaultRecord.number n s.plant.current.faults.records = some r → r.cleared = false →
    Plant.conditionGone s.env s.plant r = true → s.plant.quiet s.env →
    let u := s.answered port TelegramKind.clearFault.code tag .done
    exec (.clearFault port tag n) s = .next
      { u with
        plant :=
          ((u.plant.mapYard s.plant.active fun y =>
            { y with
              faults :=
                { y.faults with
                  records := updBy FaultRecord.number n (fun x => { x with cleared := true }) y.faults.records
                  full := false } }).report s.plant.active (.fault { r with cleared := true } true none)).unmarked }

/-! ## Reading (R20, R54, R56, R128, R148, R160) -/

/-- The reading telegrams, taken while frozen too, answer DONE with what they read and change nothing else. READ ROUTES gives with
each request the time remaining to its expiry, or the time that a freeze holds. The usable and the used length of a headshunt are
the model's choice (log 23), and so are the link of a reader during a session (log 49) and the unit of an elapsed time (log 47). -/
def Obligations.ReadingChangesNothing : Prop :=
  ∀ (s : State) (port : Port) (tag : Byte), s.portWaits port = false →
    let p := s.plant
    let env := s.env
    let tells := fun (c : Instr) (k : TelegramKind) (f : ReplyFields) =>
      exec c s = .next (s.answered port k.code tag (.doneWith f))
    (s.store.held = true →
      tells (.readRoutes port tag) .readRoutes
        (.routes (p.used.map (Plant.slotView env p))
          (p.queue.map fun r => ⟨r, r.stopped.getD (r.expiry - p.base p.active)⟩)) ∧
      tells (.readRunOut port tag) .readRunOut (.runOut p.current.clock p.current.runOut) ∧
      tells (.readArrivals port tag) .readArrivals
        (.arrivals p.current.arrivals (Plant.arrivalCount env p p.active) p.current.expectations p.current.readers) ∧
      (∀ n x, p.current.point? n = some x →
        tells (.readElement port tag (.point n)) .readElement
          (.point x ((x.throw.map fun th => (p.base p.active - th.startedAt) / 100).getD 0))) ∧
      (∀ n x, p.current.track? n = some x →
        tells (.readElement port tag (.track n)) .readElement (.track x.state x.reservedBy)) ∧
      (∀ n g, p.current.signal? n = some g →
        tells (.readElement port tag (.signal n)) .readElement
          (.signal g.commanded g.reported g.lamp (g.answered == some g.command))) ∧
      (∀ n x link l, p.current.reader? n = some x → env.layout.linkOf (.reader n) = some link → p.link? link = some l →
        tells (.readElement port tag (.gate n)) .readElement
          (.gate x.lastRead x.time (if p.session.isSome then .up else l.state))) ∧
      (∀ b r, p.current.road? b = some r → tells (.readRoad port tag b) .readRoad (Plant.roadFields env r)) ∧
      (∀ key r, s.store.layout.record? key = some r → (∀ x, r ≠ .route x) →
        tells (.readLayout port tag .committed key) .readLayout (.layout s.store.identity none r none [])) ∧
      ∀ n x, s.store.layout.route? n = some x →
        tells (.readLayout port tag .committed (.route n)) .readLayout
          (.layout s.store.identity none (.route x) (kindOf x.source x.target)
            ((s.store.layout.routes.map RouteRecord.number).filter fun m => m != n && inConflict s.store.conflicts n m))) ∧
    (∀ g key r, s.store.staging = some g → g.owner = port → g.layout.record? key = some r →
      tells (.readLayout port tag .staging key) .readLayout
        (.layout s.store.identity (some (g.expected, g.fresh)) r none [])) ∧
    (∀ n r, 1 ≤ n → p.current.faults.records[n - 1]? = some r →
      tells (.readFault port tag (.position n)) .readFault
        (.fault r p.current.faults.records.length p.current.faults.next p.current.faults.full)) ∧
    tells (.readFault port tag .freeze) .readFault (.freeze p.freeze)

/-- ALLOCATE QUERY for a tram of the register, or for the head of the arrival queue, answers with the ranking of the eligible
roads: each is eligible by Table 8-2, and each ranks before every later one by score, then by fewer entries, then by road number.
That fewer entries rank first at an equal score is the model's choice between R135 and the paragraph after it (log 30). -/
def Obligations.AllocateQueryRanks : Prop :=
  ∀ (s : State) (port : Port) (tag : Byte) (e : RegisterEntry), s.hears port .allocateQuery → s.store.held = true →
    let ranked := Plant.allocate s.env s.plant e
    let told := .next (s.answered port TelegramKind.allocateQuery.code tag
      (.doneWith (.allocation e.tram e.length e.cls e.departure ranked.length (ranked.take 3)
        (Plant.roadCodes s.env s.plant e))))
    ranked.Pairwise (fun a b => a.score < b.score ∨ a.score = b.score ∧
      (a.entries < b.entries ∨ a.entries = b.entries ∧ a.road < b.road)) ∧
    (∀ c ∈ ranked, Plant.judgeRoad s.env s.plant e c.road = .ok c) ∧
    (∀ n c, Plant.judgeRoad s.env s.plant e n = .ok c → 1 ≤ n → n ≤ 16 → c ∈ ranked) ∧
    (∀ n, 1 ≤ n → n ≤ 9999 → s.env.tram? n = some e → exec (.allocateQuery port tag (.tram n)) s = told) ∧
    ∀ a rest, s.plant.current.arrivals = a :: rest → e = ⟨a.tram, a.length, a.cls, a.departure⟩ →
      exec (.allocateQuery port tag .head) s = told

/-- The order term of a road that passes conditions 1 to 9 of Table 8-2 (R132): E and the mark EMPTY for an empty road; else, by S
= F* − D* with the front entry's departure for F*, S itself where S ≥ 0, and where S < 0 B + V × (−S) with the blocking marker
while blocking is allowed, and ineligibility with code 10 while it is not. -/
def Obligations.OrderTermIsWorked : Prop :=
  ∀ (s : State) (e : RegisterEntry) (n : Nat) (d : RoadRecord) (r : Road), s.store.layout.road? n = some d →
    s.plant.current.road? (.road n) = some r → r.closed = false → r.verified = true →
    classAdmitted d.classMask e.cls = true → (∀ x ∈ r.entries, x.state = .stabled) →
    s.plant.slotNames s.env (.road n) = false → s.plant.queueNames s.env (.road n) = false →
    (∀ a ∈ s.plant.current.arrivals, a.reserved = some n → a.tram = e.tram) →
    fitsRoad s.settings.stored.berthGap d.usable r.entries e.length = true →
    (Yard.unbarredRoute s.env s.plant.current .g1 (.berth (.road n))).isSome = true →
    let p := s.settings.stored
    let judged := Plant.judgeRoad s.env s.plant e n
    let works := fun (o : Int) (mark : OrderMark) (blocking : Bool) =>
      ∃ c, judged = .ok c ∧ c.road = n ∧ (c.orderTerm : Int) = o ∧ c.mark = mark ∧ c.blocking = blocking
    (r.entries = [] → works p.emptyPenalty .empty false) ∧
    ∀ f, r.entries.getLast? = some f →
      let diff : Int := (f.departure.getD 2160 : Nat) - (e.departure.getD 2160 : Nat)
      (0 ≤ diff → works diff (.order diff) false) ∧
      (diff < 0 → p.blockingAllowed = 1 → works (p.blockingPenalty + p.inversionWeight * (-diff)) (.order diff) true) ∧
      (diff < 0 → p.blockingAllowed ≠ 1 → judged = .error 10)

/-- The law of allocation: with the parameters in range, and the lengths and departures of the layout, the record and the tram in
theirs, every road an allocation names scores at most 56,860, and is present, IN_SERVICE, VERIFIED, of the tram's class, named by
no slot in use and no queued request, without an ARRIVING or DEPARTING entry, and long enough for the tram; and its score is
worked by R133, its order term and the length term W = R × K / 100 of the spare length R = C − N. -/
def Obligations.AllocationKeepsItsLaw : Prop :=
  ∀ (s : State) (e : RegisterEntry) (c : Candidate), s.settings.stored.inRange = true →
    (∀ d ∈ s.store.layout.roads, d.usable ≤ 2400) →
    (∀ r ∈ s.plant.current.roads, ∀ x ∈ r.entries, ∀ m, x.departure = some m → m ≤ 2159) →
    100 ≤ e.length → (∀ m, e.departure = some m → m ≤ 2159) →
    c ∈ Plant.allocate s.env s.plant e →
    c.score ≤ 56860 ∧
      ∃ d r, s.store.layout.road? c.road = some d ∧ s.plant.current.road? (.road c.road) = some r ∧
        r.closed = false ∧ r.verified = true ∧ classAdmitted d.classMask e.cls = true ∧
        s.plant.slotNames s.env (.road c.road) = false ∧ s.plant.queueNames s.env (.road c.road) = false ∧
        (∀ x ∈ r.entries, x.state = .stabled) ∧ r.entries.length < 8 ∧
        (let p := s.settings.stored
         let n := lengthWith p.berthGap r.entries e.length
         n = (if r.entries = [] then e.length else usedLength p.berthGap r.entries + p.berthGap + e.length) ∧
         n ≤ d.usable ∧ c.spare = d.usable - n ∧ c.lengthTerm = c.spare * p.lengthWeight / 100 ∧
         c.score = c.orderTerm + c.lengthTerm ∧ (n = d.usable → c.lengthTerm = 0) ∧
         (p.lengthWeight = 0 → c.score = c.orderTerm))

/-! ## The stabling record (chapter 7) -/

/-- ROAD CENSUS gives a berth road the listed trams, STABLED with their register data, and makes it VERIFIED; the trams stand
nowhere else in the record; nothing of the yard in force but the record and the run-out list changes. -/
def Obligations.RoadCensusWritesTheRoad : Prop :=
  ∀ (s : State) (port : Port) (tag : Byte) (b : Berth) (trams : List Nat) (old : Road), s.hears port .roadCensus →
    (s.portIn port).recordPermit = true → s.store.held = true → s.plant.current.road? b = some old →
    (∀ n ∈ trams, 1 ≤ n ∧ n ≤ 9999) → trams.length ≤ berthCapacity b → trams.Nodup →
    s.plant.slotNames s.env b = false → (∀ n ∈ trams, s.plant.tramCarried n = false) → censusFits s.env b trams = true →
    s.plant.quiet s.env →
    let u := s.answered port TelegramKind.roadCensus.code tag .done
    ∃ t, exec (.roadCensus port tag b trams) s = .next t ∧ u.plantOnly t ∧
      t.plant.current.road? b = some
        { old with
          verified := true
          entries := trams.map fun n =>
            let d := s.env.dataOf n
            ⟨n, d.length, d.cls, d.departure, .stabled, s.plant.time s.plant.active⟩ } ∧
      (∀ r ∈ t.plant.current.roads, r.berth ≠ b → ∀ e ∈ r.entries, e.tram ∉ trams) ∧
      (∀ a ∈ t.plant.current.arrivals, a.tram ∉ trams) ∧ (∀ x ∈ t.plant.current.expectations, x.tram ∉ trams) ∧
      t.plant.current = { s.plant.current with
        roads := t.plant.current.roads, arrivals := t.plant.current.arrivals,
        expectations := t.plant.current.expectations, runOut := t.plant.current.runOut } ∧
      (s.plant.session = none → t.plant.keptRoads.latest = some t.plant.yard.roads)

/-- ROAD CLOSE and ROAD OPEN write the service setting of a berth road and nothing else of it; its entries and verification
stay. -/
def Obligations.RoadServiceWritesSetting : Prop :=
  ∀ (s : State) (port : Port) (tag : Byte) (b : Berth) (old : Road) (closed : Bool), s.hears port .roadCloseOpen →
    s.store.held = true → s.plant.current.road? b = some old → s.plant.quiet s.env →
    let u := s.answered port TelegramKind.roadCloseOpen.code tag .done
    ∃ t, exec (if closed then .roadClose port tag b else .roadOpen port tag b) s = .next t ∧ u.plantOnly t ∧
      t.plant.current.road? b = some { old with closed := closed } ∧
      (∀ b', b' ≠ b → t.plant.current.road? b' = s.plant.current.road? b') ∧
      t.plant.current = { s.plant.current with
        roads := t.plant.current.roads, arrivals := t.plant.current.arrivals, runOut := t.plant.current.runOut }

/-- A tram read at G1 that stands nowhere in the record joins the arrival queue at its end, with its register data or the substitute
data of R120, unless the queue's count has reached 6, and then the queue stays as it is: on the real yard at a read of the reader's
own link, and on the copies at REHEARSAL ACT ARRIVE. A tram read at G2 that is the first expected is taken from the expectation
list. No slot changes. That a read is taken from the reader's own UP link is log 10. -/
def Obligations.GateReadsMoveTrams : Prop :=
  ∀ (s : State) (n : Nat), 1 ≤ n → n ≤ 9999 → s.plant.quiet s.env →
    let d := s.env.dataOf n
    let a : Arrival := ⟨n, d.length, d.cls, d.departure, (s.env.tram? n).isSome, none⟩
    let absent := fun (sd : Side) =>
      let y := s.plant.yardOf sd
      (∀ x ∈ y.arrivals, x.tram ≠ n) ∧ (∀ x ∈ y.expectations, x.tram ≠ n) ∧ y.roadOfTram n = none
    let queue := fun (sd : Side) =>
      let l := (s.plant.yardOf sd).arrivals
      if Plant.arrivalCount s.env s.plant sd < 6 then l ++ [a] else l
    (∀ link, s.plant.linkUp link = true → s.env.layout.linkOf (.reader 1) = some link → absent .real →
      ∃ t, exec (.gateRead link 1 (.tram n)) s = .next t ∧ s.plantOnly t ∧
        (∀ r, s.plant.yard.reader? 1 = some r →
          t.plant.yard.reader? 1 = some { r with lastRead := some (.tram n), time := s.plant.yard.clock.time }) ∧
        t.plant.yard = { s.plant.yard with
          arrivals := queue .real, readers := t.plant.yard.readers, runOut := t.plant.yard.runOut } ∧
        t.plant.slots = s.plant.slots) ∧
    (∀ link x rest, s.plant.linkUp link = true → s.env.layout.linkOf (.reader 2) = some link →
      s.plant.yard.expectations = x :: rest → x.tram = n →
      ∃ t, exec (.gateRead link 2 (.tram n)) s = .next t ∧ s.plantOnly t ∧
        t.plant.yard = { s.plant.yard with expectations := rest, readers := t.plant.yard.readers } ∧
        t.plant.slots = s.plant.slots) ∧
    ∀ (c : Session) (port : Port) (tag : Byte), s.hears port .rehearsalAct → s.plant.session = some c →
      c.readFail = false → absent .copy →
      ∃ t c', exec (.rehearsalActArrive port tag n) s = .next t ∧
        (s.answered port TelegramKind.rehearsalAct.code tag .done).plantOnly t ∧ t.plant.session = some c' ∧
        c'.copy = { c.copy with arrivals := queue .copy, readers := c'.copy.readers, runOut := c'.copy.runOut } ∧
        t.plant.yard = s.plant.yard ∧ t.plant.slots = s.plant.slots

/-! ## The layout store (chapter 1) -/

/-- LAYOUT BEGIN with the LAYOUT permit opens a staging area, empty or a copy of the committed layout; LAYOUT ABANDON discards the
sender's; neither touches the committed layout. -/
def Obligations.LayoutBeginAndAbandon : Prop :=
  ∀ (s : State) (port : Port) (tag : Byte),
    (∀ expected fresh form, s.hears port .layoutBegin → s.plant.session = none → (s.portIn port).layoutPermit = true →
      (∀ g, s.store.staging = some g → g.owner = port) → (s.store.held = true → expected = s.store.identity) →
      fresh ≠ 0xFFFFFFFF → fresh ≠ 0 →
      exec (.layoutBegin port tag expected fresh form) s = .next
        { s.answered port TelegramKind.layoutBegin.code tag .done with
          store :=
            { s.store with
              staging := some ⟨port, expected, fresh, !s.store.held,
                if form = .empty then .empty else s.store.layout⟩ } }) ∧
    (s.hears port .layoutAbandon → (∀ g, s.store.staging = some g → g.owner = port) →
      exec (.layoutAbandon port tag) s = .next
        { s.answered port TelegramKind.layoutAbandon.code tag .done with store := { s.store with staging := none } })

/-- LAYOUT COMMIT of a valid staging area whose identity pair still holds, in a quiescent yard: the layout and its identity are
stored, into the copy not in use (log 6), the conflict table is derived afresh, and the staging area ends. An element whose
record has not changed keeps its state, another is entered UNKNOWN, and one that the layout no longer holds is gone; berth
roads keep their entries and settings, and an arrival its reserved road while that road admits its class; the OUT_OF_USE flags
kept in non-volatile store are those of the points; every link that is not DISABLED enters TRAINING with a fresh window. That
the elements on such a link keep their state until the full state comes is settled by log 9, and the figures of a point entered
afresh are 0 by log 62. -/
def Obligations.LayoutCommitStores : Prop :=
  ∀ (s : State) (port : Port) (tag : Byte) (g : Staging), s.hears port .layoutCommit → s.plant.session = none →
    (s.portIn port).layoutPermit = true → s.store.staging = some g → g.owner = port → g.matches s.store = true →
    s.plant.quiescent = true → g.layout.validate s.settings.stored.berthGap s.plant.yard = none →
    ∃ t, exec (.layoutCommit port tag) s = .next t ∧
      t = { s.answered port TelegramKind.layoutCommit.code tag .done with store := t.store, plant := t.plant } ∧
      t.store = ⟨g.fresh, g.layout, deriveConflicts g.layout.routes, none, ⟨some ⟨g.fresh, g.layout⟩, s.store.kept.latest⟩⟩ ∧
      (s.plant.mode = .manual → (s.plant.links.map Link.number).Nodup →
        let old := s.store.layout
        let new := g.layout
        let y := s.plant.yard
        t.plant.yard =
          { y with
            points := new.points.map fun r =>
              let fresh : Point :=
                { number := r.number, state := .unknown, detected := none, outOfUse := false, claim := none, locks := [],
                  attempts := 0, lastDuration := 0, lastPeak := 0, throw := none }
              if old.point? r.number = some r then (y.point? r.number).getD fresh else fresh
            tracks := new.tracks.map fun r =>
              if old.track? r.number = some r then (y.track? r.number).getD ⟨r.number, .unknown, none⟩
              else ⟨r.number, .unknown, none⟩
            signals := new.signals.map fun r =>
              let fresh : Signal :=
                { number := r.number, commanded := .stop, command := 0, reported := none, lamp := none, answered := none,
                  wrongRaised := false }
              if old.signal? r.number = some r then (y.signal? r.number).getD fresh else fresh
            readers := new.gates.map fun r =>
              if (old.gate? r.number).map GateRecord.link = some r.link then (y.reader? r.number).getD ⟨r.number, none, none⟩
              else ⟨r.number, none, none⟩
            roads := new.berths.map fun b => (y.road? b).getD ⟨b, [], false, true⟩
            arrivals := y.arrivals.map fun a =>
              if a.reserved.any (fun n => (new.road? n).any fun d => classAdmitted d.classMask a.cls) then a
              else { a with reserved := none }
            runOut := t.plant.yard.runOut } ∧
        t.plant.keptRoads = ⟨some t.plant.yard.roads, s.plant.keptRoads.latest⟩ ∧
        t.plant.keptOutOfUse.latest.getD [] = (t.plant.yard.points.filter Point.outOfUse).map Point.number ∧
        ∀ n l, s.plant.link? n = some l →
          (l.state = .disabled → t.plant.link? n = some l) ∧
          (l.state ≠ .disabled → ∃ l', t.plant.link? n = some l' ∧ l'.state = .training ∧
            l'.windowEnd = s.plant.now + 5000 ∧ l'.bad = 0))

/-- LAYOUT RECORD by the owner of the staging area: PUT places the record, as the store holds it, under its key, and REMOVE
deletes the record of a key; every other key's record and the committed layout stay. LAYOUT ERASE with the stored identity in
a quiescent yard leaves the erased identity, no layout, no element, no berth road and no tram; the settings, the register, the
fault list and the run-out list stay, every run-out entry with readiness LOST. That a record put without a release time holds
60 s is log 22, and that LOST carries d 0 is log 67. -/
def Obligations.LayoutRecordAndErase : Prop :=
  ∀ (s : State) (port : Port) (tag : Byte),
    (∀ g : Staging, s.hears port .layoutRecord → (s.portIn port).layoutPermit = true → s.store.staging = some g →
      g.owner = port →
      let u := s.answered port TelegramKind.layoutRecord.code tag .done
      (∀ record, recordRefusal record = none →
        ∃ l, exec (.layoutRecordPut port tag record) s = .next
            { u with store := { s.store with staging := some { g with layout := l } } } ∧
          l.record? (keyOf record) = some (normalRecord record) ∧
          ∀ key, key ≠ (keyOf record) → l.record? key = g.layout.record? key) ∧
      ∀ key,
        ∃ l, exec (.layoutRecordRemove port tag key) s = .next
            { u with store := { s.store with staging := some { g with layout := l } } } ∧
          l.record? key = none ∧ ∀ key', key' ≠ key → l.record? key' = g.layout.record? key') ∧
    (s.hears port .layoutErase → s.plant.session = none → (s.portIn port).layoutPermit = true →
      (∀ g, s.store.staging = some g → g.owner = port) → s.store.held = true → s.plant.quiescent = true →
      ∃ t, exec (.layoutErase port tag s.store.identity) s = .next t ∧
        t = { s.answered port TelegramKind.layoutErase.code tag .done with store := t.store, plant := t.plant } ∧
        t.store = ⟨0xFFFFFFFF, .empty, [], none, ⟨some ⟨0xFFFFFFFF, .empty⟩, s.store.kept.latest⟩⟩ ∧
        t.plant.yard = { Yard.empty with
          runOut := t.plant.yard.runOut, faults := s.plant.yard.faults, clock := s.plant.yard.clock } ∧
        t.plant.yard.runOut.map (fun e => (e.tram, e.departure)) = s.plant.yard.runOut.map (fun e => (e.tram, e.departure)) ∧
        ∀ e ∈ t.plant.yard.runOut, e.readiness = some ⟨.lost, 0, []⟩)

/-! ## Field links and rehearsal (chapter 11) -/

/-- The desk's link telegrams: LINK RETRAIN puts a link that is not DISABLED in TRAINING with a fresh window and owes its report;
LINK DISABLE and LINK ENABLE make a link DISABLED and TRAINING. The elements of a link that leaves UP so become UNKNOWN; that its
points then have no detected position either is log 39. -/
def Obligations.LinkTelegrams : Prop :=
  ∀ (s : State) (tag : Byte) (n : Nat) (l : Link), s.plant.link? n = some l →
    (s.hears .desk .linkRetrain → l.state ≠ .disabled →
      ∃ t l', exec (.linkRetrain .desk tag n) s = .next t ∧
        (s.answered .desk TelegramKind.linkRetrain.code tag .accepted).plantOnly t ∧ t.plant.link? n = some l' ∧
        l'.state = .training ∧ l'.windowEnd = s.plant.now + 5000 ∧ l'.bad = 0 ∧ l'.retrainOwed = true ∧
        (l.state = .up → s.plant.quiet s.env → t.plant.elementsLost s.env n)) ∧
    (s.hears .desk .linkDisableEnable →
      (Plant.linkInUse s.env s.plant n = false →
        ∃ t l', exec (.linkDisable .desk tag n) s = .next t ∧
          (s.answered .desk TelegramKind.linkDisableEnable.code tag .done).plantOnly t ∧ t.plant.link? n = some l' ∧
          l'.state = .disabled ∧ (l.state = .up → s.plant.quiet s.env → t.plant.elementsLost s.env n)) ∧
      (l.state = .disabled →
        ∃ t l', exec (.linkEnable .desk tag n) s = .next t ∧
          (s.answered .desk TelegramKind.linkDisableEnable.code tag .done).plantOnly t ∧ t.plant.link? n = some l' ∧
          l'.state = .training ∧ l'.windowEnd = s.plant.now + 5000))

/-- A training answer that names the link's own number, on a link in TRAINING, brings the link UP; one that names another number,
and one on a link in another state, is a good frame and nothing more. The elements on a link that comes UP take what its full state
reports of them: a section its condition, a signal aspect, lamp and number, an unlocked idle point its position, or FAILED; the lamp
of a signal on it that has no report there is unknown. The full state as an operand is the model's choice (log 10). -/
def Obligations.TrainingAnswerBringsUp : Prop :=
  ∀ (s : State) (n number : Nat) (full : FullState) (l : Link), s.plant.link? n = some l →
    (l.state = .training → number = n →
      ∃ t l', exec (.trainingAnswer n number full) s = .next t ∧ s.plantOnly t ∧ t.plant.link? n = some l' ∧
        l'.state = .up ∧ l'.lastGood = s.plant.now ∧ l'.bad = 0 ∧
        (s.plant.quiet s.env →
          ((full.points.map (·.1)).Nodup → ∀ k det x, (k, det) ∈ full.points → s.env.layout.linkOf (.point k) = some n →
            s.plant.yard.point? k = some x → x.throw = none → x.claim = none → x.locks = [] →
            t.plant.yard.point? k = some { x with
              state := match det with | some pos => pos.state | none => .failed
              detected := det }) ∧
          ((full.tracks.map (·.1)).Nodup → ∀ k c x, (k, c) ∈ full.tracks → s.env.layout.linkOf (.track k) = some n →
            s.plant.yard.track? k = some x → (t.plant.yard.track? k).map Track.state = some c.state) ∧
          ((full.signals.map SignalFieldState.signal).Nodup → ∀ g x, g ∈ full.signals →
            s.env.layout.linkOf (.signal g.signal) = some n → s.plant.yard.signal? g.signal = some x →
            (t.plant.yard.signal? g.signal).map (fun y => (y.reported, y.lamp, y.answered)) =
              some (some g.aspect, some g.lamp, some g.number)) ∧
          ∀ m y, s.env.layout.linkOf (.signal m) = some n → (∀ g ∈ full.signals, g.signal ≠ m) →
            t.plant.yard.signal? m = some y → y.lamp = none)) ∧
    (l.state ≠ .training ∨ number ≠ n → s.plant.settledAlready →
      exec (.trainingAnswer n number full) s = .next
        { s with plant := s.plant.mapLink n fun x => { x with bad := 0, lastGood := s.plant.now } })

/-- Supervision of a link (Table 11-1): a bad frame on an UP link counts, and the third in a row takes it DOWN; the end of the
window takes a TRAINING link DOWN, silence takes an UP link DOWN, and the wait over puts a DOWN link in TRAINING; a TRAINING or UP
link is polled 250 ms after the last frame sent on it. The elements of a link that leaves UP become UNKNOWN, and outside a session
no slot with an element on it stays OPEN. That a command of an expiry brings the time base to it is the model's choice (log 2), as
are polls in TRAINING (log 7); that the points of a link that leaves UP have no detected position either is log 39. -/
def Obligations.LinkSupervision : Prop :=
  ∀ (s : State) (n : Nat) (l : Link), s.plant.link? n = some l →
    let moved := fun (c : Instr) (due : Nat) (st : LinkState) (window : Nat) =>
      ∃ t l', exec c s = .next t ∧ s.plantOnly t ∧ t.plant.link? n = some l' ∧ l'.state = st ∧
        t.plant.now = max s.plant.now due ∧ l'.windowEnd = t.plant.now + window ∧
        (l.state = .up → s.plant.quiet s.env → t.plant.elementsLost s.env n ∧
          (s.plant.session = none → ∀ m sl r, t.plant.slot? m = some sl → sl.state = .opened →
            s.env.slotRoute sl = some r → s.env.layout.routeUsesLink r n = false))
    (l.state = .up → l.bad < 2 → s.plant.settledAlready →
      exec (.linkBadFrame n) s = .next { s with plant := s.plant.mapLink n fun x => { x with bad := l.bad + 1 } }) ∧
    (l.state = .up → 2 ≤ l.bad → moved (.linkBadFrame n) s.plant.now .down 10000) ∧
    (l.state = .training → moved (.trainingTimeout n) l.windowEnd .down 10000) ∧
    (l.state = .up → moved (.linkSilenceTimeout n) (l.lastGood + 1000) .down 10000) ∧
    (l.state = .down → moved (.downWaitExpiry n) l.windowEnd .training 5000) ∧
    (l.state = .training ∨ l.state = .up → s.plant.settledAlready →
      exec (.linkPoll n) s = .next
        { s with plant := (s.plant.advance (l.lastSent + 250 - s.plant.now)).send n .poll })

/-- REHEARSAL BEGIN from the desk, in MANUAL with a quiescent yard: HOLD-SAFE goes to every UP link, and a session at the rate
given stands on copies of the real tables, in which nothing is UNKNOWN; the real tables do not change. The time base at 0 is the
model's choice (log 15), the list of frames sent its own (log 7), and the copy of a signal without a report counts as a current
report by log 43. -/
def Obligations.RehearsalBeginCopies : Prop :=
  ∀ (s : State) (tag : Byte) (rate : Nat), s.hears .desk .rehearsalBegin → s.store.held = true → s.plant.session = none →
    s.plant.mode = .manual → s.plant.hold = none → s.plant.quiescent = true → (rate = 1 ∨ rate = 10) →
    ∃ t c, exec (.rehearsalBegin .desk tag rate) s = .next t ∧
      (s.answered .desk TelegramKind.rehearsalBegin.code tag .done).plantOnly t ∧ t.plant.session = some c ∧
      c.rate = rate ∧ c.base = 0 ∧ c.drives = [] ∧ c.runs = [] ∧
      c.copy = { s.plant.yard.copy with runOut := c.copy.runOut } ∧
      (∀ x ∈ c.copy.points, x.state ≠ .unknown) ∧ (∀ x ∈ c.copy.tracks, x.state ≠ .unknown) ∧
      (∀ g ∈ c.copy.signals, g.reported.isSome = true ∧ g.lamp.isSome = true) ∧
      t.plant.yard = s.plant.yard ∧ t.plant.queue = [] ∧ t.plant.slots = s.plant.slots ∧
      t.plant.linkSent = s.plant.linkSent ++
        (s.plant.links.filter fun l => l.state == .up).map fun l => (l.number, LinkFrame.holdSafe)

/-- REHEARSAL END from the desk: the copies, the session's slots and its queue are gone, RELEASE-SAFE goes to every UP link, the
mode is MANUAL, the reply carries the summary of the session, and of the real yard only the run-out list is worked afresh. The
moment at which BLOCKED entries are counted is the model's choice (log 27): after the queue has been emptied, which changes no
count when it is empty. The list of frames sent is the model's own (log 7). -/
def Obligations.RehearsalEndDiscards : Prop :=
  ∀ (s : State) (tag : Byte) (c : Session), s.hears .desk .rehearsalEnd → s.plant.session = some c →
    let k := TelegramKind.rehearsalEnd.code
    ∃ t x, Plant.endSummary s.env (s.dispatch .desk k tag).plant = some x ∧ exec (.rehearsalEnd .desk tag) s = .next t ∧
      (s.answered .desk k tag (.doneWith (.summary x))).plantOnly t ∧
      x.departures = c.departures ∧ x.arrivals = c.arrivals ∧ x.faults = c.faults ∧ x.clock = c.copy.clock ∧
      (s.plant.queue = [] →
        x.missed = c.missed ∧ x.blocked = (c.copy.runOut.filter fun e => e.state == .blocked).length) ∧
      t.plant.session = none ∧ t.plant.slots = freeSlots ∧ t.plant.queue = [] ∧ t.plant.mode = .manual ∧
      t.plant.yard = { s.plant.yard with runOut := t.plant.yard.runOut } ∧
      t.plant.linkSent = s.plant.linkSent ++
        (s.plant.links.filter fun l => l.state == .up).map fun l => (l.number, LinkFrame.releaseSafe)

/-- REHEARSAL ACT INJECT and REMOVE of OBSTRUCT, NO_DETECT and READ_FAIL make the injection stand and end it, and change nothing
else. -/
def Obligations.InjectionsStandAndEnd : Prop :=
  ∀ (s : State) (port : Port) (tag : Byte) (c : Session), s.hears port .rehearsalAct → s.plant.session = some c →
    s.plant.settledAlready →
    let u := s.answered port TelegramKind.rehearsalAct.code tag .done
    let gives := fun (i : Instr) (c' : Session) => exec i s = .next { u with plant := { u.plant with session := some c' } }
    (∀ n, (s.store.layout.point? n).isSome = true →
      gives (.rehearsalActInject port tag .obstruct (some (.point n)))
        { c with obstruct := if n ∈ c.obstruct then c.obstruct else c.obstruct ++ [n] } ∧
      gives (.rehearsalActRemove port tag .obstruct (some (.point n)))
        { c with obstruct := c.obstruct.filter fun x => x != n } ∧
      gives (.rehearsalActInject port tag .noDetect (some (.point n)))
        { c with noDetect := if n ∈ c.noDetect then c.noDetect else c.noDetect ++ [n] } ∧
      gives (.rehearsalActRemove port tag .noDetect (some (.point n)))
        { c with noDetect := c.noDetect.filter fun x => x != n }) ∧
    gives (.rehearsalActInject port tag .readFail none) { c with readFail := true } ∧
    gives (.rehearsalActRemove port tag .readFail none) { c with readFail := false }

/-- REHEARSAL ACT OCCUPY, CLEAR and INJECT DISTURB on a copy section of a yard in which no slot is in use and no throw runs: the
copy section takes the state, no other section and no point changes, and the real yard is untouched. REMOVE DISTURB gives CLEAR
where no run stands. -/
def Obligations.RehearsalSectionTakesState : Prop :=
  ∀ (s : State) (port : Port) (tag : Byte) (c : Session) (n : Nat) (x : Track), s.hears port .rehearsalAct →
    s.plant.session = some c → s.plant.quiet s.env → s.plant.still → (s.store.layout.track? n).isSome = true →
    c.copy.track? n = some x →
    let u := s.answered port TelegramKind.rehearsalAct.code tag .done
    let takes := fun (i : Instr) (st : TrackState) =>
      ∃ t c', exec i s = .next t ∧ u.plantOnly t ∧ t.plant.session = some c' ∧
        c'.copy.track? n = some { x with state := st } ∧
        (∀ m, m ≠ n → c'.copy.track? m = c.copy.track? m) ∧
        c'.copy = { c.copy with tracks := c'.copy.tracks, faults := c'.copy.faults } ∧
        t.plant.yard = s.plant.yard ∧ t.plant.slots = s.plant.slots
    (n ∉ c.disturb →
      takes (.rehearsalActOccupy port tag (.track n)) .occupied ∧
      takes (.rehearsalActClear port tag (.track n)) .clear ∧
      takes (.rehearsalActInject port tag .disturb (some (.track n))) .disturbed) ∧
    (n ∈ c.disturb → c.runs = [] → takes (.rehearsalActRemove port tag .disturb (some (.track n))) .clear)

/-- The simulated field: a simulated detection that falls due completes a throw of the desk on the copy of the point, and a step
of a simulated run that falls due counts, sets when the next falls due, and occupies its section; the real yard is untouched. The
moments of the simulated field follow log 15 and log 2, durations log 47. -/
def Obligations.SimulatedField : Prop :=
  ∀ (s : State) (c : Session), s.plant.session = some c → s.plant.quiet s.env → s.plant.used = [] → 1 ≤ c.rate →
    (∀ n d x th, findBy SimDrive.point n c.drives = some d → d.obstructed = false → d.undetected = false → d.point = n →
      d.startedAt + 3000 ≤ c.base → c.copy.point? n = some x → x.state = .moving → x.throw = some th →
      th.target = d.target → x.claim = none → x.attempts = 0 →
      ∃ t c', exec (.simDriveDetection n) s = .next t ∧ s.plantOnly t ∧ t.plant.session = some c' ∧
        c'.copy.point? n = some { x with
          state := th.target.state, detected := some th.target, throw := none
          lastDuration := (c.base - th.startedAt) / 100, lastPeak := th.peak } ∧
        findBy SimDrive.point n c'.drives = none ∧
        t.plant.yard = { s.plant.yard with clock := t.plant.yard.clock }) ∧
    ∀ k r due, findBy SimRun.number k c.runs = some r → r.due = some due → due ≤ c.base →
      r.step + 1 < r.lastStep → (∀ x ∈ c.copy.points, x.throw = none) →
      ∃ t c', exec (.simTramStep k) s = .next t ∧ s.plantOnly t ∧ t.plant.session = some c' ∧
        findBy SimRun.number k c'.runs = some { r with step := r.step + 1, due := some (c.base + 5000) } ∧
        (∀ tr, r.tracks[r.step]? = some tr → tr ∉ c.disturb → r.tracks.Nodup →
          (c'.copy.track? tr).map Track.state = (c.copy.track? tr).map fun _ => TrackState.occupied) ∧
        t.plant.yard = { s.plant.yard with clock := t.plant.yard.clock }

/-! ## Reports from the field (chapters 2 and 3) -/

/-- A detection report for an idle point, on its own UP link. Without lock or claim, and with no slot in use, a position is taken
as the point's state, and no detection makes it FAILED; the other points, the sections and the signals do not change. Locked, the
locked position is taken without fault; no detection makes the point FAILED, its locks kept, and an OPEN slot that requires it
reverts; the opposite position is taken, the locks kept, and freezes the yard with POINT_TRAILED. That a report is taken from the
point's own UP link is log 10; that a point FAILED already records no second loss is log 48; the freeze before the change is
passed on is log 12. -/
def Obligations.IdlePointTakesDetection : Prop :=
  ∀ (s : State) (n link : Nat) (x : Point), s.plant.linkUp link = true → s.env.layout.linkOf (.point n) = some link →
    s.plant.yard.point? n = some x → x.throw = none → s.plant.quiet s.env →
    (x.locks = [] → x.claim = none → s.plant.used = [] →
      (∀ pos : Position,
        ∃ t, exec (.pointDetectionReport link n (some pos)) s = .next t ∧ s.plantOnly t ∧
          t.plant.yard.point? n = some { x with state := pos.state, detected := some pos } ∧
          (∀ m, m ≠ n → t.plant.yard.point? m = s.plant.yard.point? m) ∧
          t.plant.yard = { s.plant.yard with points := t.plant.yard.points } ∧ t.plant.slots = s.plant.slots) ∧
      ∃ t, exec (.pointDetectionReport link n none) s = .next t ∧ s.plantOnly t ∧
        t.plant.yard.point? n = some { x with state := .failed, detected := none } ∧
        (∀ m, m ≠ n → t.plant.yard.point? m = s.plant.yard.point? m) ∧
        t.plant.yard = { s.plant.yard with points := t.plant.yard.points, faults := t.plant.yard.faults } ∧
        (x.state ≠ .failed → s.plant.yard.faults.records.length < 16 →
          ∃ r, t.plant.yard.faults.records = s.plant.yard.faults.records ++ [r] ∧ r.kind = .detectionLost ∧
            r.element = some (.point n) ∧ r.number = s.plant.yard.faults.next)) ∧
    ∀ held : Position, x.lockedAt = some held →
      (∃ t, exec (.pointDetectionReport link n (some held)) s = .next t ∧ s.plantOnly t ∧
        t.plant.yard.point? n = some { x with state := held.state, detected := some held } ∧
        (∀ m, m ≠ n → t.plant.yard.point? m = s.plant.yard.point? m) ∧
        t.plant.yard.faults = s.plant.yard.faults ∧ t.plant.freeze = s.plant.freeze) ∧
      (∃ t, exec (.pointDetectionReport link n none) s = .next t ∧ s.plantOnly t ∧
        t.plant.yard.point? n = some { x with state := .failed, detected := none } ∧
        (∀ m, m ≠ n → t.plant.yard.point? m = s.plant.yard.point? m) ∧ t.plant.freeze = s.plant.freeze ∧
        (x.state ≠ .failed → s.plant.yard.faults.records.length < 16 →
          ∃ r, t.plant.yard.faults.records = s.plant.yard.faults.records ++ [r] ∧ r.kind = .detectionLost ∧
            r.element = some (.point n)) ∧
        (x.state ≠ .failed → s.plant.session = none → ∀ m sl r, s.plant.slot? m = some sl → sl.state = .opened →
          s.env.slotRoute sl = some r → (r.position? n).isSome = true →
          ∃ sl', t.plant.slot? m = some sl' ∧ sl'.state = .locked)) ∧
      (s.plant.session = none → s.plant.freeze = none →
        ∃ t context, exec (.pointDetectionReport link n (some held.opposite)) s = .next t ∧ s.plantOnly t ∧
          t.plant.yard.point? n = some { x with state := held.opposite.state, detected := some held.opposite } ∧
          t.plant.freeze =
            some ⟨⟨s.plant.yard.faults.next, .pointTrailed, some (.point n), s.plant.yard.clock.time, context,
              some (.throwData held 0 0 0)⟩, [], false⟩ ∧
          (∀ k ∈ x.locks, (∀ k' ∈ x.locks, k.slot ≤ k'.slot) →
            context = (s.plant.slot? k.slot).bind fun sl => sl.route.map fun r => ⟨r, sl.state, sl.tram⟩) ∧
          t.plant.yard.allAtStop ∧ t.plant.yard.noThrow ∧ t.plant.noneOpen ∧ t.plant.timersStopped)

/-- A throw supervised, on the point's own UP link. A sample of a point that is MOVING or RESTORING is taken by R26: the peak,
the obstruction run and the open-circuit run are those that R26 gives, and while neither run is complete nothing else of the
yard changes. A complete obstruction run drives a MOVING point back, and ends the throw of a RESTORING one; a complete
open-circuit run ends the throw. The restore position detected while RESTORING is a retry pause or the end of the throw, and
the target detected while MOVING its end: the last throw that a SETTING slot claims locks the point, and the slot is LOCKED,
or OPEN when the opening conditions hold. A drive-stopped report changes nothing. A simulated sample is taken by R26 on the
copy. A further drive waits for a report of the position it seeks by log 63, durations are in whole units of 0.1 s by log 47,
reports are taken by log 10, and the moments of simulated samples follow log 15 and log 2. -/
def Obligations.SamplesAndThrowEnds : Prop :=
  let sampled := fun (th : Throw) (v : Nat) =>
    { th with
      samples := th.samples + 1
      peak := if th.peak < v then v else th.peak
      obstructionRun := if th.obstruction < v then th.obstructionRun + 1 else 0
      openRun := if 6 ≤ th.samples + 1 ∧ v < th.openCircuit then th.openRun + 1 else 0 }
  ∀ (s : State), s.plant.settledAlready →
    (∀ n link x th, s.plant.linkUp link = true → s.env.layout.linkOf (.point n) = some link →
      s.plant.yard.point? n = some x → x.throw = some th →
      let ends := fun (c : Instr) (x' : Point) (st : PointState) (peak : Nat) (record : Option FaultKind) =>
        x.claim = none → s.plant.used = [] → s.plant.quiet s.env →
        let duration := (s.plant.now - th.startedAt) / 100
        ∃ t, exec c s = .next t ∧ s.plantOnly t ∧
          t.plant.yard.point? n = some { x' with
            state := st, throw := none, lastDuration := duration, lastPeak := peak } ∧
          (∀ m, m ≠ n → t.plant.yard.point? m = s.plant.yard.point? m) ∧
          t.plant.yard = { s.plant.yard with points := t.plant.yard.points, faults := t.plant.yard.faults } ∧
          (record = none → t.plant.yard.faults = s.plant.yard.faults) ∧
          ∀ k, record = some k → s.plant.yard.faults.records.length < 16 →
            ∃ r, t.plant.yard.faults.records = s.plant.yard.faults.records ++ [r] ∧ r.kind = k ∧
              r.element = some (.point n) ∧ r.check = some (.throwData th.target x'.attempts peak duration)
      let rest : PointState := match x.detected with | some pos => pos.state | none => .failed
      (∀ v, x.state = .moving ∨ x.state = .restoring →
        let th' := sampled th v
        (th'.obstructionRun < 5 → th'.openRun < 10 →
          exec (.currentSample link n v) s = .next
            { s with plant := (s.plant.goodFrame link).mapPoint .real n fun y => { y with throw := some th' } }) ∧
        (x.state = .moving → 5 ≤ th'.obstructionRun → Plant.mayDrive s.env s.plant .real x = true →
          exec (.currentSample link n v) s = .next
            { s with
              plant :=
                ((s.plant.goodFrame link).mapPoint .real n fun y =>
                  { y with
                    state := .restoring
                    throw := some { th' with
                      driveAt := s.plant.now, samples := 0, obstructionRun := 0, openRun := 0, pauseEnd := none } }).send
                  link (.drive n th.target.opposite) }) ∧
        (x.state = .restoring → 5 ≤ th'.obstructionRun →
          ends (.currentSample link n v) x rest th'.peak (some .throwObstructed)) ∧
        (th'.obstructionRun < 5 → 10 ≤ th'.openRun →
          ends (.currentSample link n v) x rest th'.peak (some .motorOpen))) ∧
      (x.state = .restoring →
        let back := th.target.opposite
        let x' := { x with detected := some back, attempts := x.attempts + 1 }
        (x.attempts + 1 ≤ th.retries →
          exec (.pointDetectionReport link n (some back)) s = .next
            { s with
              plant := (s.plant.goodFrame link).mapPoint .real n fun y =>
                { y with
                  state := .retryWait, detected := some back, attempts := x.attempts + 1
                  throw := some { th with pauseEnd := some (s.plant.now + 1000) } } }) ∧
        (th.retries < x.attempts + 1 →
          ends (.pointDetectionReport link n (some back)) x' back.state th.peak (some .throwObstructed))) ∧
      (x.state = .moving →
        ends (.pointDetectionReport link n (some th.target)) { x with detected := some th.target } th.target.state th.peak
          (if x.attempts = 0 then none else some .throwRetried))) ∧
    (∀ n link x th m sl r, s.plant.linkUp link = true → s.env.layout.linkOf (.point n) = some link →
      s.plant.yard.point? n = some x → x.state = .moving → x.throw = some th → s.plant.session = none → s.plant.quiet s.env →
      x.claim = some m → s.plant.used = [sl] → s.plant.slot? m = some sl → sl.state = .setting →
      sl.claimed = [(n, th.target)] → s.env.slotRoute sl = some r → r.position? n = some th.target →
      ∃ t y, exec (.pointDetectionReport link n (some th.target)) s = .next t ∧ s.plantOnly t ∧
        t.plant.yard.point? n = some { x with
          state := th.target.state, detected := some th.target, throw := none, claim := none
          locks := x.locks ++ [⟨m, if r.points.any (fun z => z.1 == n) then .route else .flank, th.target⟩]
          lastDuration := (s.plant.now - th.startedAt) / 100, lastPeak := th.peak } ∧
        t.plant.slot? m = some y ∧ y.claimed = [] ∧ y.timer = .off ∧
        (let opens :=
          (∀ z ∈ r.required, ∃ w, t.plant.yard.point? z.1 = some w ∧ w.state = z.2.state ∧ (∃ k ∈ w.locks, k.slot = m) ∧
            s.plant.elementUp s.env .real (.point z.1) = true) ∧
          (∀ j ∈ r.tracks, Plant.trackClear s.env s.plant .real j = true) ∧ s.plant.elementUp s.env .real (.signal r.signal) = true ∧
          (s.plant.yard.signal? r.signal).any (fun g => g.lamp == some .ok) = true ∧ s.plant.freeze = none ∧
          sl.aspectHeld = false
         (opens → y.state = .opened ∧ ∀ g, t.plant.yard.signal? r.signal = some g → g.commanded = .proceed) ∧
         (¬opens → y.state = .locked))) ∧
    (∀ n link, s.plant.linkUp link = true →
      exec (.driveStopped link n) s = .next { s with plant := s.plant.goodFrame link }) ∧
    ∀ c n d x th, s.plant.session = some c → findBy SimDrive.point n c.drives = some d → d.point = n → 1 ≤ c.rate →
      d.startedAt + 100 * (d.samples + 1) ≤ c.base → c.copy.point? n = some x → x.state = .moving ∨ x.state = .restoring →
      x.throw = some th →
      let th' := sampled th (if d.obstructed then 255 else 10)
      th'.obstructionRun < 5 → th'.openRun < 10 →
      ∃ t c', exec (.simCurrentSample n) s = .next t ∧ s.plantOnly t ∧ t.plant.session = some c' ∧
        c'.drives = updBy SimDrive.point n (fun y => { y with samples := y.samples + 1 }) c.drives ∧
        c'.copy = { c.copy with
          points := updBy Point.number n (fun y => { y with throw := some th' }) c.copy.points, clock := c'.copy.clock } ∧
        t.plant.yard = { s.plant.yard with clock := t.plant.yard.clock }

/-- A section report that changes the state of a section over which no throw runs. Unreserved: the section takes the condition, it
is reported, a disturbance is recorded, and no other section, no point and no signal changes. First of the route of a slot that is
OPEN, LOCKED or APPROACH_TIMING, and found OCCUPIED or DISTURBED: the slot is ENTERED with the section marked and its timer
discarded, its entry signal is at STOP, and unless it was OPEN PASSED_AT_STOP is recorded. First of the route of a SETTING slot,
and found so: PASSED_AT_STOP is recorded and the slot is abandoned. A later one of an OPEN slot's route, found so: the slot
reverts to LOCKED with its entry signal at STOP. One of an ENTERED or EMERGENCY_TIMING slot's route, found so beyond a section not
yet marked: SEQUENCE is recorded, and an ENTERED slot stops releasing. Next to be released of a slot that is ENTERED or
EMERGENCY_TIMING, marked and found CLEAR: the reservation and the locks over it are dropped, and with the last section the slot is
FREE. That a report is taken from the section's own UP link is log 10, and that a disturbance is recorded for a section that no
slot reserves is log 78. -/
def Obligations.SectionTakesCondition : Prop :=
  ∀ (s : State) (k link : Nat) (x : Track) (c : Occupancy), s.plant.linkUp link = true →
    s.env.layout.linkOf (.track k) = some link → s.plant.yard.track? k = some x → x.state ≠ c.state → s.plant.quiet s.env →
    let unthrown := ∀ d ∈ s.store.layout.points, d.track = k → ∀ y, s.plant.yard.point? d.number = some y → y.throw = none
    (x.reservedBy = none → unthrown →
      ∃ t, exec (.sectionReport link k c) s = .next t ∧ s.plantOnly t ∧
        t.plant.yard.track? k = some { x with state := c.state } ∧
        (∀ m, m ≠ k → t.plant.yard.track? m = s.plant.yard.track? m) ∧
        t.plant.yard = { s.plant.yard with tracks := t.plant.yard.tracks, faults := t.plant.yard.faults } ∧
        (c ≠ .disturbed →
          t.plant = (((s.plant.goodFrame link).mapTrack .real k fun y => { y with state := c.state }).report .real
            (.sectionChanged k x.state c.state none)).unmarked) ∧
        (c = .disturbed → t.plant.yard.faults.holdsOpen .sectionDisturbed (.track k) = true ∨
          16 ≤ s.plant.yard.faults.records.length)) ∧
    ∀ (n : Nat) (sl : Slot) (r : RouteRecord), s.plant.session = none → s.plant.freeze = none → x.reservedBy = some n →
      s.plant.slot? n = some sl → s.env.slotRoute sl = some r → r.tracks.Nodup →
      let occurs := fun (x' : Slot) (more : State → Prop) =>
        ∃ t, exec (.sectionReport link k c) s = .next t ∧ s.plantOnly t ∧ t.plant.slot? n = some x' ∧
          (∀ m, m ≠ n → t.plant.slot? m = s.plant.slot? m) ∧ t.plant.freeze = none ∧ more t
      let sectionOnly := fun (t : State) =>
        t.plant.yard.track? k = some { x with state := c.state } ∧
        (∀ m, m ≠ k → t.plant.yard.track? m = s.plant.yard.track? m)
      let stopped := fun (t : State) => ∀ g, t.plant.yard.signal? r.signal = some g → g.commanded = .stop
      let records := fun (t : State) (kind : FaultKind) (e : FaultElement) (check : Option CheckData) =>
        s.plant.yard.faults.records.length < 16 →
          ∃ f ∈ t.plant.yard.faults.records, f.number = s.plant.yard.faults.next ∧ f.kind = kind ∧ f.element = some e ∧
            f.check = check ∧ f.context = sl.route.map fun m => ⟨m, sl.state, sl.tram⟩
      (∀ rest, c ≠ .clear → r.tracks = k :: rest → (∀ j ∈ rest, s.plant.yard.trackClear j = true) → unthrown →
        sl.released = 0 → sl.state = .opened ∨ sl.state = .locked ∨ sl.state = .approachTiming →
        occurs { sl with state := .entered, timer := .off, marks := sl.marks.set 0 true } fun t =>
          sectionOnly t ∧ stopped t ∧
          t.plant.yard = { s.plant.yard with
            tracks := t.plant.yard.tracks, signals := t.plant.yard.signals, faults := t.plant.yard.faults } ∧
          (sl.state = .opened → c = .occupied → t.plant.yard.faults = s.plant.yard.faults) ∧
          (sl.state ≠ .opened → records t .passedAtStop (.signal r.signal) none)) ∧
      (∀ rest, c ≠ .clear → r.tracks = k :: rest → unthrown → sl.released = 0 → sl.state = .setting →
        occurs (Slot.free n) fun t =>
          t.plant.yard.track? k = some { x with state := c.state, reservedBy := none } ∧
          (∀ m, m ≠ k → t.plant.yard.track? m = (s.plant.yard.track? m).map fun y =>
            if y.reservedBy = some n then { y with reservedBy := none } else y) ∧
          t.plant.yard.points = s.plant.yard.points.map (fun y =>
            { y with claim := if y.claim = some n then none else y.claim, locks := y.locks.filter fun l => l.slot != n }) ∧
          t.plant.yard.signals = s.plant.yard.signals ∧ records t .passedAtStop (.signal r.signal) none) ∧
      (∀ first rest, c ≠ .clear → r.tracks = first :: rest → k ∈ rest → unthrown → sl.released = 0 → sl.state = .opened →
        occurs { sl with state := .locked } fun t =>
          sectionOnly t ∧ stopped t ∧ (∀ m, m ≠ r.signal → t.plant.yard.signal? m = s.plant.yard.signal? m) ∧
          t.plant.yard = { s.plant.yard with
            tracks := t.plant.yard.tracks, signals := t.plant.yard.signals, faults := t.plant.yard.faults } ∧
          (c = .occupied → t.plant.yard.faults = s.plant.yard.faults)) ∧
      (∀ i j u, c ≠ .clear → r.tracks[i]? = some u → r.tracks[j]? = some k → i < j →
        sl.marks = List.replicate i true ++ List.replicate (r.tracks.length - i) false → sl.released ≤ j → unthrown →
        sl.state = .entered ∨ sl.state = .emergencyTiming →
        occurs
          { sl with
            state := if sl.state = .entered then .releaseStopped else .emergencyTiming, marks := sl.marks.set j true }
          fun t =>
            sectionOnly t ∧
            t.plant.yard = { s.plant.yard with tracks := t.plant.yard.tracks, faults := t.plant.yard.faults } ∧
            records t .sequence (.track k) (some (.sequence u k))) ∧
      (c = .clear → r.tracks[sl.released]? = some k → sl.marks.getD sl.released false = true →
        sl.state = .entered ∨ sl.state = .emergencyTiming →
        ∃ t, exec (.sectionReport link k c) s = .next t ∧ s.plantOnly t ∧
          (∀ m, m ≠ n → t.plant.slot? m = s.plant.slot? m) ∧
          t.plant.yard.track? k = some { x with state := .clear, reservedBy := none } ∧
          (∀ y ∈ t.plant.yard.points, (∃ pos, (y.number, pos) ∈ r.points) →
            (s.env.layout.point? y.number).map PointRecord.track = some k → ∀ l ∈ y.locks, l.slot ≠ n) ∧
          (∀ next, r.tracks[sl.released + 1]? = some next → Plant.trackClear s.env s.plant .real next = false →
            t.plant.slot? n = some { sl with released := sl.released + 1 } ∧
            ∀ m, m ≠ k → t.plant.yard.track? m = s.plant.yard.track? m) ∧
          (r.tracks[sl.released + 1]? = none →
            t.plant.slot? n = some (Slot.free n) ∧ (∀ y ∈ t.plant.yard.tracks, y.reservedBy ≠ some n) ∧
            ∀ y ∈ t.plant.yard.points, y.claim ≠ some n ∧ ∀ l ∈ y.locks, l.slot ≠ n))

/-- A signal report. Of an entry signal that no slot of the real yard uses: whatever the aspect, lamp and number, they are written,
and wrong aspect raised goes to no at a current report that agrees with the command or shows STOP, and no other signal changes;
but for a wrong aspect the yard is not frozen, and without a new lamp failure or an aspect loss no fault is recorded; a current
PROCEED on a signal commanded STOP freezes the yard with WRONG_ASPECT. Of the entry signal, commanded PROCEED, of an OPEN slot: at
an aspect loss the slot reverts to LOCKED with its aspect held, and at a new lamp failure it reverts; STOP is commanded under the
next command number, and ASPECT_LOST or LAMP_FAILED is recorded with the route context of the slot. That a report is taken from
the signal's own UP link is log 10; that WRONG_ASPECT carries no route context is log 58. -/
def Obligations.SignalReportIsTaken : Prop :=
  ∀ (s : State) (n link : Nat) (g : Signal) (a : Aspect) (lamp : Lamp) (number : Nat), s.plant.linkUp link = true →
    s.env.layout.linkOf (.signal n) = some link → s.plant.yard.signal? n = some g → s.plant.quiet s.env →
    let current := number = g.command
    let wrong := current ∧ a = .proceed ∧ g.commanded = .stop ∧ g.wrongRaised = false
    let lost := current ∧ a = .stop ∧ g.commanded = .proceed ∧ lamp = .ok
    let failed := lamp = .failed ∧ g.lamp ≠ some .failed
    let unused := s.plant.session = none → s.plant.slotOfSignal s.env n = none
    (unused → ¬wrong →
      ∃ t, exec (.signalReport link n a lamp number) s = .next t ∧ s.plantOnly t ∧
        t.plant.yard.signal? n = some { g with
          reported := some a, lamp := some lamp, answered := some number
          wrongRaised := if current ∧ (a = g.commanded ∨ a = .stop) then false else g.wrongRaised } ∧
        (∀ m, m ≠ n → t.plant.yard.signal? m = s.plant.yard.signal? m) ∧
        t.plant.yard = { s.plant.yard with signals := t.plant.yard.signals, faults := t.plant.yard.faults } ∧
        t.plant.freeze = s.plant.freeze ∧ (¬lost → ¬failed → t.plant.yard.faults = s.plant.yard.faults) ∧
        (s.plant.yard.faults.records.length < 16 →
          (lost → t.plant.yard.faults.records.map (fun r => (r.kind, r.element)) =
            s.plant.yard.faults.records.map (fun r => (r.kind, r.element)) ++ [(.aspectLost, some (.signal n))]) ∧
          (failed → s.plant.yard.faults.holdsOpen .lampFailed (.signal n) = false →
            t.plant.yard.faults.records.map (fun r => (r.kind, r.element)) =
              s.plant.yard.faults.records.map (fun r => (r.kind, r.element)) ++ [(.lampFailed, some (.signal n))]))) ∧
    (unused → wrong → s.plant.freeze = none →
      ∃ t g', exec (.signalReport link n a lamp number) s = .next t ∧ s.plantOnly t ∧
        (∃ more, t.plant.freeze =
          some ⟨⟨s.plant.yard.faults.next, .wrongAspect, some (.signal n), s.plant.yard.clock.time, none,
            some (.aspects .stop .proceed)⟩, more, false⟩) ∧
        t.plant.yard.signal? n = some g' ∧ g'.reported = some .proceed ∧ g'.lamp = some lamp ∧
        g'.answered = some number ∧ g'.wrongRaised = true ∧ t.plant.yard.allAtStop) ∧
    ∀ sl : Slot, s.plant.session = none → s.plant.slotOfSignal s.env n = some sl → s.plant.slot? sl.number = some sl →
      sl.state = .opened → g.commanded = .proceed →
      let reverts := fun (held : Bool) (kind : FaultKind) (check : Option CheckData) =>
        ∃ t, exec (.signalReport link n a lamp number) s = .next t ∧ s.plantOnly t ∧
          t.plant.slot? sl.number = some { sl with state := .locked, aspectHeld := held } ∧
          (∀ m, m ≠ sl.number → t.plant.slot? m = s.plant.slot? m) ∧
          t.plant.yard.signal? n = some { g with
            commanded := .stop, command := if g.command < 255 then g.command + 1 else 0, reported := some a
            lamp := some lamp, answered := some number, wrongRaised := if current then false else g.wrongRaised } ∧
          (∀ m, m ≠ n → t.plant.yard.signal? m = s.plant.yard.signal? m) ∧
          t.plant.yard = { s.plant.yard with signals := t.plant.yard.signals, faults := t.plant.yard.faults } ∧
          t.plant.freeze = s.plant.freeze ∧
          (s.plant.yard.faults.records.length < 16 →
            kind = .aspectLost ∨ s.plant.yard.faults.holdsOpen kind (.signal n) = false →
            ∃ f, t.plant.yard.faults.records = s.plant.yard.faults.records ++ [f] ∧ f.number = s.plant.yard.faults.next ∧
              f.kind = kind ∧ f.element = some (.signal n) ∧ f.check = check ∧
              f.context = sl.route.map fun m => ⟨m, .opened, sl.tram⟩)
      (lost → reverts true .aspectLost (some (.aspects .proceed .stop))) ∧
      (failed → reverts sl.aspectHeld .lampFailed none)

/-! ## Timers (chapters 2, 4, 5, 6, 9) -/

/-- The throw timers of the real yard, for a point that no slot claims and with no slot in use: at its time limit a drive ends the
throw with the point FAILED and THROW_NO_DETECTION handed on; at the end of the retry pause a point that may be driven is MOVING
again toward the target, its samples and runs afresh. That the command of an expiry brings the time base to it, and that a duration
is in whole units of 0.1 s, are the model's choices (log 2, 47). -/
def Obligations.ThrowTimersFallDue : Prop :=
  ∀ (s : State) (n : Nat) (x : Point) (th : Throw), s.plant.session = none → s.plant.yard.point? n = some x →
    x.throw = some th → x.claim = none → s.plant.used = [] → s.plant.quiet s.env →
    (x.state = .moving ∨ x.state = .restoring →
      let now := max s.plant.now (th.driveAt + 100 * th.timeLimit)
      ∃ t, exec (.driveTimeLimitExpiry n) s = .next t ∧ s.plantOnly t ∧ t.plant.now = now ∧
        t.plant.yard.point? n = some { x with
          state := .failed, throw := none, lastDuration := (now - th.startedAt) / 100, lastPeak := th.peak } ∧
        (s.plant.yard.faults.records.length < 16 →
          ∃ r, t.plant.yard.faults.records = s.plant.yard.faults.records ++ [r] ∧ r.kind = .throwNoDetection ∧
            r.element = some (.point n) ∧
            r.check = some (.throwData th.target x.attempts th.peak ((now - th.startedAt) / 100))) ∧
        (∀ m, m ≠ n → t.plant.yard.point? m = s.plant.yard.point? m)) ∧
    (∀ due link, x.state = .retryWait → th.pauseEnd = some due →
      Plant.mayDrive s.env s.plant .real x = true → s.env.layout.linkOf (.point n) = some link →
      exec (.retryPauseEnd n) s = .next
        { s with
          plant :=
            (((s.plant.advance (due - s.plant.now)).mapPoint .real n fun y =>
              { y with
                state := .moving
                throw := some { th with
                  driveAt := max s.plant.now due, samples := 0, obstructionRun := 0, openRun := 0, pauseEnd := none } }).send
              link (.drive n th.target)).unmarked })

/-- The slot timers: at the setting limit of a SETTING slot, and when the approach release or the emergency release timer of a
slot expires, the slot is FREE, it reserves no section and holds no point, and every other slot is as it was. That the command of
an expiry brings the time base to it is the model's choice (log 2). -/
def Obligations.SlotTimersFreeTheSlot : Prop :=
  ∀ (s : State) (n : Nat) (sl : Slot) (due : Nat), s.plant.slot? n = some sl → sl.timer = .running due →
    s.plant.quiet s.env →
    let freed := fun (c : Instr) =>
      ∃ t, exec c s = .next t ∧ s.plantOnly t ∧ t.plant.slot? n = some (Slot.free n) ∧
        (∀ x ∈ t.plant.current.tracks, x.reservedBy ≠ some n) ∧
        (∀ x ∈ t.plant.current.points, x.claim ≠ some n ∧ ∀ k ∈ x.locks, k.slot ≠ n) ∧
        ∀ m, m ≠ n → t.plant.slot? m = s.plant.slot? m
    (sl.state = .setting → freed (.settingLimitExpiry n)) ∧
    (sl.state = .approachTiming → freed (.approachReleaseExpiry n)) ∧
    (sl.state = .emergencyTiming → freed (.emergencyReleaseExpiry n))

/-- The part's other timers: an expired request leaves the queue with REQUEST DROPPED; the restart hold ends with HOLD ENDED, and in
AUTOMATIC a round follows it, in which the head of the arrival queue, with no reserved road and nothing that carries it, reserves
the first road of its ranking, and the request for the lowest-numbered unbarred route to that road, of origin AUTOMATIC, joins the
queue, where the scan leaves it when it has to wait; the plan port falls silent with PLAN SILENT on the desk port; a clock that is
SET reaches its next minute at second 0. That the command of an expiry brings the time base to it is the model's choice (log 2);
scans and rounds follow log 5. -/
def Obligations.PartTimersFallDue : Prop :=
  ∀ (s : State),
    (∀ r due, s.plant.queue = [r] → r.expiry = due → r.stopped = none → r.origin ≠ .automatic →
      Plant.automatic s.env s.plant = false → s.plant.session = none →
      exec (.requestExpiry r.route) s = .next
        { s with
          plant := (({ s.plant.advance (due - s.plant.now) with queue := [] } : Plant).report .real
            (.requestDropped none r.route r.origin r.tram r.bypass .expired none)).unmarked }) ∧
    (∀ due, s.plant.hold = some due → s.plant.queue = [] → s.plant.mode = .manual →
      exec .restartHoldEnd s = .next
        { s with
          plant := (({ s.plant.advance (due - s.plant.now) with hold := none } : Plant).report .real .holdEnded).unmarked }) ∧
    (∀ due a rest c more r, s.plant.hold = some due → s.plant.queue = [] → s.plant.mode = .automatic →
      s.store.held = true → s.plant.freeze = none → s.plant.session = none → s.plant.silence.silent = false →
      s.plant.yard.clock.set = false → 1 ≤ s.settings.stored.bypassLimit →
      s.plant.yard.arrivals = a :: rest → a.reserved = none → s.plant.tramCarried a.tram = false →
      Plant.allocate s.env s.plant ⟨a.tram, a.length, a.cls, a.departure⟩ = c :: more →
      Yard.unbarredRoute s.env s.plant.yard .g1 (.berth (.road c.road)) = some r →
      s.store.layout.route? r.number = some r →
      Plant.requestRefusal s.env { s.plant with hold := none } true r.number (some a.tram) = none →
      Plant.takeTest s.env { s.plant with hold := none } r (some a.tram) = .wait →
      let now := max s.plant.now due
      ∃ t, exec .restartHoldEnd s = .next t ∧ s.plantOnly t ∧
        t.plant = { (s.plant.advance (due - s.plant.now)).unmarked with
          hold := none, noBerthTram := none, planOut := t.plant.planOut, deskOut := t.plant.deskOut
          yard := { s.plant.yard with arrivals := s.plant.yard.arrivals.map fun b =>
            if b.tram = a.tram then { b with reserved := some c.road } else b }
          queue := [{ route := r.number, origin := .automatic, tram := some a.tram, queuedAt := now, queuedTime := none,
                      expiry := now + 1000 * s.settings.stored.requestExpiry, stopped := none, bypass := 0,
                      held := false }] }) ∧
    (s.plant.silence.limit.isSome = true → s.plant.silence.silent = false →
      let p := s.plant.advance (s.plant.silence.deadline - s.plant.now)
      exec .planSilenceTimeout s = .next
        { s with
          plant := ({ p with silence := { p.silence with silent := true } } : Plant).reportOn .desk false .planSilent }) ∧
    ∀ m sec past, s.plant.yard.clock = ⟨true, m, sec, past⟩ → m < 2159 → sec < 60 → past < 1000 → s.plant.quiet s.env →
      ∃ t, exec (.minuteChange .real) s = .next t ∧ s.plantOnly t ∧ t.plant.yard.clock = ⟨true, m + 1, 0, 0⟩ ∧
        t.plant.now = s.plant.now + (60000 - (1000 * sec + past)) ∧
        t.plant.yard = { s.plant.yard with clock := ⟨true, m + 1, 0, 0⟩, runOut := t.plant.yard.runOut } ∧
        t.plant.yard.runOut.map RunOut.tram = s.plant.yard.runOut.map RunOut.tram

/-- The clock of the copies reaches its next minute at second 0, the rehearsal time base running at the rate of the session, and
of the copies only the clock and the run-out list change. That the command of a minute change brings the time base to it is the
model's choice (log 2). -/
def Obligations.CopyClockReachesMinute : Prop :=
  ∀ (s : State) (c : Session) (m sec past : Nat), s.plant.session = some c → 1 ≤ c.rate → c.rate ≤ 10 →
    c.copy.clock = ⟨true, m, sec, past⟩ → m < 2159 → sec < 60 → past < 1000 → s.plant.quiet s.env →
    ∃ t c', exec (.minuteChange .copy) s = .next t ∧ s.plantOnly t ∧ t.plant.session = some c' ∧
      c'.copy.clock.set = true ∧ c'.copy.clock.minute = m + 1 ∧ c'.copy.clock.second = 0 ∧ c'.copy.clock.past < 10 ∧
      c'.base = c.base + c.rate * (t.plant.now - s.plant.now) ∧
      c'.copy = { c.copy with clock := c'.copy.clock, runOut := c'.copy.runOut } ∧
      t.plant.yard = { s.plant.yard with clock := t.plant.yard.clock }

/-! ## Resets (0.8, chapters 1 to 12) -/

/-- A cold reset, whatever the checks it finds: the layout, the settings and the register come from the most recent good copy or
their defaults, the conflict table from the layout; every element is UNKNOWN, unlocked and at STOP; every slot is FREE, the queue,
the arrival queue, the run-out list and the fault list are empty, the clock is UNSET, every berth road is UNVERIFIED, and the
restart hold runs for the option in force. The checks as an operand, and the time base at 0, are the model's choice (log 3, 6). -/
def Obligations.ColdResetStarts : Prop :=
  ∀ (s : State) (c : StoreChecks),
    ∃ t, exec (.coldReset c) s = .next t ∧ t.pending = s.pending ∧ t.resetCause = .cold ∧ t.resetDue = false ∧
      t.planIn = .reset ∧ t.deskIn = .reset ∧
      (let kept := s.store.kept.load c.layout
       let v := kept.latest.getD ⟨0xFFFFFFFF, .empty⟩
       t.store = ⟨v.identity, v.layout, deriveConflicts v.layout.routes, none, kept⟩) ∧
      t.settings.stored = (s.settings.kept.load c.settings).latest.getD .default ∧
      t.settings.inForce = t.settings.stored.options ∧
      t.register.trams = (s.register.kept.load c.register).latest.getD [] ∧
      (∀ x ∈ t.plant.yard.points, x.state = .unknown ∧ x.claim = none ∧ x.locks = [] ∧ x.throw = none) ∧
      (∀ x ∈ t.plant.yard.tracks, x.state = .unknown ∧ x.reservedBy = none) ∧
      (∀ g ∈ t.plant.yard.signals, g.commanded = .stop ∧ g.reported = none ∧ g.lamp = none) ∧
      (∀ r ∈ t.plant.yard.roads, r.verified = false) ∧
      t.plant.yard.points.map Point.number = t.store.layout.points.map PointRecord.number ∧
      t.plant.yard.tracks.map Track.number = t.store.layout.tracks.map TrackRecord.number ∧
      t.plant.yard.signals.map Signal.number = t.store.layout.signals.map SignalRecord.number ∧
      t.plant.yard.arrivals = [] ∧ t.plant.yard.expectations = [] ∧ t.plant.yard.runOut = [] ∧
      t.plant.yard.faults = ⟨[], 1, false⟩ ∧ t.plant.yard.clock = .unset ∧
      t.plant.slots = freeSlots ∧ t.plant.queue = [] ∧ t.plant.session = none ∧ t.plant.freeze = none ∧
      t.plant.permit = none ∧ t.plant.hold = some (1000 * t.settings.inForce.hold) ∧
      t.plant.mode = modeOf t.settings.inForce ∧ ∀ l ∈ t.plant.links, l.state = .training

/-- A warm reset, by the input or by a RESET telegram that has been answered: the layout, the conflict table, the register and the
clock stay; the start-up options are read; every element is UNKNOWN, unlocked and at STOP; every slot is FREE, the queue is empty,
a session and a freeze are ended, every permit is closed, and the restart hold runs for the option in force. -/
def Obligations.WarmResetStarts : Prop :=
  ∀ (s : State) (c : Instr) (cause : ResetCause),
    (c = .warmResetInput ∧ cause = .warmInput) ∨ (c = .warmResetTelegram ∧ cause = .warmTelegram ∧ s.resetDue = true) →
    ∃ t, exec c s = .next t ∧ t.pending = s.pending ∧ t.resetCause = cause ∧ t.resetDue = false ∧
      t.planIn = .reset ∧ t.deskIn = .reset ∧ t.store = { s.store with staging := none } ∧ t.register = s.register ∧
      t.settings = { s.settings with inForce := s.settings.stored.options } ∧
      (∀ x ∈ t.plant.yard.points, x.state = .unknown ∧ x.claim = none ∧ x.locks = [] ∧ x.throw = none) ∧
      (∀ x ∈ t.plant.yard.tracks, x.state = .unknown ∧ x.reservedBy = none) ∧
      (∀ g ∈ t.plant.yard.signals, g.commanded = .stop ∧ g.reported = none ∧ g.lamp = none) ∧
      (∀ r ∈ t.plant.yard.roads, (∃ e ∈ r.entries, e.state ≠ .stabled) → r.verified = false) ∧
      t.plant.yard.points.map (fun x => (x.number, x.outOfUse)) = s.plant.yard.points.map (fun x => (x.number, x.outOfUse)) ∧
      t.plant.yard.roads.map (fun r => (r.berth, r.entries)) = s.plant.yard.roads.map (fun r => (r.berth, r.entries)) ∧
      (∀ a ∈ t.plant.yard.arrivals, a.reserved = none) ∧ t.plant.yard.clock = s.plant.yard.clock ∧
      t.plant.slots = freeSlots ∧ t.plant.queue = [] ∧ t.plant.session = none ∧ t.plant.freeze = none ∧
      t.plant.permit = none ∧ t.plant.hold = some (s.plant.now + 1000 * s.settings.stored.restartHold) ∧
      t.plant.mode = modeOf s.settings.stored.options ∧ ∀ l ∈ t.plant.links, l.state = .training
end

