-- ==== Sys2Proof/Laws/State.lean ====
section
/-! SUPPORT. What each update of the plant and of the state leaves as it was: one lemma for each field and update. -/

namespace Sys2Proof.Machine

open Sys2Proof

/-! ## Sending halves and reports -/

@[simp] theorem Plant.mapOut_now (p : Plant) (o : Port) (f : PortOut → PortOut) : (p.mapOut o f).now = p.now := by cases o <;> rfl
@[simp] theorem Plant.mapOut_links (p : Plant) (o : Port) (f : PortOut → PortOut) : (p.mapOut o f).links = p.links := by cases o <;> rfl
@[simp] theorem Plant.mapOut_linkSent (p : Plant) (o : Port) (f : PortOut → PortOut) : (p.mapOut o f).linkSent = p.linkSent := by cases o <;> rfl
@[simp] theorem Plant.mapOut_yard (p : Plant) (o : Port) (f : PortOut → PortOut) : (p.mapOut o f).yard = p.yard := by cases o <;> rfl
@[simp] theorem Plant.mapOut_session (p : Plant) (o : Port) (f : PortOut → PortOut) : (p.mapOut o f).session = p.session := by cases o <;> rfl
@[simp] theorem Plant.mapOut_slots (p : Plant) (o : Port) (f : PortOut → PortOut) : (p.mapOut o f).slots = p.slots := by cases o <;> rfl
@[simp] theorem Plant.mapOut_queue (p : Plant) (o : Port) (f : PortOut → PortOut) : (p.mapOut o f).queue = p.queue := by cases o <;> rfl
@[simp] theorem Plant.mapOut_mode (p : Plant) (o : Port) (f : PortOut → PortOut) : (p.mapOut o f).mode = p.mode := by cases o <;> rfl
@[simp] theorem Plant.mapOut_freeze (p : Plant) (o : Port) (f : PortOut → PortOut) : (p.mapOut o f).freeze = p.freeze := by cases o <;> rfl
@[simp] theorem Plant.mapOut_hold (p : Plant) (o : Port) (f : PortOut → PortOut) : (p.mapOut o f).hold = p.hold := by cases o <;> rfl
@[simp] theorem Plant.mapOut_permit (p : Plant) (o : Port) (f : PortOut → PortOut) : (p.mapOut o f).permit = p.permit := by cases o <;> rfl
@[simp] theorem Plant.mapOut_silence (p : Plant) (o : Port) (f : PortOut → PortOut) : (p.mapOut o f).silence = p.silence := by cases o <;> rfl
@[simp] theorem Plant.mapOut_noBerthTram (p : Plant) (o : Port) (f : PortOut → PortOut) : (p.mapOut o f).noBerthTram = p.noBerthTram := by cases o <;> rfl
@[simp] theorem Plant.mapOut_keptRoads (p : Plant) (o : Port) (f : PortOut → PortOut) : (p.mapOut o f).keptRoads = p.keptRoads := by cases o <;> rfl
@[simp] theorem Plant.mapOut_keptOutOfUse (p : Plant) (o : Port) (f : PortOut → PortOut) : (p.mapOut o f).keptOutOfUse = p.keptOutOfUse := by cases o <;> rfl
@[simp] theorem Plant.mapOut_wantScan (p : Plant) (o : Port) (f : PortOut → PortOut) : (p.mapOut o f).wantScan = p.wantScan := by cases o <;> rfl
@[simp] theorem Plant.mapOut_wantRound (p : Plant) (o : Port) (f : PortOut → PortOut) : (p.mapOut o f).wantRound = p.wantRound := by cases o <;> rfl
@[simp] theorem Plant.reportOn_now (p : Plant) (o : Port) (m : Bool) (b : ReportBody) : (p.reportOn o m b).now = p.now := by cases o <;> rfl
@[simp] theorem Plant.reportOn_links (p : Plant) (o : Port) (m : Bool) (b : ReportBody) : (p.reportOn o m b).links = p.links := by cases o <;> rfl
@[simp] theorem Plant.reportOn_linkSent (p : Plant) (o : Port) (m : Bool) (b : ReportBody) : (p.reportOn o m b).linkSent = p.linkSent := by cases o <;> rfl
@[simp] theorem Plant.reportOn_yard (p : Plant) (o : Port) (m : Bool) (b : ReportBody) : (p.reportOn o m b).yard = p.yard := by cases o <;> rfl
@[simp] theorem Plant.reportOn_session (p : Plant) (o : Port) (m : Bool) (b : ReportBody) : (p.reportOn o m b).session = p.session := by cases o <;> rfl
@[simp] theorem Plant.reportOn_slots (p : Plant) (o : Port) (m : Bool) (b : ReportBody) : (p.reportOn o m b).slots = p.slots := by cases o <;> rfl
@[simp] theorem Plant.reportOn_queue (p : Plant) (o : Port) (m : Bool) (b : ReportBody) : (p.reportOn o m b).queue = p.queue := by cases o <;> rfl
@[simp] theorem Plant.reportOn_mode (p : Plant) (o : Port) (m : Bool) (b : ReportBody) : (p.reportOn o m b).mode = p.mode := by cases o <;> rfl
@[simp] theorem Plant.reportOn_freeze (p : Plant) (o : Port) (m : Bool) (b : ReportBody) : (p.reportOn o m b).freeze = p.freeze := by cases o <;> rfl
@[simp] theorem Plant.reportOn_hold (p : Plant) (o : Port) (m : Bool) (b : ReportBody) : (p.reportOn o m b).hold = p.hold := by cases o <;> rfl
@[simp] theorem Plant.reportOn_permit (p : Plant) (o : Port) (m : Bool) (b : ReportBody) : (p.reportOn o m b).permit = p.permit := by cases o <;> rfl
@[simp] theorem Plant.reportOn_silence (p : Plant) (o : Port) (m : Bool) (b : ReportBody) : (p.reportOn o m b).silence = p.silence := by cases o <;> rfl
@[simp] theorem Plant.reportOn_noBerthTram (p : Plant) (o : Port) (m : Bool) (b : ReportBody) : (p.reportOn o m b).noBerthTram = p.noBerthTram := by cases o <;> rfl
@[simp] theorem Plant.reportOn_keptRoads (p : Plant) (o : Port) (m : Bool) (b : ReportBody) : (p.reportOn o m b).keptRoads = p.keptRoads := by cases o <;> rfl
@[simp] theorem Plant.reportOn_keptOutOfUse (p : Plant) (o : Port) (m : Bool) (b : ReportBody) : (p.reportOn o m b).keptOutOfUse = p.keptOutOfUse := by cases o <;> rfl
@[simp] theorem Plant.reportOn_wantScan (p : Plant) (o : Port) (m : Bool) (b : ReportBody) : (p.reportOn o m b).wantScan = p.wantScan := by cases o <;> rfl
@[simp] theorem Plant.reportOn_wantRound (p : Plant) (o : Port) (m : Bool) (b : ReportBody) : (p.reportOn o m b).wantRound = p.wantRound := by cases o <;> rfl
@[simp] theorem Plant.report_now (p : Plant) (sd : Side) (b : ReportBody) : (p.report sd b).now = p.now := by simp [Plant.report]
@[simp] theorem Plant.report_links (p : Plant) (sd : Side) (b : ReportBody) : (p.report sd b).links = p.links := by simp [Plant.report]
@[simp] theorem Plant.report_linkSent (p : Plant) (sd : Side) (b : ReportBody) : (p.report sd b).linkSent = p.linkSent := by simp [Plant.report]
@[simp] theorem Plant.report_yard (p : Plant) (sd : Side) (b : ReportBody) : (p.report sd b).yard = p.yard := by simp [Plant.report]
@[simp] theorem Plant.report_session (p : Plant) (sd : Side) (b : ReportBody) : (p.report sd b).session = p.session := by simp [Plant.report]
@[simp] theorem Plant.report_slots (p : Plant) (sd : Side) (b : ReportBody) : (p.report sd b).slots = p.slots := by simp [Plant.report]
@[simp] theorem Plant.report_queue (p : Plant) (sd : Side) (b : ReportBody) : (p.report sd b).queue = p.queue := by simp [Plant.report]
@[simp] theorem Plant.report_mode (p : Plant) (sd : Side) (b : ReportBody) : (p.report sd b).mode = p.mode := by simp [Plant.report]
@[simp] theorem Plant.report_freeze (p : Plant) (sd : Side) (b : ReportBody) : (p.report sd b).freeze = p.freeze := by simp [Plant.report]
@[simp] theorem Plant.report_hold (p : Plant) (sd : Side) (b : ReportBody) : (p.report sd b).hold = p.hold := by simp [Plant.report]
@[simp] theorem Plant.report_permit (p : Plant) (sd : Side) (b : ReportBody) : (p.report sd b).permit = p.permit := by simp [Plant.report]
@[simp] theorem Plant.report_silence (p : Plant) (sd : Side) (b : ReportBody) : (p.report sd b).silence = p.silence := by simp [Plant.report]
@[simp] theorem Plant.report_noBerthTram (p : Plant) (sd : Side) (b : ReportBody) : (p.report sd b).noBerthTram = p.noBerthTram := by simp [Plant.report]
@[simp] theorem Plant.report_keptRoads (p : Plant) (sd : Side) (b : ReportBody) : (p.report sd b).keptRoads = p.keptRoads := by simp [Plant.report]
@[simp] theorem Plant.report_keptOutOfUse (p : Plant) (sd : Side) (b : ReportBody) : (p.report sd b).keptOutOfUse = p.keptOutOfUse := by simp [Plant.report]
@[simp] theorem Plant.report_wantScan (p : Plant) (sd : Side) (b : ReportBody) : (p.report sd b).wantScan = p.wantScan := by simp [Plant.report]
@[simp] theorem Plant.report_wantRound (p : Plant) (sd : Side) (b : ReportBody) : (p.report sd b).wantRound = p.wantRound := by simp [Plant.report]

/-! ## Frames on the links -/

@[simp] theorem Plant.send_now (p : Plant) (n : Nat) (f : LinkFrame) : (p.send n f).now = p.now := rfl
@[simp] theorem Plant.send_planOut (p : Plant) (n : Nat) (f : LinkFrame) : (p.send n f).planOut = p.planOut := rfl
@[simp] theorem Plant.send_deskOut (p : Plant) (n : Nat) (f : LinkFrame) : (p.send n f).deskOut = p.deskOut := rfl
@[simp] theorem Plant.send_yard (p : Plant) (n : Nat) (f : LinkFrame) : (p.send n f).yard = p.yard := rfl
@[simp] theorem Plant.send_session (p : Plant) (n : Nat) (f : LinkFrame) : (p.send n f).session = p.session := rfl
@[simp] theorem Plant.send_slots (p : Plant) (n : Nat) (f : LinkFrame) : (p.send n f).slots = p.slots := rfl
@[simp] theorem Plant.send_queue (p : Plant) (n : Nat) (f : LinkFrame) : (p.send n f).queue = p.queue := rfl
@[simp] theorem Plant.send_mode (p : Plant) (n : Nat) (f : LinkFrame) : (p.send n f).mode = p.mode := rfl
@[simp] theorem Plant.send_freeze (p : Plant) (n : Nat) (f : LinkFrame) : (p.send n f).freeze = p.freeze := rfl
@[simp] theorem Plant.send_hold (p : Plant) (n : Nat) (f : LinkFrame) : (p.send n f).hold = p.hold := rfl
@[simp] theorem Plant.send_permit (p : Plant) (n : Nat) (f : LinkFrame) : (p.send n f).permit = p.permit := rfl
@[simp] theorem Plant.send_silence (p : Plant) (n : Nat) (f : LinkFrame) : (p.send n f).silence = p.silence := rfl
@[simp] theorem Plant.send_noBerthTram (p : Plant) (n : Nat) (f : LinkFrame) : (p.send n f).noBerthTram = p.noBerthTram := rfl
@[simp] theorem Plant.send_keptRoads (p : Plant) (n : Nat) (f : LinkFrame) : (p.send n f).keptRoads = p.keptRoads := rfl
@[simp] theorem Plant.send_keptOutOfUse (p : Plant) (n : Nat) (f : LinkFrame) : (p.send n f).keptOutOfUse = p.keptOutOfUse := rfl
@[simp] theorem Plant.send_wantScan (p : Plant) (n : Nat) (f : LinkFrame) : (p.send n f).wantScan = p.wantScan := rfl
@[simp] theorem Plant.send_wantRound (p : Plant) (n : Nat) (f : LinkFrame) : (p.send n f).wantRound = p.wantRound := rfl
@[simp] theorem Plant.sendUp_now (p : Plant) (n : Nat) (f : LinkFrame) : (p.sendUp n f).now = p.now := by unfold Plant.sendUp; split <;> rfl
@[simp] theorem Plant.sendUp_planOut (p : Plant) (n : Nat) (f : LinkFrame) : (p.sendUp n f).planOut = p.planOut := by unfold Plant.sendUp; split <;> rfl
@[simp] theorem Plant.sendUp_deskOut (p : Plant) (n : Nat) (f : LinkFrame) : (p.sendUp n f).deskOut = p.deskOut := by unfold Plant.sendUp; split <;> rfl
@[simp] theorem Plant.sendUp_yard (p : Plant) (n : Nat) (f : LinkFrame) : (p.sendUp n f).yard = p.yard := by unfold Plant.sendUp; split <;> rfl
@[simp] theorem Plant.sendUp_session (p : Plant) (n : Nat) (f : LinkFrame) : (p.sendUp n f).session = p.session := by unfold Plant.sendUp; split <;> rfl
@[simp] theorem Plant.sendUp_slots (p : Plant) (n : Nat) (f : LinkFrame) : (p.sendUp n f).slots = p.slots := by unfold Plant.sendUp; split <;> rfl
@[simp] theorem Plant.sendUp_queue (p : Plant) (n : Nat) (f : LinkFrame) : (p.sendUp n f).queue = p.queue := by unfold Plant.sendUp; split <;> rfl
@[simp] theorem Plant.sendUp_mode (p : Plant) (n : Nat) (f : LinkFrame) : (p.sendUp n f).mode = p.mode := by unfold Plant.sendUp; split <;> rfl
@[simp] theorem Plant.sendUp_freeze (p : Plant) (n : Nat) (f : LinkFrame) : (p.sendUp n f).freeze = p.freeze := by unfold Plant.sendUp; split <;> rfl
@[simp] theorem Plant.sendUp_hold (p : Plant) (n : Nat) (f : LinkFrame) : (p.sendUp n f).hold = p.hold := by unfold Plant.sendUp; split <;> rfl
@[simp] theorem Plant.sendUp_permit (p : Plant) (n : Nat) (f : LinkFrame) : (p.sendUp n f).permit = p.permit := by unfold Plant.sendUp; split <;> rfl
@[simp] theorem Plant.sendUp_silence (p : Plant) (n : Nat) (f : LinkFrame) : (p.sendUp n f).silence = p.silence := by unfold Plant.sendUp; split <;> rfl
@[simp] theorem Plant.sendUp_noBerthTram (p : Plant) (n : Nat) (f : LinkFrame) : (p.sendUp n f).noBerthTram = p.noBerthTram := by unfold Plant.sendUp; split <;> rfl
@[simp] theorem Plant.sendUp_keptRoads (p : Plant) (n : Nat) (f : LinkFrame) : (p.sendUp n f).keptRoads = p.keptRoads := by unfold Plant.sendUp; split <;> rfl
@[simp] theorem Plant.sendUp_keptOutOfUse (p : Plant) (n : Nat) (f : LinkFrame) : (p.sendUp n f).keptOutOfUse = p.keptOutOfUse := by unfold Plant.sendUp; split <;> rfl
@[simp] theorem Plant.sendUp_wantScan (p : Plant) (n : Nat) (f : LinkFrame) : (p.sendUp n f).wantScan = p.wantScan := by unfold Plant.sendUp; split <;> rfl
@[simp] theorem Plant.sendUp_wantRound (p : Plant) (n : Nat) (f : LinkFrame) : (p.sendUp n f).wantRound = p.wantRound := by unfold Plant.sendUp; split <;> rfl
@[simp] theorem Plant.mapLink_now (p : Plant) (n : Nat) (f : Link → Link) : (p.mapLink n f).now = p.now := rfl
@[simp] theorem Plant.mapLink_planOut (p : Plant) (n : Nat) (f : Link → Link) : (p.mapLink n f).planOut = p.planOut := rfl
@[simp] theorem Plant.mapLink_deskOut (p : Plant) (n : Nat) (f : Link → Link) : (p.mapLink n f).deskOut = p.deskOut := rfl
@[simp] theorem Plant.mapLink_linkSent (p : Plant) (n : Nat) (f : Link → Link) : (p.mapLink n f).linkSent = p.linkSent := rfl
@[simp] theorem Plant.mapLink_yard (p : Plant) (n : Nat) (f : Link → Link) : (p.mapLink n f).yard = p.yard := rfl
@[simp] theorem Plant.mapLink_session (p : Plant) (n : Nat) (f : Link → Link) : (p.mapLink n f).session = p.session := rfl
@[simp] theorem Plant.mapLink_slots (p : Plant) (n : Nat) (f : Link → Link) : (p.mapLink n f).slots = p.slots := rfl
@[simp] theorem Plant.mapLink_queue (p : Plant) (n : Nat) (f : Link → Link) : (p.mapLink n f).queue = p.queue := rfl
@[simp] theorem Plant.mapLink_mode (p : Plant) (n : Nat) (f : Link → Link) : (p.mapLink n f).mode = p.mode := rfl
@[simp] theorem Plant.mapLink_freeze (p : Plant) (n : Nat) (f : Link → Link) : (p.mapLink n f).freeze = p.freeze := rfl
@[simp] theorem Plant.mapLink_hold (p : Plant) (n : Nat) (f : Link → Link) : (p.mapLink n f).hold = p.hold := rfl
@[simp] theorem Plant.mapLink_permit (p : Plant) (n : Nat) (f : Link → Link) : (p.mapLink n f).permit = p.permit := rfl
@[simp] theorem Plant.mapLink_silence (p : Plant) (n : Nat) (f : Link → Link) : (p.mapLink n f).silence = p.silence := rfl
@[simp] theorem Plant.mapLink_noBerthTram (p : Plant) (n : Nat) (f : Link → Link) : (p.mapLink n f).noBerthTram = p.noBerthTram := rfl
@[simp] theorem Plant.mapLink_keptRoads (p : Plant) (n : Nat) (f : Link → Link) : (p.mapLink n f).keptRoads = p.keptRoads := rfl
@[simp] theorem Plant.mapLink_keptOutOfUse (p : Plant) (n : Nat) (f : Link → Link) : (p.mapLink n f).keptOutOfUse = p.keptOutOfUse := rfl
@[simp] theorem Plant.mapLink_wantScan (p : Plant) (n : Nat) (f : Link → Link) : (p.mapLink n f).wantScan = p.wantScan := rfl
@[simp] theorem Plant.mapLink_wantRound (p : Plant) (n : Nat) (f : Link → Link) : (p.mapLink n f).wantRound = p.wantRound := rfl
@[simp] theorem Plant.goodFrame_now (p : Plant) (n : Nat) : (p.goodFrame n).now = p.now := rfl
@[simp] theorem Plant.goodFrame_planOut (p : Plant) (n : Nat) : (p.goodFrame n).planOut = p.planOut := rfl
@[simp] theorem Plant.goodFrame_deskOut (p : Plant) (n : Nat) : (p.goodFrame n).deskOut = p.deskOut := rfl
@[simp] theorem Plant.goodFrame_linkSent (p : Plant) (n : Nat) : (p.goodFrame n).linkSent = p.linkSent := rfl
@[simp] theorem Plant.goodFrame_yard (p : Plant) (n : Nat) : (p.goodFrame n).yard = p.yard := rfl
@[simp] theorem Plant.goodFrame_session (p : Plant) (n : Nat) : (p.goodFrame n).session = p.session := rfl
@[simp] theorem Plant.goodFrame_slots (p : Plant) (n : Nat) : (p.goodFrame n).slots = p.slots := rfl
@[simp] theorem Plant.goodFrame_queue (p : Plant) (n : Nat) : (p.goodFrame n).queue = p.queue := rfl
@[simp] theorem Plant.goodFrame_mode (p : Plant) (n : Nat) : (p.goodFrame n).mode = p.mode := rfl
@[simp] theorem Plant.goodFrame_freeze (p : Plant) (n : Nat) : (p.goodFrame n).freeze = p.freeze := rfl
@[simp] theorem Plant.goodFrame_hold (p : Plant) (n : Nat) : (p.goodFrame n).hold = p.hold := rfl
@[simp] theorem Plant.goodFrame_permit (p : Plant) (n : Nat) : (p.goodFrame n).permit = p.permit := rfl
@[simp] theorem Plant.goodFrame_silence (p : Plant) (n : Nat) : (p.goodFrame n).silence = p.silence := rfl
@[simp] theorem Plant.goodFrame_noBerthTram (p : Plant) (n : Nat) : (p.goodFrame n).noBerthTram = p.noBerthTram := rfl
@[simp] theorem Plant.goodFrame_keptRoads (p : Plant) (n : Nat) : (p.goodFrame n).keptRoads = p.keptRoads := rfl
@[simp] theorem Plant.goodFrame_keptOutOfUse (p : Plant) (n : Nat) : (p.goodFrame n).keptOutOfUse = p.keptOutOfUse := rfl
@[simp] theorem Plant.goodFrame_wantScan (p : Plant) (n : Nat) : (p.goodFrame n).wantScan = p.wantScan := rfl
@[simp] theorem Plant.goodFrame_wantRound (p : Plant) (n : Nat) : (p.goodFrame n).wantRound = p.wantRound := rfl

/-! ## Tables of a side -/

@[simp] theorem Plant.setYard_now (p : Plant) (sd : Side) (y : Yard) : (p.setYard sd y).now = p.now := by unfold Plant.setYard; split; rfl; split <;> rfl
@[simp] theorem Plant.setYard_planOut (p : Plant) (sd : Side) (y : Yard) : (p.setYard sd y).planOut = p.planOut := by unfold Plant.setYard; split; rfl; split <;> rfl
@[simp] theorem Plant.setYard_deskOut (p : Plant) (sd : Side) (y : Yard) : (p.setYard sd y).deskOut = p.deskOut := by unfold Plant.setYard; split; rfl; split <;> rfl
@[simp] theorem Plant.setYard_links (p : Plant) (sd : Side) (y : Yard) : (p.setYard sd y).links = p.links := by unfold Plant.setYard; split; rfl; split <;> rfl
@[simp] theorem Plant.setYard_linkSent (p : Plant) (sd : Side) (y : Yard) : (p.setYard sd y).linkSent = p.linkSent := by unfold Plant.setYard; split; rfl; split <;> rfl
@[simp] theorem Plant.setYard_slots (p : Plant) (sd : Side) (y : Yard) : (p.setYard sd y).slots = p.slots := by unfold Plant.setYard; split; rfl; split <;> rfl
@[simp] theorem Plant.setYard_queue (p : Plant) (sd : Side) (y : Yard) : (p.setYard sd y).queue = p.queue := by unfold Plant.setYard; split; rfl; split <;> rfl
@[simp] theorem Plant.setYard_mode (p : Plant) (sd : Side) (y : Yard) : (p.setYard sd y).mode = p.mode := by unfold Plant.setYard; split; rfl; split <;> rfl
@[simp] theorem Plant.setYard_freeze (p : Plant) (sd : Side) (y : Yard) : (p.setYard sd y).freeze = p.freeze := by unfold Plant.setYard; split; rfl; split <;> rfl
@[simp] theorem Plant.setYard_hold (p : Plant) (sd : Side) (y : Yard) : (p.setYard sd y).hold = p.hold := by unfold Plant.setYard; split; rfl; split <;> rfl
@[simp] theorem Plant.setYard_permit (p : Plant) (sd : Side) (y : Yard) : (p.setYard sd y).permit = p.permit := by unfold Plant.setYard; split; rfl; split <;> rfl
@[simp] theorem Plant.setYard_silence (p : Plant) (sd : Side) (y : Yard) : (p.setYard sd y).silence = p.silence := by unfold Plant.setYard; split; rfl; split <;> rfl
@[simp] theorem Plant.setYard_noBerthTram (p : Plant) (sd : Side) (y : Yard) : (p.setYard sd y).noBerthTram = p.noBerthTram := by unfold Plant.setYard; split; rfl; split <;> rfl
@[simp] theorem Plant.setYard_keptRoads (p : Plant) (sd : Side) (y : Yard) : (p.setYard sd y).keptRoads = p.keptRoads := by unfold Plant.setYard; split; rfl; split <;> rfl
@[simp] theorem Plant.setYard_keptOutOfUse (p : Plant) (sd : Side) (y : Yard) : (p.setYard sd y).keptOutOfUse = p.keptOutOfUse := by unfold Plant.setYard; split; rfl; split <;> rfl
@[simp] theorem Plant.setYard_wantScan (p : Plant) (sd : Side) (y : Yard) : (p.setYard sd y).wantScan = p.wantScan := by unfold Plant.setYard; split; rfl; split <;> rfl
@[simp] theorem Plant.setYard_wantRound (p : Plant) (sd : Side) (y : Yard) : (p.setYard sd y).wantRound = p.wantRound := by unfold Plant.setYard; split; rfl; split <;> rfl
@[simp] theorem Plant.mapYard_now (p : Plant) (sd : Side) (f : Yard → Yard) : (p.mapYard sd f).now = p.now := by simp [Plant.mapYard]
@[simp] theorem Plant.mapYard_planOut (p : Plant) (sd : Side) (f : Yard → Yard) : (p.mapYard sd f).planOut = p.planOut := by simp [Plant.mapYard]
@[simp] theorem Plant.mapYard_deskOut (p : Plant) (sd : Side) (f : Yard → Yard) : (p.mapYard sd f).deskOut = p.deskOut := by simp [Plant.mapYard]
@[simp] theorem Plant.mapYard_links (p : Plant) (sd : Side) (f : Yard → Yard) : (p.mapYard sd f).links = p.links := by simp [Plant.mapYard]
@[simp] theorem Plant.mapYard_linkSent (p : Plant) (sd : Side) (f : Yard → Yard) : (p.mapYard sd f).linkSent = p.linkSent := by simp [Plant.mapYard]
@[simp] theorem Plant.mapYard_slots (p : Plant) (sd : Side) (f : Yard → Yard) : (p.mapYard sd f).slots = p.slots := by simp [Plant.mapYard]
@[simp] theorem Plant.mapYard_queue (p : Plant) (sd : Side) (f : Yard → Yard) : (p.mapYard sd f).queue = p.queue := by simp [Plant.mapYard]
@[simp] theorem Plant.mapYard_mode (p : Plant) (sd : Side) (f : Yard → Yard) : (p.mapYard sd f).mode = p.mode := by simp [Plant.mapYard]
@[simp] theorem Plant.mapYard_freeze (p : Plant) (sd : Side) (f : Yard → Yard) : (p.mapYard sd f).freeze = p.freeze := by simp [Plant.mapYard]
@[simp] theorem Plant.mapYard_hold (p : Plant) (sd : Side) (f : Yard → Yard) : (p.mapYard sd f).hold = p.hold := by simp [Plant.mapYard]
@[simp] theorem Plant.mapYard_permit (p : Plant) (sd : Side) (f : Yard → Yard) : (p.mapYard sd f).permit = p.permit := by simp [Plant.mapYard]
@[simp] theorem Plant.mapYard_silence (p : Plant) (sd : Side) (f : Yard → Yard) : (p.mapYard sd f).silence = p.silence := by simp [Plant.mapYard]
@[simp] theorem Plant.mapYard_noBerthTram (p : Plant) (sd : Side) (f : Yard → Yard) : (p.mapYard sd f).noBerthTram = p.noBerthTram := by simp [Plant.mapYard]
@[simp] theorem Plant.mapYard_keptRoads (p : Plant) (sd : Side) (f : Yard → Yard) : (p.mapYard sd f).keptRoads = p.keptRoads := by simp [Plant.mapYard]
@[simp] theorem Plant.mapYard_keptOutOfUse (p : Plant) (sd : Side) (f : Yard → Yard) : (p.mapYard sd f).keptOutOfUse = p.keptOutOfUse := by simp [Plant.mapYard]
@[simp] theorem Plant.mapYard_wantScan (p : Plant) (sd : Side) (f : Yard → Yard) : (p.mapYard sd f).wantScan = p.wantScan := by simp [Plant.mapYard]
@[simp] theorem Plant.mapYard_wantRound (p : Plant) (sd : Side) (f : Yard → Yard) : (p.mapYard sd f).wantRound = p.wantRound := by simp [Plant.mapYard]
@[simp] theorem Plant.mapPoint_now (p : Plant) (sd : Side) (n : Nat) (f : Point → Point) : (p.mapPoint sd n f).now = p.now := by simp [Plant.mapPoint]
@[simp] theorem Plant.mapPoint_planOut (p : Plant) (sd : Side) (n : Nat) (f : Point → Point) : (p.mapPoint sd n f).planOut = p.planOut := by simp [Plant.mapPoint]
@[simp] theorem Plant.mapPoint_deskOut (p : Plant) (sd : Side) (n : Nat) (f : Point → Point) : (p.mapPoint sd n f).deskOut = p.deskOut := by simp [Plant.mapPoint]
@[simp] theorem Plant.mapPoint_links (p : Plant) (sd : Side) (n : Nat) (f : Point → Point) : (p.mapPoint sd n f).links = p.links := by simp [Plant.mapPoint]
@[simp] theorem Plant.mapPoint_linkSent (p : Plant) (sd : Side) (n : Nat) (f : Point → Point) : (p.mapPoint sd n f).linkSent = p.linkSent := by simp [Plant.mapPoint]
@[simp] theorem Plant.mapPoint_slots (p : Plant) (sd : Side) (n : Nat) (f : Point → Point) : (p.mapPoint sd n f).slots = p.slots := by simp [Plant.mapPoint]
@[simp] theorem Plant.mapPoint_queue (p : Plant) (sd : Side) (n : Nat) (f : Point → Point) : (p.mapPoint sd n f).queue = p.queue := by simp [Plant.mapPoint]
@[simp] theorem Plant.mapPoint_mode (p : Plant) (sd : Side) (n : Nat) (f : Point → Point) : (p.mapPoint sd n f).mode = p.mode := by simp [Plant.mapPoint]
@[simp] theorem Plant.mapPoint_freeze (p : Plant) (sd : Side) (n : Nat) (f : Point → Point) : (p.mapPoint sd n f).freeze = p.freeze := by simp [Plant.mapPoint]
@[simp] theorem Plant.mapPoint_hold (p : Plant) (sd : Side) (n : Nat) (f : Point → Point) : (p.mapPoint sd n f).hold = p.hold := by simp [Plant.mapPoint]
@[simp] theorem Plant.mapPoint_permit (p : Plant) (sd : Side) (n : Nat) (f : Point → Point) : (p.mapPoint sd n f).permit = p.permit := by simp [Plant.mapPoint]
@[simp] theorem Plant.mapPoint_silence (p : Plant) (sd : Side) (n : Nat) (f : Point → Point) : (p.mapPoint sd n f).silence = p.silence := by simp [Plant.mapPoint]
@[simp] theorem Plant.mapPoint_noBerthTram (p : Plant) (sd : Side) (n : Nat) (f : Point → Point) : (p.mapPoint sd n f).noBerthTram = p.noBerthTram := by simp [Plant.mapPoint]
@[simp] theorem Plant.mapPoint_keptRoads (p : Plant) (sd : Side) (n : Nat) (f : Point → Point) : (p.mapPoint sd n f).keptRoads = p.keptRoads := by simp [Plant.mapPoint]
@[simp] theorem Plant.mapPoint_keptOutOfUse (p : Plant) (sd : Side) (n : Nat) (f : Point → Point) : (p.mapPoint sd n f).keptOutOfUse = p.keptOutOfUse := by simp [Plant.mapPoint]
@[simp] theorem Plant.mapPoint_wantScan (p : Plant) (sd : Side) (n : Nat) (f : Point → Point) : (p.mapPoint sd n f).wantScan = p.wantScan := by simp [Plant.mapPoint]
@[simp] theorem Plant.mapPoint_wantRound (p : Plant) (sd : Side) (n : Nat) (f : Point → Point) : (p.mapPoint sd n f).wantRound = p.wantRound := by simp [Plant.mapPoint]
@[simp] theorem Plant.mapTrack_now (p : Plant) (sd : Side) (n : Nat) (f : Track → Track) : (p.mapTrack sd n f).now = p.now := by simp [Plant.mapTrack]
@[simp] theorem Plant.mapTrack_planOut (p : Plant) (sd : Side) (n : Nat) (f : Track → Track) : (p.mapTrack sd n f).planOut = p.planOut := by simp [Plant.mapTrack]
@[simp] theorem Plant.mapTrack_deskOut (p : Plant) (sd : Side) (n : Nat) (f : Track → Track) : (p.mapTrack sd n f).deskOut = p.deskOut := by simp [Plant.mapTrack]
@[simp] theorem Plant.mapTrack_links (p : Plant) (sd : Side) (n : Nat) (f : Track → Track) : (p.mapTrack sd n f).links = p.links := by simp [Plant.mapTrack]
@[simp] theorem Plant.mapTrack_linkSent (p : Plant) (sd : Side) (n : Nat) (f : Track → Track) : (p.mapTrack sd n f).linkSent = p.linkSent := by simp [Plant.mapTrack]
@[simp] theorem Plant.mapTrack_slots (p : Plant) (sd : Side) (n : Nat) (f : Track → Track) : (p.mapTrack sd n f).slots = p.slots := by simp [Plant.mapTrack]
@[simp] theorem Plant.mapTrack_queue (p : Plant) (sd : Side) (n : Nat) (f : Track → Track) : (p.mapTrack sd n f).queue = p.queue := by simp [Plant.mapTrack]
@[simp] theorem Plant.mapTrack_mode (p : Plant) (sd : Side) (n : Nat) (f : Track → Track) : (p.mapTrack sd n f).mode = p.mode := by simp [Plant.mapTrack]
@[simp] theorem Plant.mapTrack_freeze (p : Plant) (sd : Side) (n : Nat) (f : Track → Track) : (p.mapTrack sd n f).freeze = p.freeze := by simp [Plant.mapTrack]
@[simp] theorem Plant.mapTrack_hold (p : Plant) (sd : Side) (n : Nat) (f : Track → Track) : (p.mapTrack sd n f).hold = p.hold := by simp [Plant.mapTrack]
@[simp] theorem Plant.mapTrack_permit (p : Plant) (sd : Side) (n : Nat) (f : Track → Track) : (p.mapTrack sd n f).permit = p.permit := by simp [Plant.mapTrack]
@[simp] theorem Plant.mapTrack_silence (p : Plant) (sd : Side) (n : Nat) (f : Track → Track) : (p.mapTrack sd n f).silence = p.silence := by simp [Plant.mapTrack]
@[simp] theorem Plant.mapTrack_noBerthTram (p : Plant) (sd : Side) (n : Nat) (f : Track → Track) : (p.mapTrack sd n f).noBerthTram = p.noBerthTram := by simp [Plant.mapTrack]
@[simp] theorem Plant.mapTrack_keptRoads (p : Plant) (sd : Side) (n : Nat) (f : Track → Track) : (p.mapTrack sd n f).keptRoads = p.keptRoads := by simp [Plant.mapTrack]
@[simp] theorem Plant.mapTrack_keptOutOfUse (p : Plant) (sd : Side) (n : Nat) (f : Track → Track) : (p.mapTrack sd n f).keptOutOfUse = p.keptOutOfUse := by simp [Plant.mapTrack]
@[simp] theorem Plant.mapTrack_wantScan (p : Plant) (sd : Side) (n : Nat) (f : Track → Track) : (p.mapTrack sd n f).wantScan = p.wantScan := by simp [Plant.mapTrack]
@[simp] theorem Plant.mapTrack_wantRound (p : Plant) (sd : Side) (n : Nat) (f : Track → Track) : (p.mapTrack sd n f).wantRound = p.wantRound := by simp [Plant.mapTrack]
@[simp] theorem Plant.mapSignal_now (p : Plant) (sd : Side) (n : Nat) (f : Signal → Signal) : (p.mapSignal sd n f).now = p.now := by simp [Plant.mapSignal]
@[simp] theorem Plant.mapSignal_planOut (p : Plant) (sd : Side) (n : Nat) (f : Signal → Signal) : (p.mapSignal sd n f).planOut = p.planOut := by simp [Plant.mapSignal]
@[simp] theorem Plant.mapSignal_deskOut (p : Plant) (sd : Side) (n : Nat) (f : Signal → Signal) : (p.mapSignal sd n f).deskOut = p.deskOut := by simp [Plant.mapSignal]
@[simp] theorem Plant.mapSignal_links (p : Plant) (sd : Side) (n : Nat) (f : Signal → Signal) : (p.mapSignal sd n f).links = p.links := by simp [Plant.mapSignal]
@[simp] theorem Plant.mapSignal_linkSent (p : Plant) (sd : Side) (n : Nat) (f : Signal → Signal) : (p.mapSignal sd n f).linkSent = p.linkSent := by simp [Plant.mapSignal]
@[simp] theorem Plant.mapSignal_slots (p : Plant) (sd : Side) (n : Nat) (f : Signal → Signal) : (p.mapSignal sd n f).slots = p.slots := by simp [Plant.mapSignal]
@[simp] theorem Plant.mapSignal_queue (p : Plant) (sd : Side) (n : Nat) (f : Signal → Signal) : (p.mapSignal sd n f).queue = p.queue := by simp [Plant.mapSignal]
@[simp] theorem Plant.mapSignal_mode (p : Plant) (sd : Side) (n : Nat) (f : Signal → Signal) : (p.mapSignal sd n f).mode = p.mode := by simp [Plant.mapSignal]
@[simp] theorem Plant.mapSignal_freeze (p : Plant) (sd : Side) (n : Nat) (f : Signal → Signal) : (p.mapSignal sd n f).freeze = p.freeze := by simp [Plant.mapSignal]
@[simp] theorem Plant.mapSignal_hold (p : Plant) (sd : Side) (n : Nat) (f : Signal → Signal) : (p.mapSignal sd n f).hold = p.hold := by simp [Plant.mapSignal]
@[simp] theorem Plant.mapSignal_permit (p : Plant) (sd : Side) (n : Nat) (f : Signal → Signal) : (p.mapSignal sd n f).permit = p.permit := by simp [Plant.mapSignal]
@[simp] theorem Plant.mapSignal_silence (p : Plant) (sd : Side) (n : Nat) (f : Signal → Signal) : (p.mapSignal sd n f).silence = p.silence := by simp [Plant.mapSignal]
@[simp] theorem Plant.mapSignal_noBerthTram (p : Plant) (sd : Side) (n : Nat) (f : Signal → Signal) : (p.mapSignal sd n f).noBerthTram = p.noBerthTram := by simp [Plant.mapSignal]
@[simp] theorem Plant.mapSignal_keptRoads (p : Plant) (sd : Side) (n : Nat) (f : Signal → Signal) : (p.mapSignal sd n f).keptRoads = p.keptRoads := by simp [Plant.mapSignal]
@[simp] theorem Plant.mapSignal_keptOutOfUse (p : Plant) (sd : Side) (n : Nat) (f : Signal → Signal) : (p.mapSignal sd n f).keptOutOfUse = p.keptOutOfUse := by simp [Plant.mapSignal]
@[simp] theorem Plant.mapSignal_wantScan (p : Plant) (sd : Side) (n : Nat) (f : Signal → Signal) : (p.mapSignal sd n f).wantScan = p.wantScan := by simp [Plant.mapSignal]
@[simp] theorem Plant.mapSignal_wantRound (p : Plant) (sd : Side) (n : Nat) (f : Signal → Signal) : (p.mapSignal sd n f).wantRound = p.wantRound := by simp [Plant.mapSignal]
@[simp] theorem Plant.mapRunOut_now (p : Plant) (sd : Side) (n : Nat) (f : RunOut → RunOut) : (p.mapRunOut sd n f).now = p.now := by simp [Plant.mapRunOut]
@[simp] theorem Plant.mapRunOut_planOut (p : Plant) (sd : Side) (n : Nat) (f : RunOut → RunOut) : (p.mapRunOut sd n f).planOut = p.planOut := by simp [Plant.mapRunOut]
@[simp] theorem Plant.mapRunOut_deskOut (p : Plant) (sd : Side) (n : Nat) (f : RunOut → RunOut) : (p.mapRunOut sd n f).deskOut = p.deskOut := by simp [Plant.mapRunOut]
@[simp] theorem Plant.mapRunOut_links (p : Plant) (sd : Side) (n : Nat) (f : RunOut → RunOut) : (p.mapRunOut sd n f).links = p.links := by simp [Plant.mapRunOut]
@[simp] theorem Plant.mapRunOut_linkSent (p : Plant) (sd : Side) (n : Nat) (f : RunOut → RunOut) : (p.mapRunOut sd n f).linkSent = p.linkSent := by simp [Plant.mapRunOut]
@[simp] theorem Plant.mapRunOut_slots (p : Plant) (sd : Side) (n : Nat) (f : RunOut → RunOut) : (p.mapRunOut sd n f).slots = p.slots := by simp [Plant.mapRunOut]
@[simp] theorem Plant.mapRunOut_queue (p : Plant) (sd : Side) (n : Nat) (f : RunOut → RunOut) : (p.mapRunOut sd n f).queue = p.queue := by simp [Plant.mapRunOut]
@[simp] theorem Plant.mapRunOut_mode (p : Plant) (sd : Side) (n : Nat) (f : RunOut → RunOut) : (p.mapRunOut sd n f).mode = p.mode := by simp [Plant.mapRunOut]
@[simp] theorem Plant.mapRunOut_freeze (p : Plant) (sd : Side) (n : Nat) (f : RunOut → RunOut) : (p.mapRunOut sd n f).freeze = p.freeze := by simp [Plant.mapRunOut]
@[simp] theorem Plant.mapRunOut_hold (p : Plant) (sd : Side) (n : Nat) (f : RunOut → RunOut) : (p.mapRunOut sd n f).hold = p.hold := by simp [Plant.mapRunOut]
@[simp] theorem Plant.mapRunOut_permit (p : Plant) (sd : Side) (n : Nat) (f : RunOut → RunOut) : (p.mapRunOut sd n f).permit = p.permit := by simp [Plant.mapRunOut]
@[simp] theorem Plant.mapRunOut_silence (p : Plant) (sd : Side) (n : Nat) (f : RunOut → RunOut) : (p.mapRunOut sd n f).silence = p.silence := by simp [Plant.mapRunOut]
@[simp] theorem Plant.mapRunOut_noBerthTram (p : Plant) (sd : Side) (n : Nat) (f : RunOut → RunOut) : (p.mapRunOut sd n f).noBerthTram = p.noBerthTram := by simp [Plant.mapRunOut]
@[simp] theorem Plant.mapRunOut_keptRoads (p : Plant) (sd : Side) (n : Nat) (f : RunOut → RunOut) : (p.mapRunOut sd n f).keptRoads = p.keptRoads := by simp [Plant.mapRunOut]
@[simp] theorem Plant.mapRunOut_keptOutOfUse (p : Plant) (sd : Side) (n : Nat) (f : RunOut → RunOut) : (p.mapRunOut sd n f).keptOutOfUse = p.keptOutOfUse := by simp [Plant.mapRunOut]
@[simp] theorem Plant.mapRunOut_wantScan (p : Plant) (sd : Side) (n : Nat) (f : RunOut → RunOut) : (p.mapRunOut sd n f).wantScan = p.wantScan := by simp [Plant.mapRunOut]
@[simp] theorem Plant.mapRunOut_wantRound (p : Plant) (sd : Side) (n : Nat) (f : RunOut → RunOut) : (p.mapRunOut sd n f).wantRound = p.wantRound := by simp [Plant.mapRunOut]
@[simp] theorem Plant.setRoads_now (p : Plant) (sd : Side) (l : List Road) : (p.setRoads sd l).now = p.now := by unfold Plant.setRoads; dsimp only; split <;> simp
@[simp] theorem Plant.setRoads_planOut (p : Plant) (sd : Side) (l : List Road) : (p.setRoads sd l).planOut = p.planOut := by unfold Plant.setRoads; dsimp only; split <;> simp
@[simp] theorem Plant.setRoads_deskOut (p : Plant) (sd : Side) (l : List Road) : (p.setRoads sd l).deskOut = p.deskOut := by unfold Plant.setRoads; dsimp only; split <;> simp
@[simp] theorem Plant.setRoads_links (p : Plant) (sd : Side) (l : List Road) : (p.setRoads sd l).links = p.links := by unfold Plant.setRoads; dsimp only; split <;> simp
@[simp] theorem Plant.setRoads_linkSent (p : Plant) (sd : Side) (l : List Road) : (p.setRoads sd l).linkSent = p.linkSent := by unfold Plant.setRoads; dsimp only; split <;> simp
@[simp] theorem Plant.setRoads_slots (p : Plant) (sd : Side) (l : List Road) : (p.setRoads sd l).slots = p.slots := by unfold Plant.setRoads; dsimp only; split <;> simp
@[simp] theorem Plant.setRoads_queue (p : Plant) (sd : Side) (l : List Road) : (p.setRoads sd l).queue = p.queue := by unfold Plant.setRoads; dsimp only; split <;> simp
@[simp] theorem Plant.setRoads_mode (p : Plant) (sd : Side) (l : List Road) : (p.setRoads sd l).mode = p.mode := by unfold Plant.setRoads; dsimp only; split <;> simp
@[simp] theorem Plant.setRoads_freeze (p : Plant) (sd : Side) (l : List Road) : (p.setRoads sd l).freeze = p.freeze := by unfold Plant.setRoads; dsimp only; split <;> simp
@[simp] theorem Plant.setRoads_hold (p : Plant) (sd : Side) (l : List Road) : (p.setRoads sd l).hold = p.hold := by unfold Plant.setRoads; dsimp only; split <;> simp
@[simp] theorem Plant.setRoads_permit (p : Plant) (sd : Side) (l : List Road) : (p.setRoads sd l).permit = p.permit := by unfold Plant.setRoads; dsimp only; split <;> simp
@[simp] theorem Plant.setRoads_silence (p : Plant) (sd : Side) (l : List Road) : (p.setRoads sd l).silence = p.silence := by unfold Plant.setRoads; dsimp only; split <;> simp
@[simp] theorem Plant.setRoads_noBerthTram (p : Plant) (sd : Side) (l : List Road) : (p.setRoads sd l).noBerthTram = p.noBerthTram := by unfold Plant.setRoads; dsimp only; split <;> simp
@[simp] theorem Plant.setRoads_keptOutOfUse (p : Plant) (sd : Side) (l : List Road) : (p.setRoads sd l).keptOutOfUse = p.keptOutOfUse := by unfold Plant.setRoads; dsimp only; split <;> simp
@[simp] theorem Plant.setRoads_wantScan (p : Plant) (sd : Side) (l : List Road) : (p.setRoads sd l).wantScan = p.wantScan := by unfold Plant.setRoads; dsimp only; split <;> simp
@[simp] theorem Plant.setRoads_wantRound (p : Plant) (sd : Side) (l : List Road) : (p.setRoads sd l).wantRound = p.wantRound := by unfold Plant.setRoads; dsimp only; split <;> simp
@[simp] theorem Plant.mapRoad_now (p : Plant) (sd : Side) (b : Berth) (f : Road → Road) : (p.mapRoad sd b f).now = p.now := by simp [Plant.mapRoad]
@[simp] theorem Plant.mapRoad_planOut (p : Plant) (sd : Side) (b : Berth) (f : Road → Road) : (p.mapRoad sd b f).planOut = p.planOut := by simp [Plant.mapRoad]
@[simp] theorem Plant.mapRoad_deskOut (p : Plant) (sd : Side) (b : Berth) (f : Road → Road) : (p.mapRoad sd b f).deskOut = p.deskOut := by simp [Plant.mapRoad]
@[simp] theorem Plant.mapRoad_links (p : Plant) (sd : Side) (b : Berth) (f : Road → Road) : (p.mapRoad sd b f).links = p.links := by simp [Plant.mapRoad]
@[simp] theorem Plant.mapRoad_linkSent (p : Plant) (sd : Side) (b : Berth) (f : Road → Road) : (p.mapRoad sd b f).linkSent = p.linkSent := by simp [Plant.mapRoad]
@[simp] theorem Plant.mapRoad_slots (p : Plant) (sd : Side) (b : Berth) (f : Road → Road) : (p.mapRoad sd b f).slots = p.slots := by simp [Plant.mapRoad]
@[simp] theorem Plant.mapRoad_queue (p : Plant) (sd : Side) (b : Berth) (f : Road → Road) : (p.mapRoad sd b f).queue = p.queue := by simp [Plant.mapRoad]
@[simp] theorem Plant.mapRoad_mode (p : Plant) (sd : Side) (b : Berth) (f : Road → Road) : (p.mapRoad sd b f).mode = p.mode := by simp [Plant.mapRoad]
@[simp] theorem Plant.mapRoad_freeze (p : Plant) (sd : Side) (b : Berth) (f : Road → Road) : (p.mapRoad sd b f).freeze = p.freeze := by simp [Plant.mapRoad]
@[simp] theorem Plant.mapRoad_hold (p : Plant) (sd : Side) (b : Berth) (f : Road → Road) : (p.mapRoad sd b f).hold = p.hold := by simp [Plant.mapRoad]
@[simp] theorem Plant.mapRoad_permit (p : Plant) (sd : Side) (b : Berth) (f : Road → Road) : (p.mapRoad sd b f).permit = p.permit := by simp [Plant.mapRoad]
@[simp] theorem Plant.mapRoad_silence (p : Plant) (sd : Side) (b : Berth) (f : Road → Road) : (p.mapRoad sd b f).silence = p.silence := by simp [Plant.mapRoad]
@[simp] theorem Plant.mapRoad_noBerthTram (p : Plant) (sd : Side) (b : Berth) (f : Road → Road) : (p.mapRoad sd b f).noBerthTram = p.noBerthTram := by simp [Plant.mapRoad]
@[simp] theorem Plant.mapRoad_keptOutOfUse (p : Plant) (sd : Side) (b : Berth) (f : Road → Road) : (p.mapRoad sd b f).keptOutOfUse = p.keptOutOfUse := by simp [Plant.mapRoad]
@[simp] theorem Plant.mapRoad_wantScan (p : Plant) (sd : Side) (b : Berth) (f : Road → Road) : (p.mapRoad sd b f).wantScan = p.wantScan := by simp [Plant.mapRoad]
@[simp] theorem Plant.mapRoad_wantRound (p : Plant) (sd : Side) (b : Berth) (f : Road → Road) : (p.mapRoad sd b f).wantRound = p.wantRound := by simp [Plant.mapRoad]
@[simp] theorem Plant.setArrivals_now (p : Plant) (sd : Side) (l : List Arrival) : (p.setArrivals sd l).now = p.now := by unfold Plant.setArrivals; dsimp only; split <;> simp
@[simp] theorem Plant.setArrivals_planOut (p : Plant) (sd : Side) (l : List Arrival) : (p.setArrivals sd l).planOut = p.planOut := by unfold Plant.setArrivals; dsimp only; split <;> simp
@[simp] theorem Plant.setArrivals_deskOut (p : Plant) (sd : Side) (l : List Arrival) : (p.setArrivals sd l).deskOut = p.deskOut := by unfold Plant.setArrivals; dsimp only; split <;> simp
@[simp] theorem Plant.setArrivals_links (p : Plant) (sd : Side) (l : List Arrival) : (p.setArrivals sd l).links = p.links := by unfold Plant.setArrivals; dsimp only; split <;> simp
@[simp] theorem Plant.setArrivals_linkSent (p : Plant) (sd : Side) (l : List Arrival) : (p.setArrivals sd l).linkSent = p.linkSent := by unfold Plant.setArrivals; dsimp only; split <;> simp
@[simp] theorem Plant.setArrivals_slots (p : Plant) (sd : Side) (l : List Arrival) : (p.setArrivals sd l).slots = p.slots := by unfold Plant.setArrivals; dsimp only; split <;> simp
@[simp] theorem Plant.setArrivals_queue (p : Plant) (sd : Side) (l : List Arrival) : (p.setArrivals sd l).queue = p.queue := by unfold Plant.setArrivals; dsimp only; split <;> simp
@[simp] theorem Plant.setArrivals_mode (p : Plant) (sd : Side) (l : List Arrival) : (p.setArrivals sd l).mode = p.mode := by unfold Plant.setArrivals; dsimp only; split <;> simp
@[simp] theorem Plant.setArrivals_freeze (p : Plant) (sd : Side) (l : List Arrival) : (p.setArrivals sd l).freeze = p.freeze := by unfold Plant.setArrivals; dsimp only; split <;> simp
@[simp] theorem Plant.setArrivals_hold (p : Plant) (sd : Side) (l : List Arrival) : (p.setArrivals sd l).hold = p.hold := by unfold Plant.setArrivals; dsimp only; split <;> simp
@[simp] theorem Plant.setArrivals_permit (p : Plant) (sd : Side) (l : List Arrival) : (p.setArrivals sd l).permit = p.permit := by unfold Plant.setArrivals; dsimp only; split <;> simp
@[simp] theorem Plant.setArrivals_silence (p : Plant) (sd : Side) (l : List Arrival) : (p.setArrivals sd l).silence = p.silence := by unfold Plant.setArrivals; dsimp only; split <;> simp
@[simp] theorem Plant.setArrivals_keptRoads (p : Plant) (sd : Side) (l : List Arrival) : (p.setArrivals sd l).keptRoads = p.keptRoads := by unfold Plant.setArrivals; dsimp only; split <;> simp
@[simp] theorem Plant.setArrivals_keptOutOfUse (p : Plant) (sd : Side) (l : List Arrival) : (p.setArrivals sd l).keptOutOfUse = p.keptOutOfUse := by unfold Plant.setArrivals; dsimp only; split <;> simp
@[simp] theorem Plant.setArrivals_wantScan (p : Plant) (sd : Side) (l : List Arrival) : (p.setArrivals sd l).wantScan = p.wantScan := by unfold Plant.setArrivals; dsimp only; split <;> simp
@[simp] theorem Plant.setArrivals_wantRound (p : Plant) (sd : Side) (l : List Arrival) : (p.setArrivals sd l).wantRound = p.wantRound := by unfold Plant.setArrivals; dsimp only; split <;> simp

/-! ## Slots, session, marks, time -/

@[simp] theorem Plant.mapSlot_now (p : Plant) (n : Nat) (f : Slot → Slot) : (p.mapSlot n f).now = p.now := rfl
@[simp] theorem Plant.mapSlot_planOut (p : Plant) (n : Nat) (f : Slot → Slot) : (p.mapSlot n f).planOut = p.planOut := rfl
@[simp] theorem Plant.mapSlot_deskOut (p : Plant) (n : Nat) (f : Slot → Slot) : (p.mapSlot n f).deskOut = p.deskOut := rfl
@[simp] theorem Plant.mapSlot_links (p : Plant) (n : Nat) (f : Slot → Slot) : (p.mapSlot n f).links = p.links := rfl
@[simp] theorem Plant.mapSlot_linkSent (p : Plant) (n : Nat) (f : Slot → Slot) : (p.mapSlot n f).linkSent = p.linkSent := rfl
@[simp] theorem Plant.mapSlot_yard (p : Plant) (n : Nat) (f : Slot → Slot) : (p.mapSlot n f).yard = p.yard := rfl
@[simp] theorem Plant.mapSlot_session (p : Plant) (n : Nat) (f : Slot → Slot) : (p.mapSlot n f).session = p.session := rfl
@[simp] theorem Plant.mapSlot_queue (p : Plant) (n : Nat) (f : Slot → Slot) : (p.mapSlot n f).queue = p.queue := rfl
@[simp] theorem Plant.mapSlot_mode (p : Plant) (n : Nat) (f : Slot → Slot) : (p.mapSlot n f).mode = p.mode := rfl
@[simp] theorem Plant.mapSlot_freeze (p : Plant) (n : Nat) (f : Slot → Slot) : (p.mapSlot n f).freeze = p.freeze := rfl
@[simp] theorem Plant.mapSlot_hold (p : Plant) (n : Nat) (f : Slot → Slot) : (p.mapSlot n f).hold = p.hold := rfl
@[simp] theorem Plant.mapSlot_permit (p : Plant) (n : Nat) (f : Slot → Slot) : (p.mapSlot n f).permit = p.permit := rfl
@[simp] theorem Plant.mapSlot_silence (p : Plant) (n : Nat) (f : Slot → Slot) : (p.mapSlot n f).silence = p.silence := rfl
@[simp] theorem Plant.mapSlot_noBerthTram (p : Plant) (n : Nat) (f : Slot → Slot) : (p.mapSlot n f).noBerthTram = p.noBerthTram := rfl
@[simp] theorem Plant.mapSlot_keptRoads (p : Plant) (n : Nat) (f : Slot → Slot) : (p.mapSlot n f).keptRoads = p.keptRoads := rfl
@[simp] theorem Plant.mapSlot_keptOutOfUse (p : Plant) (n : Nat) (f : Slot → Slot) : (p.mapSlot n f).keptOutOfUse = p.keptOutOfUse := rfl
@[simp] theorem Plant.mapSlot_wantScan (p : Plant) (n : Nat) (f : Slot → Slot) : (p.mapSlot n f).wantScan = p.wantScan := rfl
@[simp] theorem Plant.mapSlot_wantRound (p : Plant) (n : Nat) (f : Slot → Slot) : (p.mapSlot n f).wantRound = p.wantRound := rfl
@[simp] theorem Plant.mapSession_now (p : Plant) (f : Session → Session) : (p.mapSession f).now = p.now := rfl
@[simp] theorem Plant.mapSession_planOut (p : Plant) (f : Session → Session) : (p.mapSession f).planOut = p.planOut := rfl
@[simp] theorem Plant.mapSession_deskOut (p : Plant) (f : Session → Session) : (p.mapSession f).deskOut = p.deskOut := rfl
@[simp] theorem Plant.mapSession_links (p : Plant) (f : Session → Session) : (p.mapSession f).links = p.links := rfl
@[simp] theorem Plant.mapSession_linkSent (p : Plant) (f : Session → Session) : (p.mapSession f).linkSent = p.linkSent := rfl
@[simp] theorem Plant.mapSession_yard (p : Plant) (f : Session → Session) : (p.mapSession f).yard = p.yard := rfl
@[simp] theorem Plant.mapSession_slots (p : Plant) (f : Session → Session) : (p.mapSession f).slots = p.slots := rfl
@[simp] theorem Plant.mapSession_queue (p : Plant) (f : Session → Session) : (p.mapSession f).queue = p.queue := rfl
@[simp] theorem Plant.mapSession_mode (p : Plant) (f : Session → Session) : (p.mapSession f).mode = p.mode := rfl
@[simp] theorem Plant.mapSession_freeze (p : Plant) (f : Session → Session) : (p.mapSession f).freeze = p.freeze := rfl
@[simp] theorem Plant.mapSession_hold (p : Plant) (f : Session → Session) : (p.mapSession f).hold = p.hold := rfl
@[simp] theorem Plant.mapSession_permit (p : Plant) (f : Session → Session) : (p.mapSession f).permit = p.permit := rfl
@[simp] theorem Plant.mapSession_silence (p : Plant) (f : Session → Session) : (p.mapSession f).silence = p.silence := rfl
@[simp] theorem Plant.mapSession_noBerthTram (p : Plant) (f : Session → Session) : (p.mapSession f).noBerthTram = p.noBerthTram := rfl
@[simp] theorem Plant.mapSession_keptRoads (p : Plant) (f : Session → Session) : (p.mapSession f).keptRoads = p.keptRoads := rfl
@[simp] theorem Plant.mapSession_keptOutOfUse (p : Plant) (f : Session → Session) : (p.mapSession f).keptOutOfUse = p.keptOutOfUse := rfl
@[simp] theorem Plant.mapSession_wantScan (p : Plant) (f : Session → Session) : (p.mapSession f).wantScan = p.wantScan := rfl
@[simp] theorem Plant.mapSession_wantRound (p : Plant) (f : Session → Session) : (p.mapSession f).wantRound = p.wantRound := rfl
@[simp] theorem Plant.askScan_now (p : Plant) (sd : Side) : (p.askScan sd).now = p.now := by unfold Plant.askScan; split <;> rfl
@[simp] theorem Plant.askScan_planOut (p : Plant) (sd : Side) : (p.askScan sd).planOut = p.planOut := by unfold Plant.askScan; split <;> rfl
@[simp] theorem Plant.askScan_deskOut (p : Plant) (sd : Side) : (p.askScan sd).deskOut = p.deskOut := by unfold Plant.askScan; split <;> rfl
@[simp] theorem Plant.askScan_links (p : Plant) (sd : Side) : (p.askScan sd).links = p.links := by unfold Plant.askScan; split <;> rfl
@[simp] theorem Plant.askScan_linkSent (p : Plant) (sd : Side) : (p.askScan sd).linkSent = p.linkSent := by unfold Plant.askScan; split <;> rfl
@[simp] theorem Plant.askScan_yard (p : Plant) (sd : Side) : (p.askScan sd).yard = p.yard := by unfold Plant.askScan; split <;> rfl
@[simp] theorem Plant.askScan_session (p : Plant) (sd : Side) : (p.askScan sd).session = p.session := by unfold Plant.askScan; split <;> rfl
@[simp] theorem Plant.askScan_slots (p : Plant) (sd : Side) : (p.askScan sd).slots = p.slots := by unfold Plant.askScan; split <;> rfl
@[simp] theorem Plant.askScan_queue (p : Plant) (sd : Side) : (p.askScan sd).queue = p.queue := by unfold Plant.askScan; split <;> rfl
@[simp] theorem Plant.askScan_mode (p : Plant) (sd : Side) : (p.askScan sd).mode = p.mode := by unfold Plant.askScan; split <;> rfl
@[simp] theorem Plant.askScan_freeze (p : Plant) (sd : Side) : (p.askScan sd).freeze = p.freeze := by unfold Plant.askScan; split <;> rfl
@[simp] theorem Plant.askScan_hold (p : Plant) (sd : Side) : (p.askScan sd).hold = p.hold := by unfold Plant.askScan; split <;> rfl
@[simp] theorem Plant.askScan_permit (p : Plant) (sd : Side) : (p.askScan sd).permit = p.permit := by unfold Plant.askScan; split <;> rfl
@[simp] theorem Plant.askScan_silence (p : Plant) (sd : Side) : (p.askScan sd).silence = p.silence := by unfold Plant.askScan; split <;> rfl
@[simp] theorem Plant.askScan_noBerthTram (p : Plant) (sd : Side) : (p.askScan sd).noBerthTram = p.noBerthTram := by unfold Plant.askScan; split <;> rfl
@[simp] theorem Plant.askScan_keptRoads (p : Plant) (sd : Side) : (p.askScan sd).keptRoads = p.keptRoads := by unfold Plant.askScan; split <;> rfl
@[simp] theorem Plant.askScan_keptOutOfUse (p : Plant) (sd : Side) : (p.askScan sd).keptOutOfUse = p.keptOutOfUse := by unfold Plant.askScan; split <;> rfl
@[simp] theorem Plant.askScan_wantRound (p : Plant) (sd : Side) : (p.askScan sd).wantRound = p.wantRound := by unfold Plant.askScan; split <;> rfl
@[simp] theorem Plant.askRound_now (p : Plant) (sd : Side) : (p.askRound sd).now = p.now := by unfold Plant.askRound; split <;> rfl
@[simp] theorem Plant.askRound_planOut (p : Plant) (sd : Side) : (p.askRound sd).planOut = p.planOut := by unfold Plant.askRound; split <;> rfl
@[simp] theorem Plant.askRound_deskOut (p : Plant) (sd : Side) : (p.askRound sd).deskOut = p.deskOut := by unfold Plant.askRound; split <;> rfl
@[simp] theorem Plant.askRound_links (p : Plant) (sd : Side) : (p.askRound sd).links = p.links := by unfold Plant.askRound; split <;> rfl
@[simp] theorem Plant.askRound_linkSent (p : Plant) (sd : Side) : (p.askRound sd).linkSent = p.linkSent := by unfold Plant.askRound; split <;> rfl
@[simp] theorem Plant.askRound_yard (p : Plant) (sd : Side) : (p.askRound sd).yard = p.yard := by unfold Plant.askRound; split <;> rfl
@[simp] theorem Plant.askRound_session (p : Plant) (sd : Side) : (p.askRound sd).session = p.session := by unfold Plant.askRound; split <;> rfl
@[simp] theorem Plant.askRound_slots (p : Plant) (sd : Side) : (p.askRound sd).slots = p.slots := by unfold Plant.askRound; split <;> rfl
@[simp] theorem Plant.askRound_queue (p : Plant) (sd : Side) : (p.askRound sd).queue = p.queue := by unfold Plant.askRound; split <;> rfl
@[simp] theorem Plant.askRound_mode (p : Plant) (sd : Side) : (p.askRound sd).mode = p.mode := by unfold Plant.askRound; split <;> rfl
@[simp] theorem Plant.askRound_freeze (p : Plant) (sd : Side) : (p.askRound sd).freeze = p.freeze := by unfold Plant.askRound; split <;> rfl
@[simp] theorem Plant.askRound_hold (p : Plant) (sd : Side) : (p.askRound sd).hold = p.hold := by unfold Plant.askRound; split <;> rfl
@[simp] theorem Plant.askRound_permit (p : Plant) (sd : Side) : (p.askRound sd).permit = p.permit := by unfold Plant.askRound; split <;> rfl
@[simp] theorem Plant.askRound_silence (p : Plant) (sd : Side) : (p.askRound sd).silence = p.silence := by unfold Plant.askRound; split <;> rfl
@[simp] theorem Plant.askRound_noBerthTram (p : Plant) (sd : Side) : (p.askRound sd).noBerthTram = p.noBerthTram := by unfold Plant.askRound; split <;> rfl
@[simp] theorem Plant.askRound_keptRoads (p : Plant) (sd : Side) : (p.askRound sd).keptRoads = p.keptRoads := by unfold Plant.askRound; split <;> rfl
@[simp] theorem Plant.askRound_keptOutOfUse (p : Plant) (sd : Side) : (p.askRound sd).keptOutOfUse = p.keptOutOfUse := by unfold Plant.askRound; split <;> rfl
@[simp] theorem Plant.askRound_wantScan (p : Plant) (sd : Side) : (p.askRound sd).wantScan = p.wantScan := by unfold Plant.askRound; split <;> rfl
@[simp] theorem Plant.advance_planOut (p : Plant) (ms : Nat) : (p.advance ms).planOut = p.planOut := rfl
@[simp] theorem Plant.advance_deskOut (p : Plant) (ms : Nat) : (p.advance ms).deskOut = p.deskOut := rfl
@[simp] theorem Plant.advance_links (p : Plant) (ms : Nat) : (p.advance ms).links = p.links := rfl
@[simp] theorem Plant.advance_linkSent (p : Plant) (ms : Nat) : (p.advance ms).linkSent = p.linkSent := rfl
@[simp] theorem Plant.advance_slots (p : Plant) (ms : Nat) : (p.advance ms).slots = p.slots := rfl
@[simp] theorem Plant.advance_queue (p : Plant) (ms : Nat) : (p.advance ms).queue = p.queue := rfl
@[simp] theorem Plant.advance_mode (p : Plant) (ms : Nat) : (p.advance ms).mode = p.mode := rfl
@[simp] theorem Plant.advance_freeze (p : Plant) (ms : Nat) : (p.advance ms).freeze = p.freeze := rfl
@[simp] theorem Plant.advance_hold (p : Plant) (ms : Nat) : (p.advance ms).hold = p.hold := rfl
@[simp] theorem Plant.advance_permit (p : Plant) (ms : Nat) : (p.advance ms).permit = p.permit := rfl
@[simp] theorem Plant.advance_silence (p : Plant) (ms : Nat) : (p.advance ms).silence = p.silence := rfl
@[simp] theorem Plant.advance_noBerthTram (p : Plant) (ms : Nat) : (p.advance ms).noBerthTram = p.noBerthTram := rfl
@[simp] theorem Plant.advance_keptRoads (p : Plant) (ms : Nat) : (p.advance ms).keptRoads = p.keptRoads := rfl
@[simp] theorem Plant.advance_keptOutOfUse (p : Plant) (ms : Nat) : (p.advance ms).keptOutOfUse = p.keptOutOfUse := rfl
@[simp] theorem Plant.advance_wantScan (p : Plant) (ms : Nat) : (p.advance ms).wantScan = p.wantScan := rfl
@[simp] theorem Plant.advance_wantRound (p : Plant) (ms : Nat) : (p.advance ms).wantRound = p.wantRound := rfl
@[simp] theorem Plant.unmarked_now (p : Plant) : (p.unmarked).now = p.now := rfl
@[simp] theorem Plant.unmarked_planOut (p : Plant) : (p.unmarked).planOut = p.planOut := rfl
@[simp] theorem Plant.unmarked_deskOut (p : Plant) : (p.unmarked).deskOut = p.deskOut := rfl
@[simp] theorem Plant.unmarked_links (p : Plant) : (p.unmarked).links = p.links := rfl
@[simp] theorem Plant.unmarked_linkSent (p : Plant) : (p.unmarked).linkSent = p.linkSent := rfl
@[simp] theorem Plant.unmarked_yard (p : Plant) : (p.unmarked).yard = p.yard := rfl
@[simp] theorem Plant.unmarked_session (p : Plant) : (p.unmarked).session = p.session := rfl
@[simp] theorem Plant.unmarked_slots (p : Plant) : (p.unmarked).slots = p.slots := rfl
@[simp] theorem Plant.unmarked_queue (p : Plant) : (p.unmarked).queue = p.queue := rfl
@[simp] theorem Plant.unmarked_mode (p : Plant) : (p.unmarked).mode = p.mode := rfl
@[simp] theorem Plant.unmarked_freeze (p : Plant) : (p.unmarked).freeze = p.freeze := rfl
@[simp] theorem Plant.unmarked_hold (p : Plant) : (p.unmarked).hold = p.hold := rfl
@[simp] theorem Plant.unmarked_permit (p : Plant) : (p.unmarked).permit = p.permit := rfl
@[simp] theorem Plant.unmarked_silence (p : Plant) : (p.unmarked).silence = p.silence := rfl
@[simp] theorem Plant.unmarked_noBerthTram (p : Plant) : (p.unmarked).noBerthTram = p.noBerthTram := rfl
@[simp] theorem Plant.unmarked_keptRoads (p : Plant) : (p.unmarked).keptRoads = p.keptRoads := rfl
@[simp] theorem Plant.unmarked_keptOutOfUse (p : Plant) : (p.unmarked).keptOutOfUse = p.keptOutOfUse := rfl

/-! ## The state -/

@[simp] theorem State.mapIn_pending (s : State) (o : Port) (f : PortIn → PortIn) : (s.mapIn o f).pending = s.pending := by cases o <;> rfl
@[simp] theorem State.mapIn_store (s : State) (o : Port) (f : PortIn → PortIn) : (s.mapIn o f).store = s.store := by cases o <;> rfl
@[simp] theorem State.mapIn_settings (s : State) (o : Port) (f : PortIn → PortIn) : (s.mapIn o f).settings = s.settings := by cases o <;> rfl
@[simp] theorem State.mapIn_register (s : State) (o : Port) (f : PortIn → PortIn) : (s.mapIn o f).register = s.register := by cases o <;> rfl
@[simp] theorem State.mapIn_resetCause (s : State) (o : Port) (f : PortIn → PortIn) : (s.mapIn o f).resetCause = s.resetCause := by cases o <;> rfl
@[simp] theorem State.mapIn_resetDue (s : State) (o : Port) (f : PortIn → PortIn) : (s.mapIn o f).resetDue = s.resetDue := by cases o <;> rfl
@[simp] theorem State.mapIn_plant (s : State) (o : Port) (f : PortIn → PortIn) : (s.mapIn o f).plant = s.plant := by cases o <;> rfl
@[simp] theorem State.mapPlant_pending (s : State) (f : Env → Plant → Plant) : (s.mapPlant f).pending = s.pending := rfl
@[simp] theorem State.event_pending (s : State) (f : Env → Plant → Plant) : (s.event f).pending = s.pending := rfl
@[simp] theorem State.tick_pending (s : State) : s.tick.pending = s.pending := rfl
@[simp] theorem State.mapPlant_store (s : State) (f : Env → Plant → Plant) : (s.mapPlant f).store = s.store := rfl
@[simp] theorem State.event_store (s : State) (f : Env → Plant → Plant) : (s.event f).store = s.store := rfl
@[simp] theorem State.tick_store (s : State) : s.tick.store = s.store := rfl
@[simp] theorem State.mapPlant_settings (s : State) (f : Env → Plant → Plant) : (s.mapPlant f).settings = s.settings := rfl
@[simp] theorem State.event_settings (s : State) (f : Env → Plant → Plant) : (s.event f).settings = s.settings := rfl
@[simp] theorem State.tick_settings (s : State) : s.tick.settings = s.settings := rfl
@[simp] theorem State.mapPlant_register (s : State) (f : Env → Plant → Plant) : (s.mapPlant f).register = s.register := rfl
@[simp] theorem State.event_register (s : State) (f : Env → Plant → Plant) : (s.event f).register = s.register := rfl
@[simp] theorem State.tick_register (s : State) : s.tick.register = s.register := rfl
@[simp] theorem State.mapPlant_planIn (s : State) (f : Env → Plant → Plant) : (s.mapPlant f).planIn = s.planIn := rfl
@[simp] theorem State.event_planIn (s : State) (f : Env → Plant → Plant) : (s.event f).planIn = s.planIn := rfl
@[simp] theorem State.tick_planIn (s : State) : s.tick.planIn = s.planIn := rfl
@[simp] theorem State.mapPlant_deskIn (s : State) (f : Env → Plant → Plant) : (s.mapPlant f).deskIn = s.deskIn := rfl
@[simp] theorem State.event_deskIn (s : State) (f : Env → Plant → Plant) : (s.event f).deskIn = s.deskIn := rfl
@[simp] theorem State.tick_deskIn (s : State) : s.tick.deskIn = s.deskIn := rfl
@[simp] theorem State.mapPlant_resetCause (s : State) (f : Env → Plant → Plant) : (s.mapPlant f).resetCause = s.resetCause := rfl
@[simp] theorem State.event_resetCause (s : State) (f : Env → Plant → Plant) : (s.event f).resetCause = s.resetCause := rfl
@[simp] theorem State.tick_resetCause (s : State) : s.tick.resetCause = s.resetCause := rfl
@[simp] theorem State.mapPlant_resetDue (s : State) (f : Env → Plant → Plant) : (s.mapPlant f).resetDue = s.resetDue := rfl
@[simp] theorem State.event_resetDue (s : State) (f : Env → Plant → Plant) : (s.event f).resetDue = s.resetDue := rfl
@[simp] theorem State.tick_resetDue (s : State) : s.tick.resetDue = s.resetDue := rfl
@[simp] theorem State.mapPlant_plant (s : State) (f : Env → Plant → Plant) : (s.mapPlant f).plant = f s.env s.plant := rfl
@[simp] theorem State.event_plant (s : State) (f : Env → Plant → Plant) :
    (s.event f).plant = Plant.settled s.env (f s.env s.plant) := rfl
@[simp] theorem State.mapPlant_env (s : State) (f : Env → Plant → Plant) : (s.mapPlant f).env = s.env := rfl
@[simp] theorem State.event_env (s : State) (f : Env → Plant → Plant) : (s.event f).env = s.env := rfl
@[simp] theorem State.mapIn_env (s : State) (o : Port) (f : PortIn → PortIn) : (s.mapIn o f).env = s.env := by
  cases o <;> rfl
@[simp] theorem State.mapPlant_portIn (s : State) (f : Env → Plant → Plant) (o : Port) :
    (s.mapPlant f).portIn o = s.portIn o := by cases o <;> rfl
@[simp] theorem State.event_portIn (s : State) (f : Env → Plant → Plant) (o : Port) :
    (s.event f).portIn o = s.portIn o := by cases o <;> rfl
@[simp] theorem State.mapIn_portIn_self (s : State) (o : Port) (f : PortIn → PortIn) :
    (s.mapIn o f).portIn o = f (s.portIn o) := by cases o <;> rfl
@[simp] theorem State.mapIn_portIn_other (s : State) (o : Port) (f : PortIn → PortIn) :
    (s.mapIn o f).portIn o.other = s.portIn o.other := by cases o <;> rfl

/-! ## The sending halves -/

@[simp] theorem Plant.mapOut_out_self (p : Plant) (o : Port) (f : PortOut → PortOut) : (p.mapOut o f).out o = f (p.out o) := by
  cases o <;> rfl
@[simp] theorem Plant.mapOut_out_other (p : Plant) (o : Port) (f : PortOut → PortOut) :
    (p.mapOut o f).out o.other = p.out o.other := by cases o <;> rfl
@[simp] theorem Plant.unmarked_wantScan (p : Plant) : p.unmarked.wantScan = false := rfl
@[simp] theorem Plant.unmarked_wantRound (p : Plant) : p.unmarked.wantRound = false := rfl

end Sys2Proof.Machine
end

