-- ==== Sys2Proof/Laws/Keyed.lean ====
section
/-! SUPPORT. The tables under a number, and the two-copy stores: what finding, changing, putting and deleting do. -/

namespace Sys2Proof.Machine

open Sys2Proof

section
variable {α : Type} (key : α → Nat)

@[simp] theorem findBy_nil (n : Nat) : findBy key n [] = none := rfl

theorem findBy_cons (n : Nat) (x : α) (l : List α) :
    findBy key n (x :: l) = if key x = n then some x else findBy key n l := by
  have hk : (key x == n) = decide (key x = n) := rfl
  by_cases h : key x = n <;> simp [findBy, List.find?, hk, h]

/-- What is found has the number asked for. -/
theorem findBy_key {n : Nat} {l : List α} {x : α} (h : findBy key n l = some x) : key x = n := by
  simpa using List.find?_some h

/-- What is found stands in the table. -/
theorem findBy_mem {n : Nat} {l : List α} {x : α} (h : findBy key n l = some x) : x ∈ l := List.mem_of_find?_eq_some h

/-- Nothing is found exactly when no item has the number. -/
theorem findBy_eq_none {n : Nat} {l : List α} : findBy key n l = none ↔ ∀ x ∈ l, key x ≠ n := by
  simp [findBy, List.find?_eq_none]

/-- An item changed in place, by a change that keeps its number, is found changed. -/
theorem findBy_updBy_self (n : Nat) (f : α → α) (l : List α) (hf : ∀ x, key x = n → key (f x) = n) :
    findBy key n (updBy key n f l) = (findBy key n l).map f := by
  induction l with
  | nil => rfl
  | cons x l ih =>
    by_cases h : key x = n
    · simp [updBy, findBy_cons, h, hf x h]
    · simpa [updBy, findBy_cons, h] using ih

/-- A change of one item leaves every other number as it was. -/
theorem findBy_updBy_ne {n m : Nat} (f : α → α) (l : List α) (hf : ∀ x, key x = n → key (f x) = n) (h : m ≠ n) :
    findBy key m (updBy key n f l) = findBy key m l := by
  induction l with
  | nil => rfl
  | cons x l ih =>
    by_cases hx : key x = n
    · have := hf x hx
      simpa [updBy, findBy_cons, hx, this, Ne.symm h] using ih
    · by_cases hm : key x = m
      · simp [updBy, findBy_cons, hm, h]
      · simpa [updBy, findBy_cons, hx, hm] using ih

/-- A change of every item that keeps the numbers is found as the change of what was found. -/
theorem findBy_map (f : α → α) (hf : ∀ x, key (f x) = key x) (n : Nat) (l : List α) :
    findBy key n (l.map f) = (findBy key n l).map f := by
  induction l with
  | nil => rfl
  | cons x l ih => by_cases h : key x = n <;> simp [findBy_cons, hf, h, ih]

/-- What a link's loss makes of a table: an item whose number is among those on the link is lost, and every other stays. -/
theorem findBy_loseAmong (lost : α → α) (hl : ∀ x, key (lost x) = key x) (ns : List Nat) (n : Nat) (l : List α) :
    findBy key n (loseAmong key lost ns l) = (findBy key n l).map fun x => if ns.contains n then lost x else x := by
  rw [loseAmong, findBy_map key _ (fun x => by split <;> simp [hl])]
  cases h : findBy key n l with
  | none => rfl
  | some x => simp [findBy_key key h]

/-- An item changed in place, by a change that keeps every number, leaves the numbers of the table. -/
theorem map_key_updBy (n : Nat) (f : α → α) (l : List α) (hf : ∀ x, key (f x) = key x) :
    (updBy key n f l).map key = l.map key := by
  induction l with
  | nil => rfl
  | cons x l ih =>
    simp only [updBy, List.map_cons] at ih ⊢
    rw [ih]
    split <;> simp [hf]

/-- What is put is found under its number. -/
theorem findBy_putBy_self (x : α) (l : List α) : findBy key (key x) (putBy key x l) = some x := by
  induction l with
  | nil => simp [putBy, findBy_cons]
  | cons y l ih =>
    unfold putBy
    split
    · simp [findBy_cons]
    · split
      · simp [findBy_cons]
      · rename_i h
        simpa [findBy_cons, Ne.symm h] using ih

/-- What is put leaves every other number as it was. -/
theorem findBy_putBy_ne (x : α) {m : Nat} (l : List α) (h : m ≠ key x) :
    findBy key m (putBy key x l) = findBy key m l := by
  induction l with
  | nil => simp [putBy, findBy_cons, Ne.symm h]
  | cons y l ih =>
    unfold putBy
    split
    · simp [findBy_cons, Ne.symm h]
    · split
      · rename_i h'
        simp [findBy_cons, Ne.symm h, ← h']
      · simp only [findBy_cons]
        split
        · rfl
        · exact ih

/-- What is deleted is not found. -/
theorem findBy_delBy_self (n : Nat) (l : List α) : findBy key n (delBy key n l) = none := by
  rw [findBy_eq_none]
  intro x hx
  simpa [delBy] using (List.mem_filter.mp hx).2

/-- What is deleted leaves every other number as it was. -/
theorem findBy_delBy_ne {n m : Nat} (l : List α) (h : m ≠ n) : findBy key m (delBy key n l) = findBy key m l := by
  induction l with
  | nil => rfl
  | cons x l ih =>
    by_cases hx : key x = n
    · simpa [delBy, findBy_cons, hx, Ne.symm h] using ih
    · by_cases hm : key x = m
      · simp [delBy, findBy_cons, hm, h]
      · simpa [delBy, findBy_cons, hx, hm] using ih

/-- Putting keeps the table in ascending number. -/
theorem putBy_sorted (x : α) {l : List α} (h : l.Pairwise fun a b => key a < key b) :
    (putBy key x l).Pairwise fun a b => key a < key b := by
  have mem : ∀ {l : List α} {z : α}, z ∈ putBy key x l → z = x ∨ z ∈ l := by
    intro l
    induction l with
    | nil => intro z hz; simpa [putBy] using hz
    | cons y l ih =>
      intro z hz
      unfold putBy at hz
      split at hz
      · simpa using hz
      · split at hz
        · rcases List.mem_cons.mp hz with h | h
          · exact .inl h
          · exact .inr (List.mem_cons_of_mem _ h)
        · rcases List.mem_cons.mp hz with h | h
          · exact .inr (by simp [h])
          · rcases ih h with h | h
            · exact .inl h
            · exact .inr (List.mem_cons_of_mem _ h)
  induction l with
  | nil => simp [putBy]
  | cons y l ih =>
    obtain ⟨hy, hl⟩ := List.pairwise_cons.mp h
    unfold putBy
    split
    · rename_i hlt
      exact List.pairwise_cons.mpr ⟨fun z hz => by
        rcases List.mem_cons.mp hz with h | h
        · simpa [h] using hlt
        · exact Nat.lt_trans hlt (hy z h), h⟩
    · split
      · rename_i heq
        exact List.pairwise_cons.mpr ⟨fun z hz => by rw [heq]; exact hy z hz, hl⟩
      · refine List.pairwise_cons.mpr ⟨fun z hz => ?_, ih hl⟩
        rcases mem hz with h | h
        · subst h; omega
        · exact hy z h

end

/-! ## Two-copy stores (R8) -/

@[simp] theorem Store.write_latest {α : Type} (s : Store α) (v : α) : (s.write v).latest = some v := rfl

@[simp] theorem Store.write_earlier {α : Type} (s : Store α) (v : α) : (s.write v).earlier = s.latest := rfl

/-- A write keeps what both copies meet, when the value written meets it. -/
theorem Store.write_holds {α : Type} {s : Store α} {good : α → Prop} {v : α} (hs : s.holds good) (hv : good v) :
    (s.write v).holds good := by
  refine ⟨fun w hw => ?_, fun w hw => hs.1 w hw⟩
  cases hw; exact hv

/-- A load keeps what both copies meet. -/
theorem Store.load_holds {α : Type} {s : Store α} {good : α → Prop} (c : CopyChecks) (hs : s.holds good) :
    (s.load c).holds good := by
  obtain ⟨h1, h2⟩ := hs
  unfold Store.load
  split <;> refine ⟨fun w hw => ?_, fun w hw => ?_⟩ <;> simp only at hw
  · cases hw; exact h1 _ (by assumption)
  · split at hw
    · exact h2 w hw
    · cases hw
  · split at hw
    · exact h2 w hw
    · cases hw
  · cases hw

end Sys2Proof.Machine
end

