-- ==== Sys2Proof/Laws/Links.lean ====
section
/-! SUPPORT. What the state of a link makes of its elements: a section or a point counts only on a link that is UP (R41), and the
lamps of a link that comes UP are unknown (R45). -/

namespace Sys2Proof.Machine

open Sys2Proof

theorem Plant.trackClear_iff (env : Env) (p : Plant) (sd : Side) (n : Nat) :
    Plant.trackClear env p sd n = true ↔
      (p.yardOf sd).trackClear n = true ∧ p.elementUp env sd (.track n) = true := by
  simp [Plant.trackClear]

theorem Plant.pointLies_iff (env : Env) (p : Plant) (sd : Side) (x : Point) (pos : Position) :
    Plant.pointLies env p sd x pos = true ↔ x.lies pos = true ∧ p.elementUp env sd (.point x.number) = true := by
  simp [Plant.pointLies]

/-- A drive starts only over a section that is CLEAR on a link that is UP. -/
theorem Plant.mayDrive_track (env : Env) (p : Plant) (sd : Side) (x : Point) (h : Plant.mayDrive env p sd x = true) :
    ∃ d, env.layout.point? x.number = some d ∧ Plant.trackClear env p sd d.track = true := by
  simp only [Plant.mayDrive, Plant.pointClear, Bool.and_eq_true, Option.any_eq_true] at h
  obtain ⟨⟨⟨⟨⟨-, d, hd, hc⟩, -⟩, -⟩, -⟩, -⟩ := h
  exact ⟨d, hd, hc⟩

/-- A slot opens only with every section of its route CLEAR on a link that is UP. -/
theorem Plant.mayOpen_tracks (env : Env) (p : Plant) (sl : Slot) (h : Plant.mayOpen env p sl = true) :
    ∃ r, env.slotRoute sl = some r ∧ ∀ n ∈ r.tracks, Plant.trackClear env p p.active n = true := by
  simp only [Plant.mayOpen, Option.any_eq_true, Bool.and_eq_true, List.all_eq_true] at h
  obtain ⟨r, hr, ⟨⟨⟨⟨⟨-, ht⟩, -⟩, -⟩, -⟩, -⟩⟩ := h
  exact ⟨r, hr, ht⟩

/-- The signals of a link that has come UP: the lamp is unknown, and every other field and signal stays. -/
theorem Plant.forgetLamps_signal? (env : Env) (p : Plant) (n k : Nat) :
    (Plant.forgetLamps env p n).yard.signal? k =
      (p.yard.signal? k).map fun g =>
        if (onLink SignalRecord.link SignalRecord.number n env.layout.signals).contains k then { g with lamp := none } else g :=
  findBy_loseAmong Signal.number (fun g => { g with lamp := none }) (fun _ => rfl) _ _ _

end Sys2Proof.Machine
end

