-- ==== Sys2Proof/Laws/Ports.lean ====
section
/-! SUPPORT. The reply path and the report queue of a port: what starting, finishing, answering and placing do (R178 to R180). -/

namespace Sys2Proof.Machine

open Sys2Proof

/-! ## The transmitter -/

/-- All that a transmitter looking for work can do: keep the frame in hand, start the waiting reply, start the oldest report, or
stay idle. -/
theorem PortOut.start_cases (o : PortOut) :
    (o.sending.isSome = true ∧ o.start = o) ∨
    (∃ r, o.sending = none ∧ o.reply = some r ∧ o.start = { o with sending := some (.reply r), reply := none }) ∨
    (∃ r rest, o.sending = none ∧ o.reply = none ∧ o.reports = r :: rest ∧
      o.start = { o with sending := some (.report r), reports := rest }) ∨
    (o.sending = none ∧ o.reply = none ∧ o.reports = [] ∧ o.start = o) := by
  rcases o with ⟨sending, reply, reports, _, _⟩
  cases sending with
  | some x => exact .inl ⟨rfl, rfl⟩
  | none =>
    cases reply with
    | some r => exact .inr (.inl ⟨r, rfl, rfl, rfl⟩)
    | none =>
      cases reports with
      | nil => exact .inr (.inr (.inr ⟨rfl, rfl, rfl, rfl⟩))
      | cons r rest => exact .inr (.inr (.inl ⟨r, rest, rfl, rfl, rfl, rfl⟩))

@[simp] theorem PortOut.start_enables (o : PortOut) : o.start.enables = o.enables := by
  rcases o.start_cases with ⟨_, h⟩ | ⟨_, _, _, h⟩ | ⟨_, _, _, _, _, h⟩ | ⟨_, _, _, h⟩ <;> rw [h]

@[simp] theorem PortOut.start_overrun (o : PortOut) : o.start.overrun = o.overrun := by
  rcases o.start_cases with ⟨_, h⟩ | ⟨_, _, _, h⟩ | ⟨_, _, _, _, _, h⟩ | ⟨_, _, _, h⟩ <;> rw [h]

/-- Starting a frame takes at most the oldest report from the queue. -/
theorem PortOut.start_reports (o : PortOut) : ∃ sent, o.reports = sent ++ o.start.reports := by
  rcases o.start_cases with ⟨_, h⟩ | ⟨_, _, _, h⟩ | ⟨r, _, _, _, hr, h⟩ | ⟨_, _, _, h⟩ <;> rw [h]
  · exact ⟨[], rfl⟩
  · exact ⟨[], rfl⟩
  · exact ⟨[r], by simp [hr]⟩
  · exact ⟨[], rfl⟩

theorem PortOut.start_reports_le (o : PortOut) : o.start.reports.length ≤ o.reports.length := by
  obtain ⟨sent, h⟩ := o.start_reports
  have := congrArg List.length h
  simp only [List.length_append] at this
  omega

/-! ## Replies -/

/-- A reply handed to the reply path stands on it. -/
theorem PortOut.putReply_replies (o : PortOut) (r : Reply) : (o.putReply r).replies r := by
  rcases o with ⟨sending, _, _, _, _⟩
  cases sending with
  | none => exact .inl rfl
  | some x => exact .inr rfl

@[simp] theorem PortOut.putReply_enables (o : PortOut) (r : Reply) : (o.putReply r).enables = o.enables := by
  simp [PortOut.putReply]

@[simp] theorem PortOut.putReply_overrun (o : PortOut) (r : Reply) : (o.putReply r).overrun = o.overrun := by
  simp [PortOut.putReply]

/-- A reply goes before every report: none leaves the queue for it. -/
@[simp] theorem PortOut.putReply_reports (o : PortOut) (r : Reply) : (o.putReply r).reports = o.reports := by
  rcases o with ⟨sending, _, _, _, _⟩
  cases sending <;> rfl

@[simp] theorem PortOut.sendIfOutstanding_enables (o : PortOut) : o.sendIfOutstanding.enables = o.enables := by
  unfold PortOut.sendIfOutstanding PortOut.frameSent; split <;> simp

@[simp] theorem PortOut.sendIfOutstanding_overrun (o : PortOut) : o.sendIfOutstanding.overrun = o.overrun := by
  unfold PortOut.sendIfOutstanding PortOut.frameSent; split <;> simp

theorem PortOut.sendIfOutstanding_reports (o : PortOut) : ∃ sent, o.reports = sent ++ o.sendIfOutstanding.reports := by
  unfold PortOut.sendIfOutstanding PortOut.frameSent
  split
  · exact PortOut.start_reports { o with sending := none }
  · exact ⟨[], rfl⟩

@[simp] theorem PortOut.finishReply_enables (o : PortOut) : o.finishReply.enables = o.enables := by
  simp [PortOut.finishReply]

@[simp] theorem PortOut.finishReply_overrun (o : PortOut) : o.finishReply.overrun = o.overrun := by
  simp [PortOut.finishReply]

/-- Finishing the reply before sends only reports that were queued before. -/
theorem PortOut.finishReply_reports (o : PortOut) : ∃ sent, o.reports = sent ++ o.finishReply.reports := by
  obtain ⟨a, ha⟩ := o.sendIfOutstanding_reports
  obtain ⟨b, hb⟩ := o.sendIfOutstanding.sendIfOutstanding_reports
  refine ⟨a ++ b, ?_⟩
  show o.reports = a ++ b ++ o.sendIfOutstanding.sendIfOutstanding.reports
  rw [List.append_assoc, ← hb, ← ha]

/-- Once finished, no reply is outstanding. -/
theorem PortOut.finishReply_idle (o : PortOut) : o.finishReply.replyOutstanding = false := by
  rcases o with ⟨sending, reply, reports, _, _⟩
  rcases sending with _ | (_ | _) <;> rcases reply with _ | _ <;> rcases reports with _ | ⟨_, _ | ⟨_, _⟩⟩ <;> rfl

/-! ## Reports -/

/-- All that placing a report can do (R180). -/
theorem PortOut.place_cases (o : PortOut) (r : Report) :
    (o.enables.admits r.body.cls = false ∧ o.place r = o) ∨
    (o.enables.admits r.body.cls = true ∧ o.reports.length < Config.reportCapacity ∧
      o.place r = PortOut.start { o with reports := o.reports ++ [r] }) ∨
    (o.enables.admits r.body.cls = true ∧ Config.reportCapacity ≤ o.reports.length ∧
      o.place r = { o with overrun := true }) := by
  by_cases h : o.enables.admits r.body.cls = true
  · by_cases hl : o.reports.length < Config.reportCapacity
    · exact .inr (.inl ⟨h, hl, by simp [PortOut.place, h, hl]⟩)
    · exact .inr (.inr ⟨h, Nat.le_of_not_lt hl, by simp [PortOut.place, h, hl]⟩)
  · exact .inl ⟨by simpa using h, by simp [PortOut.place, h]⟩

@[simp] theorem PortOut.place_enables (o : PortOut) (r : Report) : (o.place r).enables = o.enables := by
  rcases o.place_cases r with ⟨_, h⟩ | ⟨_, _, h⟩ | ⟨_, _, h⟩ <;> simp [h]

/-- A port whose report queue is within its capacity (R180). -/
def PortOut.bounded (o : PortOut) : Prop := o.reports.length ≤ Config.reportCapacity

theorem PortOut.start_bounded {o : PortOut} (h : o.bounded) : o.start.bounded :=
  Nat.le_trans o.start_reports_le h

theorem PortOut.frameSent_bounded {o : PortOut} (h : o.bounded) : o.frameSent.bounded :=
  Nat.le_trans (PortOut.start_reports_le _) h

theorem PortOut.putReply_bounded {o : PortOut} (r : Reply) (h : o.bounded) : (o.putReply r).bounded := by
  simpa [PortOut.bounded] using h

theorem PortOut.sendIfOutstanding_bounded {o : PortOut} (h : o.bounded) : o.sendIfOutstanding.bounded := by
  unfold PortOut.sendIfOutstanding
  split
  · exact PortOut.frameSent_bounded h
  · exact h

theorem PortOut.finishReply_bounded {o : PortOut} (h : o.bounded) : o.finishReply.bounded :=
  PortOut.sendIfOutstanding_bounded (PortOut.sendIfOutstanding_bounded h)

/-- Placing a report keeps the queue within its capacity. -/
theorem PortOut.place_bounded {o : PortOut} (r : Report) (h : o.bounded) : (o.place r).bounded := by
  rcases o.place_cases r with ⟨_, e⟩ | ⟨_, hl, e⟩ | ⟨_, _, e⟩ <;> rw [e]
  · exact h
  · refine Nat.le_trans (PortOut.start_reports_le _) ?_
    simpa using Nat.succ_le_of_lt hl
  · exact h

/-! ## The sending halves of the plant -/

/-- A change of a sending half touches no more of the plant than the two halves. -/
theorem Plant.mapOut_frame (p : Plant) (o : Port) (f : PortOut → PortOut) :
    p.mapOut o f = { p with planOut := (p.mapOut o f).planOut, deskOut := (p.mapOut o f).deskOut } := by cases o <;> rfl

/-- A report touches no more of the plant than the two sending halves. -/
theorem Plant.report_frame (p : Plant) (sd : Side) (b : ReportBody) :
    p.report sd b = { p with planOut := (p.report sd b).planOut, deskOut := (p.report sd b).deskOut } := rfl

/-- A change of one half that keeps queues within their capacity keeps both within it. -/
theorem Plant.mapOut_reportsBounded {p : Plant} (o : Port) {f : PortOut → PortOut}
    (hf : ∀ x : PortOut, x.bounded → (f x).bounded) (h : p.reportsBounded) : (p.mapOut o f).reportsBounded := by
  cases o
  · exact ⟨hf _ h.1, h.2⟩
  · exact ⟨h.1, hf _ h.2⟩

/-- A report placed keeps both queues within their capacity. -/
theorem Plant.reportOn_reportsBounded {p : Plant} (o : Port) (m : Bool) (b : ReportBody) (h : p.reportsBounded) :
    (p.reportOn o m b).reportsBounded :=
  Plant.mapOut_reportsBounded o (fun _ hx => PortOut.place_bounded _ hx) h

theorem Plant.report_reportsBounded {p : Plant} (sd : Side) (b : ReportBody) (h : p.reportsBounded) :
    (p.report sd b).reportsBounded :=
  Plant.reportOn_reportsBounded .desk _ b (Plant.reportOn_reportsBounded .plan _ b h)

end Sys2Proof.Machine
end

