-- ==== Sys2Proof/Laws/Telegrams.lean ====
section
/-! SUPPORT. What a telegram does: it waits, or is answered and given its effect; and what an answered state is (R89, R164,
R178, R179). -/

namespace Sys2Proof.Machine

open Sys2Proof

/-! ## Taking a telegram -/

/-- A refusal is the first whose condition holds. -/
theorem judge_refused {l : List (Bool × Reason)} {a : Answer} {r : Reason} (h : firstReason l = some r) :
    judge l a = .refused r := by simp [judge, h]

/-- With no refusal, the answer stands. -/
theorem judge_passed {l : List (Bool × Reason)} {a : Answer} (h : firstReason l = none) : judge l a = a := by
  simp [judge, h]

/-- A port that waits for a reset takes no telegram (R184). -/
theorem State.takeTelegram_waits {s : State} {port : Port} (h : s.portWaits port = true) (k : TelegramKind) (tag : Byte)
    (verdict : State → Answer) (effect : State → State) : s.takeTelegram k port tag verdict effect = s := by
  simp [State.takeTelegram, h]

/-- All that a telegram of a port that does not wait can do: it is answered, and given its effect unless it is refused. -/
theorem State.takeTelegram_eq {s : State} {port : Port} (h : s.portWaits port = false) (k : TelegramKind) (tag : Byte)
    (verdict : State → Answer) (effect : State → State) :
    let a := (s.dispatch port k.code tag).judged k verdict
    s.takeTelegram k port tag verdict effect =
      if a.outcome = .refused then s.answered port k.code tag a else effect (s.answered port k.code tag a) := by
  simp [State.takeTelegram, h, State.conclude, State.answered]

/-! ## The state once a telegram is dispatched and answered -/

@[simp] theorem State.dispatch_env (s : State) (port : Port) (kind tag : Byte) : (s.dispatch port kind tag).env = s.env := by
  simp [State.dispatch]

/-- Dispatching touches the receive buffer of the port, and its sending half. -/
theorem State.dispatch_frame (s : State) (port : Port) (kind tag : Byte) :
    s.dispatch port kind tag =
      { s.mapIn port fun i => { i with buffer := dropFront kind tag i.buffer } with
        plant := s.plant.mapOut port PortOut.finishReply } := by cases port <;> rfl

@[simp] theorem State.dispatch_freeze (s : State) (port : Port) (kind tag : Byte) :
    (s.dispatch port kind tag).plant.freeze = s.plant.freeze := by cases port <;> rfl

@[simp] theorem State.dispatch_store (s : State) (port : Port) (kind tag : Byte) :
    (s.dispatch port kind tag).store = s.store := by cases port <;> rfl

/-- A telegram that a state hears is judged by its own rule. -/
theorem State.judged_of_hears {s : State} {port : Port} {k : TelegramKind} (h : s.hears port k) (kind tag : Byte)
    (verdict : State → Answer) :
    (s.dispatch port kind tag).judged k verdict = verdict (s.dispatch port kind tag) := by
  rcases h.2 with h | h <;> simp [State.judged, Plant.frozen, h]

@[simp] theorem State.answered_env (s : State) (port : Port) (kind tag : Byte) (a : Answer) :
    (s.answered port kind tag a).env = s.env := by simp [State.answered]

@[simp] theorem State.answered_store (s : State) (port : Port) (kind tag : Byte) (a : Answer) :
    (s.answered port kind tag a).store = s.store := by cases port <;> rfl

@[simp] theorem State.answered_settings (s : State) (port : Port) (kind tag : Byte) (a : Answer) :
    (s.answered port kind tag a).settings = s.settings := by cases port <;> rfl

@[simp] theorem State.answered_register (s : State) (port : Port) (kind tag : Byte) (a : Answer) :
    (s.answered port kind tag a).register = s.register := by cases port <;> rfl

@[simp] theorem State.answered_pending (s : State) (port : Port) (kind tag : Byte) (a : Answer) :
    (s.answered port kind tag a).pending = s.pending := by cases port <;> rfl

/-- The plant once a telegram is answered: the sending halves, and the release permit of a desk telegram. -/
theorem State.answered_plant (s : State) (port : Port) (kind tag : Byte) (a : Answer) :
    (s.answered port kind tag a).plant =
      { s.plant with
        planOut := (s.answered port kind tag a).plant.planOut
        deskOut := (s.answered port kind tag a).plant.deskOut
        permit := if port = .desk then none else s.plant.permit } := by cases port <;> rfl

@[simp] theorem State.answered_yard (s : State) (port : Port) (kind tag : Byte) (a : Answer) :
    (s.answered port kind tag a).plant.yard = s.plant.yard := by cases port <;> rfl

@[simp] theorem State.answered_session (s : State) (port : Port) (kind tag : Byte) (a : Answer) :
    (s.answered port kind tag a).plant.session = s.plant.session := by cases port <;> rfl

@[simp] theorem State.answered_slots (s : State) (port : Port) (kind tag : Byte) (a : Answer) :
    (s.answered port kind tag a).plant.slots = s.plant.slots := by cases port <;> rfl

@[simp] theorem State.answered_queue (s : State) (port : Port) (kind tag : Byte) (a : Answer) :
    (s.answered port kind tag a).plant.queue = s.plant.queue := by cases port <;> rfl

@[simp] theorem State.answered_links (s : State) (port : Port) (kind tag : Byte) (a : Answer) :
    (s.answered port kind tag a).plant.links = s.plant.links := by cases port <;> rfl

@[simp] theorem State.answered_now (s : State) (port : Port) (kind tag : Byte) (a : Answer) :
    (s.answered port kind tag a).plant.now = s.plant.now := by cases port <;> rfl

@[simp] theorem State.answered_freeze (s : State) (port : Port) (kind tag : Byte) (a : Answer) :
    (s.answered port kind tag a).plant.freeze = s.plant.freeze := by cases port <;> rfl

@[simp] theorem State.answered_hold (s : State) (port : Port) (kind tag : Byte) (a : Answer) :
    (s.answered port kind tag a).plant.hold = s.plant.hold := by cases port <;> rfl

@[simp] theorem State.answered_mode (s : State) (port : Port) (kind tag : Byte) (a : Answer) :
    (s.answered port kind tag a).plant.mode = s.plant.mode := by cases port <;> rfl

@[simp] theorem State.answered_wantScan (s : State) (port : Port) (kind tag : Byte) (a : Answer) :
    (s.answered port kind tag a).plant.wantScan = s.plant.wantScan := by cases port <;> rfl

@[simp] theorem State.answered_wantRound (s : State) (port : Port) (kind tag : Byte) (a : Answer) :
    (s.answered port kind tag a).plant.wantRound = s.plant.wantRound := by cases port <;> rfl

end Sys2Proof.Machine
end

