-- ==== Sys2Proof/Laws/Settle.lean ====
section
/-! SUPPORT. The scans and rounds that follow an event, where there is nothing for them to do (R98, R99, R150). -/

namespace Sys2Proof.Machine

open Sys2Proof

/-- A scan of an empty queue changes nothing. -/
theorem Plant.scan_of_empty (env : Env) {p : Plant} (h : p.queue = []) : Plant.scan env p = p := by
  simp [Plant.scan, h]

/-- A round of a sequencer that does not work automatically changes nothing. -/
theorem Plant.round_of_idle (env : Env) {p : Plant} (h : Plant.automatic env p = false) : Plant.round env p = p := by
  simp [Plant.round, h]

/-- With no scan and no round left to be made, nothing is done. -/
theorem Plant.settle_of_settled (env : Env) (k : Nat) {p : Plant} (h : p.settledAlready) : Plant.settle env k p = p := by
  cases k with
  | zero => rfl
  | succ k => simp [Plant.settle, h.1, h.2]

theorem Plant.settled_of_settled (env : Env) {p : Plant} (h : p.settledAlready) : Plant.settled env p = p :=
  Plant.settle_of_settled env _ h

/-- A plant with no scan and no round left to be made is its own unmarked plant. -/
theorem Plant.unmarked_of_settled {p : Plant} (h : p.settledAlready) : p.unmarked = p := by
  obtain ⟨h1, h2⟩ := h
  cases p
  simp only at h1 h2
  subst h1 h2
  rfl

/-- On a quiet plant, a round asked for only clears its mark. -/
theorem Plant.settle_round_of_quiet (env : Env) (k : Nat) {p : Plant} (h : p.quiet env) (hs : p.wantScan = false) :
    Plant.settle env (k + 1) p = p.unmarked := by
  cases hv : p.wantRound with
  | false => rw [Plant.settle_of_settled env _ ⟨hs, hv⟩, Plant.unmarked_of_settled ⟨hs, hv⟩]
  | true =>
    have hr : Plant.round env { p with wantRound := false } = { p with wantRound := false } := Plant.round_of_idle env h.2
    have hd : ({ p with wantRound := false } : Plant).settledAlready := ⟨hs, rfl⟩
    rw [Plant.settle, if_neg (by simp [hs]), if_pos hv, hr, Plant.settle_of_settled env _ hd,
      ← Plant.unmarked_of_settled hd]
    rfl

/-- On a quiet plant the scans and rounds only clear their marks. -/
theorem Plant.settle_of_quiet (env : Env) (k : Nat) {p : Plant} (h : p.quiet env) :
    Plant.settle env (k + 2) p = p.unmarked := by
  cases hw : p.wantScan with
  | false => exact Plant.settle_round_of_quiet env _ h hw
  | true =>
    have hs : Plant.scan env { p with wantScan := false } = { p with wantScan := false } := Plant.scan_of_empty env h.1
    rw [Plant.settle, if_pos hw, hs]
    exact Plant.settle_round_of_quiet env k (p := { p with wantScan := false }) h rfl

/-- On a quiet plant, an event leaves what it gives with no scan and no round to be made. -/
theorem Plant.settled_of_quiet (env : Env) {p : Plant} (h : p.quiet env) : Plant.settled env p = p.unmarked :=
  Plant.settle_of_quiet env _ h

/-- The scans and rounds of a quiet plant leave it quiet, so that those of the events after it have nothing to do either. -/
theorem Plant.quiet_settled (env : Env) {p : Plant} (h : p.quiet env) : (Plant.settled env p).quiet env := by
  rw [Plant.settled_of_quiet env h]
  exact h

@[simp] theorem Plant.unmarked_unmarked (p : Plant) : p.unmarked.unmarked = p.unmarked := rfl

/-- Events one after the other, each of which leaves a quiet plant quiet, leave a quiet plant. -/
theorem Plant.quiet_foldl_settled {α : Type} (env : Env) (f : Plant → α → Plant)
    (hf : ∀ p x, p.quiet env → (f p x).quiet env) (l : List α) {p : Plant} (h : p.quiet env) :
    (l.foldl (fun q x => Plant.settled env (f q x)) p).quiet env := by
  induction l generalizing p with
  | nil => exact h
  | cons x l ih => exact ih (Plant.quiet_settled env (hf p x h))

end Sys2Proof.Machine
end

