-- ==== Sys2Proof/Tests/Slice0.lean ====
section
/-! SUPPORT. Tests on one small yard: ill-formed commands refused, results worked by hand from the tables and examples of the
description, and for every statement with hypotheses a state and operands that meet them. -/

-- One test at a time: each evaluation by the kernel waits for the theorem before it, and side by side the waiting threads
-- would be more than the check allows.
set_option Elab.async false

namespace Sys2Proof.Machine.Tests

open Sys2Proof

/-! ## A small yard -/

/-- What a step answers, as a state: the state before, had it stopped. -/
def after (c : Instr) (s : State) : State :=
  match exec c s with
  | .next t => t
  | _ => s

/-- The records of the yard: one inbound and one outbound route for road B5. -/
def records : List LayoutRecord :=
  [.track ⟨1, 1⟩, .track ⟨2, 1⟩, .track ⟨3, 1⟩, .track ⟨4, 2⟩, .track ⟨40, 2⟩,
   .point ⟨1, 1, 1⟩, .point ⟨4, 1, 4⟩, .signal ⟨1, 1⟩, .signal ⟨7, 1⟩,
   .gate ⟨1, some 1, some 40, 1⟩, .gate ⟨2, none, none, 1⟩, .road ⟨5, 1200, 0xF, some 7, some 3⟩,
   .route ⟨5, .g1, .berth (.road 5), 1, [(1, .reverse)], [(4, .normal)], [1, 2, 3], some 40, some 60⟩,
   .route ⟨17, .berth (.road 5), .g2, 7, [(4, .reverse)], [], [3, 4], none, none⟩]

/-- The layout of the yard. -/
def layout : Layout := records.foldl Layout.put .empty

/-- Two trams known to the register. -/
def trams : List RegisterEntry := [⟨101, 300, 1, some 400⟩, ⟨102, 250, 2, none⟩]

/-- The part cold-started with the yard stored under identity 7. -/
def started : State :=
  { State.reset with
    store := { State.reset.store with kept := ⟨some ⟨7, layout⟩, none⟩ }
    register := { State.reset.register with kept := ⟨some trams, none⟩ } }.coldReset .good

/-- A yard whose elements have all been reported. -/
def reported (y : Yard) : Yard :=
  { y with
    points := y.points.map fun x => { x with state := .normal, detected := some .normal }
    tracks := y.tracks.map fun x => { x with state := .clear }
    signals := y.signals.map fun g => { g with reported := some .stop, lamp := some .ok, answered := some g.command } }

/-- The links of a plant made UP. -/
def linksUp (p : Plant) : List Link := p.links.map fun l => { l with state := .up }

/-- The yard at work in MANUAL: every link UP, every element reported, no hold, both ports empty. -/
def ready : State :=
  { started with
    plant := { started.plant with
      yard := reported started.plant.yard, links := linksUp started.plant, hold := none, planOut := .reset,
      deskOut := .reset, wantScan := false, wantRound := false } }

/-- The yard at work with its plant changed. -/
def readyWith (f : Plant → Plant) : State := { ready with plant := f ready.plant }

/-- Every permit of both ports open. -/
def permitted : State :=
  { ready with planIn := ⟨[], [], true, true, true⟩, deskIn := ⟨[], [], true, true, true⟩ }

/-- Tram 101 first in the arrival queue, road B5 verified and empty. -/
def arriving : State := readyWith fun p =>
  { p with yard := { p.yard with
      arrivals := [⟨101, 300, 1, some 400, true, none⟩], roads := [⟨.road 5, [], false, true⟩] } }

/-- The same with section 1 OCCUPIED, so that no route over it can be taken. -/
def barred : State := { arriving with plant := arriving.plant.mapTrack .real 1 fun x => { x with state := .occupied } }

/-- A request of the desk for route 5, waiting. -/
def request : Request := ⟨5, .desk, some 101, 0, none, 300000, none, 0, false⟩

/-- The yard at work with that request queued. -/
def queued : State := readyWith fun p => { p with queue := [request] }

/-- Route 5 taken for tram 101 into slot 1: SETTING, point 1 on its way. -/
def setting : State := after (.requestRoute .desk 1 5 101) arriving

/-- The same, LOCKED once the point lies reverse, and OPEN once the signal shows PROCEED. -/
def opened : State :=
  after (.signalReport 1 1 .proceed .ok 1) (after (.pointDetectionReport 1 1 (some .reverse)) setting)

/-- The same, once the tram stands on section 1, and once it has run on to section 2. -/
def entered : State := after (.sectionReport 1 1 .occupied) opened
def inside : State := after (.sectionReport 1 2 .occupied) entered

/-- The same, with only section 3 still to clear, and OCCUPIED. -/
def leaving : State :=
  after (.sectionReport 1 2 .clear) (after (.sectionReport 1 3 .occupied) (after (.sectionReport 1 1 .clear) inside))

/-- The same, with a tram on the approach. -/
def approached : State := { opened with plant := opened.plant.mapTrack .real 40 fun x => { x with state := .occupied } }

/-- The same with the release permit open. -/
def releasing : State := { opened with plant := { opened.plant with permit := some 10000 } }

/-- Slot 1 of a state. -/
def slot1 (s : State) : Slot := (s.plant.slot? 1).getD (Slot.free 1)

/-- Point 1 of a state. -/
def point1 (s : State) : Point := (s.plant.yard.point? 1).getD (Point.fresh 1)

/-- Signal 1 of a state. -/
def signal1 (s : State) : Signal := (s.plant.yard.signal? 1).getD (Signal.fresh 1)

/-- Link 1 of a state. -/
def link1 (s : State) : Link := (s.plant.link? 1).getD ⟨1, .up, 0, 0, 0, 0, false⟩

/-- Route 5 of the layout. -/
def route5 : RouteRecord :=
  ⟨5, .g1, .berth (.road 5), 1, [(1, .reverse)], [(4, .normal)], [1, 2, 3], some 40, some 60⟩

/-- The yard frozen by ALL STOP. -/
def frozen : State := after (.allStop .desk 1) ready

/-- The freeze record of that yard. -/
def allStopRecord : FreezeRecord := ⟨⟨1, .allStop, none, none, none, none⟩, [], false⟩

/-- An OPEN fault record of point 1. -/
def fault1 : FaultRecord := ⟨1, .throwNoDetection, some (.point 1), none, none, none, [], false, false, false⟩

/-- The yard at work with that record in its fault list. -/
def faulty : State := readyWith fun p => { p with yard := { p.yard with faults := ⟨[fault1], 2, false⟩ } }

/-- The copies of a session just begun. -/
def copies : Session :=
  { rate := 1, base := 0, copy := ready.plant.yard.copy, obstruct := [], noDetect := [], disturb := [], readFail := false,
    drives := [], runs := [], nextRun := 1, departures := 0, missed := 0, arrivals := 0, faults := 0 }

/-- A session on the copies. -/
def rehearsingOn (c : Session) : State := readyWith fun p => { p with session := some c }

/-- A throw of point 1 begun at time 0. -/
def throwFor (target : Position) (pauseEnd : Option Nat) : Throw :=
  ⟨target, .desk, 60, 45, 3, 2, 0, 0, 0, 0, 0, 0, pauseEnd⟩

/-- Point 1 driven toward REVERSE. -/
def moving1 (y : Yard) : Yard :=
  { y with
    points := updBy Point.number 1 (fun x => { x with state := .moving, throw := some (throwFor .reverse none) }) y.points }

/-- The same in a retry pause that ends at 1000 ms. -/
def waiting1 (y : Yard) : Yard :=
  { y with
    points := updBy Point.number 1
      (fun x => { x with state := .retryWait, throw := some (throwFor .reverse (some 1000)) }) y.points }

/-- The yard at work with point 1 driven. -/
def driven : State := readyWith fun p => { p with yard := moving1 p.yard }

/-- A throw of point 1 whose runs are one sample short of their limits. -/
def nearlyEnded : Throw := { throwFor .reverse none with samples := 20, obstructionRun := 4, openRun := 9, obstruction := 45 }

/-- Point 1 in a state with that throw. -/
def strained (st : PointState) : State := readyWith fun p => p.mapPoint .real 1 fun x =>
  { x with state := st, detected := none, throw := some nearlyEnded }

/-- The yard at work with a link in a state. -/
def linked (st : LinkState) (bad : Nat) : State := readyWith fun p => p.mapLink 1 fun l => { l with state := st, bad := bad }

/-- A staging area of the desk port that holds the layout under a fresh identity. -/
def staging : Staging := ⟨.desk, 7, 8, false, layout⟩

/-- Every permit open and that staging area begun. -/
def staged : State := { permitted with store := { permitted.store with staging := some staging } }

/-- A simulated drive that has begun at 0, and a simulated run whose next step is due at 5000. -/
def drive1 : SimDrive := ⟨1, .reverse, 0, false, false, 0⟩
def run1 : SimRun := ⟨1, 1, 1, some 101, [1, 2, 3], false, 0, some 5000⟩

/-- The session once 5 s of its time have passed. -/
def later : Session := { copies with base := 5000, copy := moving1 copies.copy, drives := [drive1] }
def running : Session := { copies with base := 5000, runs := [run1] }

/-- What holds of the one value there is holds of any. -/
theorem of_some {α : Type} {o : Option α} {a : α} {P : α → Prop} (h : o = some a) (hp : P a) : ∀ g, o = some g → P g := by
  intro g hg
  rw [h] at hg
  cases hg
  exact hp

/-- Where there is no value, anything holds of every one. -/
theorem of_none {α : Type} {o : Option α} {P : α → Prop} (h : o = none) : ∀ g, o = some g → P g := by
  intro g hg
  rw [h] at hg
  cases hg

/-! ## States that meet the statements' hypotheses -/

/-- Whether an outcome is a next state. -/
def isNext (o : Host.Outcome State Fault Refusal) : Bool :=
  match o with
  | .next _ => true
  | _ => false

theorem next_of_isNext {o : Host.Outcome State Fault Refusal} (h : isNext o = true) : ∃ t, o = .next t := by
  cases o with
  | next t => exact ⟨t, rfl⟩
  | fault f => cases h
  | refused r => cases h

/-- The yard at work with a command waiting. -/
def asked : State := { ready with pending := [.status .desk 1] }

theorem witness_ConflictTableKept : asked.conflictsDerived ∧ ∃ t, step asked = .next t := by
  refine ⟨?_, next_of_isNext (by decide +kernel)⟩
  unfold State.conflictsDerived
  decide +kernel

theorem witness_StoredValuesKept : asked.storesInRange ∧ ∃ t, step asked = .next t := by
  have in_order : registerInOrder trams := by
    unfold registerInOrder
    decide +kernel
  have h1 : asked.settings.kept = ⟨some .default, some .default⟩ := by decide +kernel
  have h2 : asked.register = ⟨trams, ⟨some trams, none⟩⟩ := by decide +kernel
  refine ⟨⟨by decide +kernel, ?_, ?_, ?_⟩, next_of_isNext (by decide +kernel)⟩
  · rw [h1]
    exact ⟨of_some rfl (by decide +kernel), of_some rfl (by decide +kernel)⟩
  · rw [h2]
    exact in_order
  · rw [h2]
    exact ⟨of_some rfl in_order, of_none rfl⟩

/-- A receiver in the middle of a frame, with one frame waiting: its body is of the least length, 2. -/
def halfway : State := { asked with deskIn := ⟨[startByte, 2, 1], [[0x01, 0x05]], false, false, false⟩ }

theorem witness_ReceiversKept : halfway.receiversInForm ∧ ∃ t, step halfway = .next t := by
  refine ⟨⟨⟨trivial, ?_, ?_⟩, ⟨?_, ?_, ?_⟩⟩, next_of_isNext (by decide +kernel)⟩
  · decide +kernel
  · decide +kernel
  · exact ⟨rfl, by decide, by decide⟩
  · decide +kernel
  · decide +kernel

theorem witness_ReportQueuesKept : asked.plant.reportsBounded ∧ ∃ t, step asked = .next t := by
  refine ⟨?_, next_of_isNext (by decide +kernel)⟩
  unfold Plant.reportsBounded
  decide +kernel

/-- Bodies of 2 and of 250 bytes, the ends of the range. -/
theorem witness_FrameReceivedWhole :
    (2 ≤ ([0x01, 0x05] : List Byte).length ∧ ([0x01, 0x05] : List Byte).length ≤ 250) ∧
      2 ≤ (List.replicate 250 (0 : Byte)).length ∧ (List.replicate 250 (0 : Byte)).length ≤ 250 := by decide +kernel

theorem witness_ByteLayoutsOfTables : (5 < 256 ∧ 0 < 65536) ∧ 255 < 256 ∧ 65535 < 65536 := by decide

theorem witness_FrozenYardRefuses :
    (Instr.takeControl .desk 1).telegram = some (.desk, 1, .takeControl) ∧ TelegramKind.takeControl.takenFrozen = true ∧
      (Instr.readRoad .desk 1 (.road 5)).telegram = some (.desk, 1, .readRoad) ∧ TelegramKind.setClock.takenFrozen = false ∧
      (Instr.setClock .plan 1 0 0).telegram = some (.plan, 1, .setClock) ∧ frozen.plant.freeze.isSome = true ∧
      frozen.portWaits .plan = false := by decide +kernel

theorem witness_StatusShowsTheYard : frozen.portWaits .plan = false ∧ ready.portWaits .desk = false := by decide +kernel

theorem witness_PortTelegrams :
    ready.portWaits .desk = false ∧ ready.hears .plan .openPermit ∧ staged.hears .desk .closePermit ∧
      ready.hears .desk .setReporting := by
  unfold State.hears
  decide +kernel

/-- The least and the greatest number, and the two whose values are 0 or 1; a value at the limit, and one beyond it. -/
theorem witness_ParameterTelegrams :
    permitted.hears .desk .setParameter ∧ (permitted.portIn .desk).settingsPermit = true ∧
      ((1 = 14 ∨ 1 = 17) → 65535 ≤ 1) ∧ ((14 = 14 ∨ 14 = 17) → 1 ≤ 1) ∧
      Plant.gapAllowed permitted.env permitted.plant (paramTaken 9 50) = true ∧
      Plant.gapAllowed permitted.env permitted.plant (paramTaken 9 65535) = true ∧ permitted.portWaits .plan = false := by
  unfold State.hears
  decide +kernel

theorem witness_UnknownFrameAnsweredMalformed :
    ready.portWaits .desk = false ∧ ready.plant.freeze = none ∧ 0x80 ≤ (0x80 : Byte).toNat ∧ (0x7F : Byte).toNat < 0x80 := by
  decide +kernel

/-- A receive buffer that holds 4 frames. -/
def crowded : State := { ready with deskIn := { ready.deskIn with buffer := List.replicate 4 [0x01, 0x05] } }

/-- The plan port silent, its limit OFF. -/
def silent : State := readyWith fun p => { p with silence := { p.silence with silent := true } }
def unsupervised : State := readyWith fun p => { p with silence := { p.silence with limit := none } }

theorem witness_LineFrames :
    ((ready.portIn .plan).assembling = [] ∧ ready.plant.settledAlready ∧ ready.plant.silence.silent = false) ∧
      ((ready.portIn .plan).buffer.length < 4 ∧ ready.plant.silence.limit = some 30000) ∧
      ((crowded.portIn .desk).assembling = [] ∧ crowded.plant.settledAlready) ∧
      ((silent.portIn .plan).assembling = [] ∧ silent.plant.settledAlready ∧ silent.plant.silence.limit = some 30000 ∧
        silent.plant.silence.silent = true ∧ silent.plant.mode = .manual) ∧
      ((unsupervised.portIn .plan).assembling = [] ∧ unsupervised.plant.settledAlready ∧
        unsupervised.plant.silence.limit = none) ∧
      4 ≤ (crowded.portIn .desk).buffer.length ∧ (receiveBytes [] [startByte, 2, 1, 5]).2 = [] ∧
      lengthInRange 1 = false ∧ lengthInRange 251 = false := by
  unfold Plant.settledAlready
  decide +kernel

theorem witness_SetClockWritesTheClock :
    ready.hears .desk .setClock ∧ (2159 ≤ 2159 ∧ 59 ≤ 59) ∧ Plant.quiet ready.env ready.plant ∧
      (rehearsingOn copies).hears .desk .setClock ∧ Plant.quiet (rehearsingOn copies).env (rehearsingOn copies).plant ∧
      (rehearsingOn copies).plant.session.isSome = true := by
  unfold State.hears Plant.quiet
  decide +kernel

/-- The yard in AUTOMATIC, silent, with a request of the plan waiting. -/
def automatic : State := readyWith fun p =>
  { p with mode := .automatic, queue := [{ request with origin := .plan }], silence := { p.silence with silent := true } }

theorem witness_ControlModeTelegrams :
    (automatic.portWaits .desk = false ∧ ∀ r ∈ automatic.plant.queue, r.origin = .plan) ∧
      queued.hears .desk .returnControl ∧ (∀ r ∈ queued.plant.queue, r.origin = .desk) ∧
      (started.plant.hold.isSome = true ∧ started.hears .desk .returnControl ∧
        ∀ r ∈ started.plant.queue, r.origin = .desk) := by
  unfold State.hears
  decide +kernel

/-- A queued request of the desk while the plan port is silent. -/
def queuedSilent : State :=
  { queued with plant := { queued.plant with silence := { queued.plant.silence with silent := true } } }

theorem witness_ControlModeTelegrams_return :
    queuedSilent.hears .desk .returnControl ∧ (∀ r ∈ queuedSilent.plant.queue, r.origin = .desk) ∧
      queuedSilent.plant.silence.silent = true := by
  unfold State.hears
  decide +kernel

/-- An entry above its range in length, one below it. -/
def entries : List TramFields := [⟨103, 65535, 4, 3000⟩, ⟨9999, 0, 1, 65535⟩]

theorem witness_TramEntryReplaces :
    ready.hears .plan .tramEntry ∧ ready.plant.session = none ∧ 1 ≤ entries.length ∧ entries.length ≤ 10 ∧
      (∀ e ∈ entries, 1 ≤ e.tram ∧ e.tram ≤ 9999 ∧ 1 ≤ e.cls ∧ e.cls ≤ 4) ∧ (entries.map TramFields.tram).Nodup ∧
      (enterTrams ready.register.trams entries).length ≤ 160 := by
  unfold State.hears
  decide +kernel

theorem witness_TramRemoveDeletes :
    (ready.portWaits .plan = false ∧ ready.portWaits .desk = false ∧ frozen.portWaits .plan = false) ∧
      (∀ l, TramNames.list [101] = .list l → 1 ≤ l.length ∧ l.length ≤ 10) ∧ frozen.plant.freeze.isSome = true ∧
      (ready.plant.freeze = none ∧ ready.plant.session = none) ∧
      ((rehearsingOn copies).plant.freeze = none ∧ (rehearsingOn copies).plant.session.isSome = true ∧
        (rehearsingOn copies).portWaits .plan = false) ∧
      tramNamesInRange (.list [0]) = false ∧ tramNamesInRange (.list [9999]) = true ∧
      namesTram (.list [101]) 101 = true ∧ namesTram (.list [101]) 102 = false := by
  refine ⟨by decide +kernel, ?_, by decide +kernel⟩
  intro l h
  cases h
  decide

theorem witness_RunOutPlanAddsEntry :
    ready.hears .plan .runOutPlan ∧ ready.store.held = true ∧ ready.plant.current.runOut? 9999 = none ∧
      ready.plant.current.runOut.length < 64 ∧ Plant.quiet ready.env ready.plant := by
  unfold State.hears Plant.quiet
  decide +kernel

theorem witness_RunOutClearRemoves :
    ready.hears .plan .runOutClear ∧ ready.store.held = true ∧
      (∀ l, TramNames.list [101] = .list l → 1 ≤ l.length ∧ l.length ≤ 16) ∧ Plant.quiet ready.env ready.plant := by
  refine ⟨?_, by decide +kernel, ?_, ?_⟩
  · unfold State.hears
    decide +kernel
  · intro l h
    cases h
    decide
  · unfold Plant.quiet
    decide +kernel

theorem witness_RequestRouteQueues :
    barred.portWaits .desk = false ∧
      Plant.requestRefusal barred.env barred.plant (barred.plant.hasAuthority .desk) 5 (tramField 101) = none ∧
      barred.store.layout.route? 5 = some route5 ∧ Plant.quiet barred.env barred.plant ∧
      1 ≤ barred.settings.stored.bypassLimit ∧
      Plant.takeTest barred.env barred.plant route5 (tramField 101) = .wait := by
  unfold Plant.quiet
  decide +kernel

/-- The same with point 1 lying where route 5 wants it. -/
def aligned : State :=
  { arriving with plant := arriving.plant.mapPoint .real 1 fun x => { x with state := .reverse, detected := some .reverse } }

theorem witness_RequestRouteQueues_taken :
    ∀ s ∈ [arriving, aligned],
      s.portWaits .desk = false ∧ Plant.requestRefusal s.env s.plant (s.plant.hasAuthority .desk) 5 (tramField 101) = none ∧
        s.store.layout.route? 5 = some route5 ∧ Plant.quiet s.env s.plant ∧ 1 ≤ s.settings.stored.bypassLimit ∧
        Plant.takeTest s.env s.plant route5 (tramField 101) = .takes 101 ∧
        s.plant.slots.find? (fun x => !x.inUse) = some (Slot.free 1) ∧ s.plant.slot? 1 = some (Slot.free 1) ∧
        (route5.required.map (·.1)).Nodup := by
  unfold Plant.quiet
  decide +kernel

/-- Route 17 asked for first by the desk, and made to wait by its section 4, with a bypass count. -/
def elder (bypass : Nat) (held : Bool) : Request := { request with route := 17, tram := none, bypass := bypass, held := held }
def behind (bypass : Nat) (held : Bool) : State :=
  { arriving with
    plant := { (arriving.plant.mapTrack .real 4 fun x => { x with state := .occupied }) with queue := [elder bypass held] } }

/-- Route 17 of the layout. -/
def route17 : RouteRecord := ⟨17, .berth (.road 5), .g2, 7, [(4, .reverse)], [], [3, 4], none, some 60⟩

/-- An older request HELD, one overtaken for the first time, and one that the limit, 3, makes HELD. -/
theorem witness_RequestRouteQueues_behind :
    ∀ x ∈ [(3, true), (0, false), (2, false)],
      let s := behind x.1 x.2
      s.portWaits .desk = false ∧ Plant.requestRefusal s.env s.plant (s.plant.hasAuthority .desk) 5 (tramField 101) = none ∧
        s.store.layout.route? 5 = some route5 ∧ Plant.automatic s.env s.plant = false ∧ s.settings.stored.bypassLimit = 3 ∧
        s.plant.queue = [elder x.1 x.2] ∧ s.store.layout.route? (elder x.1 x.2).route = some route17 ∧
        s.env.conflict (elder x.1 x.2).route 5 = true ∧
        Plant.takeTest s.env s.plant route17 (elder x.1 x.2).tram = .wait ∧
        Plant.takeTest s.env s.plant route5 (tramField 101) = .takes 101 ∧
        s.plant.slots.find? (fun x => !x.inUse) = some (Slot.free 1) ∧ s.plant.slot? 1 = some (Slot.free 1) ∧
        (route5.required.map (·.1)).Nodup := by decide +kernel

/-- Slot 1 LOCKED and never opened, its entry signal's lamp FAILED; and LOCKED again after it was OPEN, its lamp then FAILED, with
the approach CLEAR and OCCUPIED. -/
def unopened : State :=
  after (.pointDetectionReport 1 1 (some .reverse)) (after (.signalReport 1 1 .stop .failed 0) setting)
def reverted : State := after (.signalReport 1 1 .stop .failed 1) opened
def revertedNear : State := after (.signalReport 1 1 .stop .failed 1) approached

theorem witness_CancelRouteWithdraws :
    queued.hears .desk .cancelRoute ∧ queued.plant.hasAuthority .desk = true ∧ queued.store.held = true ∧
      (queued.store.layout.route? request.route).isSome = true ∧ queued.plant.queue = [request] ∧
      request.origin ≠ .automatic ∧ Plant.automatic queued.env queued.plant = false := by
  unfold State.hears
  decide +kernel

theorem witness_CancelRouteWithdraws_open :
    approached.hears .desk .cancelRoute ∧ approached.plant.hasAuthority .desk = true ∧ approached.store.held = true ∧
      approached.store.layout.route? 5 = some route5 ∧ Plant.quiet approached.env approached.plant ∧
      approached.plant.slotOfRoute 5 = some (slot1 approached) ∧
      approached.plant.slot? (slot1 approached).number = some (slot1 approached) ∧ (slot1 approached).state = .opened ∧
      Plant.approachClear approached.env approached.plant route5 = false := by
  unfold State.hears Plant.quiet
  decide +kernel

/-- Slots freed at once: SETTING, LOCKED and never opened, and opened once with the approach CLEAR; and one that is not. -/
theorem witness_CancelRouteWithdraws_freed :
    (∀ s ∈ [setting, unopened, opened, reverted, revertedNear],
      s.hears .desk .cancelRoute ∧ s.plant.hasAuthority .desk = true ∧ s.store.held = true ∧
        s.store.layout.route? 5 = some route5 ∧ Plant.quiet s.env s.plant ∧ s.plant.slotOfRoute 5 = some (slot1 s) ∧
        s.plant.slot? (slot1 s).number = some (slot1 s)) ∧
    (slot1 setting).state = .setting ∧ ((slot1 unopened).state = .locked ∧ (slot1 unopened).openedOnce = false) ∧
      (∀ s ∈ [reverted, revertedNear], (slot1 s).state = .locked ∧ (slot1 s).openedOnce = true) ∧
      (slot1 opened).state = .opened ∧ (∀ s ∈ [opened, reverted], Plant.approachClear s.env s.plant route5 = true) ∧
      Plant.approachClear revertedNear.env revertedNear.plant route5 = false := by
  unfold State.hears Plant.quiet
  decide +kernel

theorem witness_ReleasePermitOpensAndLapses :
    ready.hears .desk .grantReleasePermit ∧ releasing.plant.permit = some 10000 := by
  unfold State.hears
  decide +kernel

theorem witness_EmergencyReleaseTimes :
    releasing.hears .desk .emergencyRelease ∧ releasing.plant.permit.isSome = true ∧ releasing.store.held = true ∧
      releasing.store.layout.route? 5 = some route5 ∧ Plant.quiet releasing.env releasing.plant ∧
      releasing.plant.slotOfRoute 5 = some (slot1 releasing) ∧
      releasing.plant.slot? (slot1 releasing).number = some (slot1 releasing) ∧ (slot1 releasing).unopened = false ∧
      (slot1 releasing).state ≠ .emergencyTiming := by
  unfold State.hears Plant.quiet
  decide +kernel

theorem witness_ThrowPointDrives :
    ready.hears .desk .throwPoint ∧ ready.plant.mode = .manual ∧ ready.store.held = true ∧ ready.plant.hold = none ∧
      ready.plant.session = none ∧ ready.plant.yard.point? 1 = some (point1 ready) ∧
      ((point1 ready).state = .failed ∨ (point1 ready).state = Position.reverse.opposite.state) ∧
      (point1 ready).outOfUse = false ∧ (point1 ready).claim = none ∧ (point1 ready).locks = [] ∧
      (point1 ready).throw = none ∧ Plant.pointClear ready.env ready.plant .real 1 = true ∧
      ready.env.layout.linkOf (.point 1) = some 1 ∧ ready.plant.linkUp 1 = true ∧ ready.plant.queue = [] := by
  unfold State.hears
  decide +kernel

/-- The yard at work while link 2, that of section 4 alone, trains after a commit that kept the section CLEAR. -/
def kept : State := readyWith fun p => p.mapLink 2 fun l => { l with state := .training }

/-- A point over an OCCUPIED section, and one over a section that is CLEAR on a link that is not UP. -/
theorem witness_ThrowPointDrives_held :
    (∀ x ∈ [(barred, 1), (kept, 4)],
      x.1.hears .desk .throwPoint ∧ x.1.plant.mode = .manual ∧ x.1.store.held = true ∧ x.1.plant.hold = none ∧
        x.1.plant.session = none ∧
        (x.1.plant.yard.point? x.2).any (fun y => y.state == Position.reverse.opposite.state && !y.outOfUse &&
          y.claim.isNone && y.locks.isEmpty && y.throw.isNone) = true) ∧
    barred.store.layout.point? 1 = some ⟨1, 1, 1⟩ ∧ barred.plant.yard.trackState 1 ≠ .clear ∧
    kept.store.layout.point? 4 = some ⟨4, 1, 4⟩ ∧ kept.plant.yard.trackState 4 = .clear ∧
    kept.plant.elementUp kept.env .real (.track 4) = false := by
  unfold State.hears
  decide +kernel

theorem witness_PointUseWritesFlag :
    ready.hears .desk .pointUse ∧ ready.store.held = true ∧ ready.plant.session = none ∧
      Plant.quiet ready.env ready.plant ∧ ready.plant.yard.point? 1 = some (point1 ready) ∧
      (point1 ready).throw = none ∧ (point1 ready).claim = none := by
  unfold State.hears Plant.quiet
  decide +kernel

theorem witness_AllStopFreezesTheYard :
    opened.hears .desk .allStop ∧ driven.hears .desk .allStop ∧ (rehearsingOn copies).hears .desk .allStop := by
  unfold State.hears
  decide +kernel

theorem witness_FreezeAcknowledgeEndsTheFreeze :
    frozen.portWaits .desk = false ∧ frozen.plant.freeze = some allStopRecord ∧
      Plant.primaryGone frozen.env frozen.plant allStopRecord.primary = true ∧
      frozen.plant.current.faults.records.length < 16 := by decide +kernel

theorem witness_ClearFaultClears :
    faulty.portWaits .plan = false ∧
      findBy FaultRecord.number 1 faulty.plant.current.faults.records = some fault1 ∧ fault1.cleared = false ∧
      Plant.conditionGone faulty.env faulty.plant fault1 = true ∧ Plant.quiet faulty.env faulty.plant := by
  unfold Plant.quiet
  decide +kernel

theorem witness_ReadingChangesNothing :
    (ready.portWaits .plan = false ∧ ready.store.held = true ∧ ready.plant.current.point? 1 = some (point1 ready) ∧
      ready.plant.current.track? 1 = some ⟨1, .clear, none⟩ ∧ ready.plant.current.signal? 1 = some (signal1 ready)) ∧
    (ready.plant.current.reader? 1 = some ⟨1, none, none⟩ ∧ ready.env.layout.linkOf (.reader 1) = some 1 ∧
      ready.plant.link? 1 = some (link1 ready) ∧ ready.plant.current.road? (.road 5) = some ⟨.road 5, [], false, false⟩) ∧
    (ready.store.layout.record? (.point 1) = some (.point ⟨1, 1, 1⟩) ∧ ready.store.layout.route? 5 = some route5) ∧
    (staged.portWaits .desk = false ∧ staged.store.staging = some staging ∧ staging.owner = .desk ∧
      staging.layout.record? (.point 1) = some (.point ⟨1, 1, 1⟩)) ∧
    (faulty.portWaits .plan = false ∧ 1 ≤ 1 ∧ faulty.plant.current.faults.records[1 - 1]? = some fault1) ∧
    frozen.portWaits .plan = false := by decide +kernel

theorem witness_AllocateQueryRanks :
    (ready.hears .plan .allocateQuery ∧ ready.store.held = true ∧ ready.env.tram? 101 = some ⟨101, 300, 1, some 400⟩) ∧
      (arriving.hears .plan .allocateQuery ∧ arriving.store.held = true ∧
        arriving.plant.current.arrivals = [⟨101, 300, 1, some 400, true, none⟩]) ∧
      ∃ c, Plant.judgeRoad arriving.env arriving.plant ⟨101, 300, 1, some 400⟩ 5 = .ok c := by
  refine ⟨?_, ?_, ⟨5, 0, 330, .empty, false, 900, 240, 90⟩, ?_⟩
  · unfold State.hears
    decide +kernel
  · unfold State.hears
    decide +kernel
  · rfl

/-- Road B5 with a tram in front that leaves at a minute. -/
def fronted (departure : Nat) : State := readyWith fun p =>
  { p with yard := { p.yard with
      roads := [⟨.road 5, [⟨102, 250, 2, some departure, .stabled, none⟩], false, true⟩] } }

/-- An empty road, a front tram that leaves in the same minute, and one that leaves the minute before. -/
theorem witness_OrderTermIsWorked :
    ∀ s ∈ [arriving, fronted 400, fronted 399], ∃ r ∈ s.plant.current.roads,
      s.store.layout.road? 5 = some ⟨5, 1200, 0xF, some 7, some 3⟩ ∧ s.plant.current.road? (.road 5) = some r ∧
        r.closed = false ∧ r.verified = true ∧ classAdmitted 0xF 1 = true ∧ (∀ x ∈ r.entries, x.state = .stabled) ∧
        s.plant.slotNames s.env (.road 5) = false ∧ s.plant.queueNames s.env (.road 5) = false ∧
        (∀ a ∈ s.plant.current.arrivals, a.reserved = none) ∧
        fitsRoad s.settings.stored.berthGap 1200 r.entries 300 = true ∧
        (Yard.unbarredRoute s.env s.plant.current .g1 (.berth (.road 5))).isSome = true := by decide +kernel

theorem witness_AllocationKeepsItsLaw :
    arriving.settings.stored.inRange = true ∧ (∀ d ∈ arriving.store.layout.roads, d.usable ≤ 2400) ∧
      (∀ r ∈ arriving.plant.current.roads, r.entries = []) ∧ 100 ≤ (⟨101, 300, 1, some 400⟩ : RegisterEntry).length ∧
      (⟨5, 0, 330, .empty, false, 900, 240, 90⟩ : Candidate) ∈
        Plant.allocate arriving.env arriving.plant ⟨101, 300, 1, some 400⟩ := by decide +kernel

theorem witness_RoadCensusWritesTheRoad :
    (permitted.hears .plan .roadCensus ∧ (permitted.portIn .plan).recordPermit = true ∧ permitted.store.held = true ∧
      permitted.plant.current.road? (.road 5) = some ⟨.road 5, [], false, false⟩) ∧
    (∀ n ∈ [1, 9999], 1 ≤ n ∧ n ≤ 9999) ∧ [1, 9999].length ≤ berthCapacity (.road 5) ∧ [1, 9999].Nodup ∧
      permitted.plant.slotNames permitted.env (.road 5) = false ∧
      (∀ n ∈ [1, 9999], permitted.plant.tramCarried n = false) ∧ censusFits permitted.env (.road 5) [1, 9999] = true ∧
      Plant.quiet permitted.env permitted.plant ∧ permitted.plant.session = none := by
  unfold State.hears Plant.quiet
  decide +kernel

theorem witness_RoadServiceWritesSetting :
    ready.hears .desk .roadCloseOpen ∧ ready.store.held = true ∧
      ready.plant.current.road? (.road 5) = some ⟨.road 5, [], false, false⟩ ∧ Plant.quiet ready.env ready.plant := by
  unfold State.hears Plant.quiet
  decide +kernel

/-- An expectation of tram 9999 at gate G2. -/
def expected : State := readyWith fun p =>
  { p with yard := { p.yard with expectations := [⟨9999, .road 5, none⟩] } }

/-- A number of trams in the arrival queue, none of them 102. -/
def arrivalQueue (n : Nat) : List Arrival := (List.range n).map fun i => ⟨201 + i, 300, 1, none, false, none⟩
def queueing (n : Nat) : State := readyWith fun p => { p with yard := { p.yard with arrivals := arrivalQueue n } }

/-- The copies with a number of trams in the arrival queue. -/
def copyQueueing (n : Nat) : Session := { copies with copy := { copies.copy with arrivals := arrivalQueue n } }

/-- An empty queue, one with a place left, a full one, and one whose count holds the tram of a slot in use. -/
theorem witness_GateReadsMoveTrams :
    (∀ x ∈ [(queueing 0, 0), (queueing 5, 5), (queueing 6, 6), (opened, 1)],
      Plant.quiet x.1.env x.1.plant ∧ x.1.plant.linkUp 1 = true ∧ x.1.env.layout.linkOf (.reader 1) = some 1 ∧
        (∀ a ∈ x.1.plant.yard.arrivals, a.tram ≠ 102) ∧ x.1.plant.yard.expectations = [] ∧
        x.1.plant.yard.roadOfTram 102 = none ∧ Plant.arrivalCount x.1.env x.1.plant .real = x.2 ∧
        x.1.plant.yard.reader? 1 = some ⟨1, none, none⟩) ∧
    (Plant.quiet expected.env expected.plant ∧ expected.plant.linkUp 1 = true ∧
      expected.env.layout.linkOf (.reader 2) = some 1 ∧
      expected.plant.yard.expectations = [⟨9999, .road 5, none⟩]) ∧
    ∀ n ∈ [0, 5, 6],
      (rehearsingOn (copyQueueing n)).hears .desk .rehearsalAct ∧
        (rehearsingOn (copyQueueing n)).plant.session = some (copyQueueing n) ∧ (copyQueueing n).readFail = false ∧
        (∀ a ∈ (copyQueueing n).copy.arrivals, a.tram ≠ 9999) ∧ (copyQueueing n).copy.expectations = [] ∧
        (copyQueueing n).copy.roadOfTram 9999 = none ∧
        Plant.arrivalCount (rehearsingOn (copyQueueing n)).env (rehearsingOn (copyQueueing n)).plant .copy = n := by
  unfold State.hears Plant.quiet
  decide +kernel

theorem witness_LayoutBeginAndAbandon :
    (permitted.hears .desk .layoutBegin ∧ permitted.hears .plan .layoutAbandon ∧ permitted.plant.session = none ∧
      (permitted.portIn .desk).layoutPermit = true ∧ (permitted.store.held = true ∧ 7 = permitted.store.identity) ∧
      0xFFFFFFFE ≠ 0xFFFFFFFF ∧ 0xFFFFFFFE ≠ 0) ∧
    (∀ g, permitted.store.staging = some g → g.owner = .desk) ∧ staged.hears .desk .layoutAbandon ∧
      ∀ g, staged.store.staging = some g → g.owner = .desk := by
  refine ⟨?_, of_none (by decide +kernel), ?_, of_some (a := staging) (by decide +kernel) rfl⟩
  · unfold State.hears
    decide +kernel
  · unfold State.hears
    decide +kernel

theorem witness_LayoutRecordAndErase_record :
    staged.hears .desk .layoutRecord ∧ (staged.portIn .desk).layoutPermit = true ∧ staged.store.staging = some staging ∧
      staging.owner = .desk ∧ recordRefusal (.point ⟨32, 4, 48⟩) = none ∧ recordRefusal (.route route5) = none := by
  unfold State.hears
  decide +kernel

theorem witness_LayoutCommitStores :
    staged.hears .desk .layoutCommit ∧ staged.plant.session = none ∧ (staged.portIn .desk).layoutPermit = true ∧
      staged.store.staging = some staging ∧ staging.owner = .desk ∧ staging.matches staged.store = true ∧
      staged.plant.quiescent = true ∧
      staging.layout.validate staged.settings.stored.berthGap staged.plant.yard = none ∧ staged.plant.mode = .manual ∧
      (staged.plant.links.map Link.number).Nodup := by
  unfold State.hears
  decide +kernel

theorem witness_LayoutRecordAndErase_erase :
    (staged.hears .desk .layoutErase ∧ staged.plant.session = none ∧ (staged.portIn .desk).layoutPermit = true ∧
      staged.store.held = true ∧ staged.plant.quiescent = true) ∧
      ∀ g, staged.store.staging = some g → g.owner = .desk := by
  refine ⟨?_, of_some (a := staging) (by decide +kernel) rfl⟩
  unfold State.hears
  decide +kernel

theorem witness_LinkTelegrams :
    (∀ st ∈ [LinkState.training, .up, .down],
      (linked st 0).plant.link? 1 = some (link1 (linked st 0)) ∧ (linked st 0).hears .desk .linkRetrain ∧
        (link1 (linked st 0)).state ≠ .disabled) ∧
    (∀ st ∈ [LinkState.training, .up, .down, .disabled],
      (linked st 0).plant.link? 3 = some ⟨3, .up, 5000, 0, 0, 0, false⟩ ∧ (linked st 0).hears .desk .linkDisableEnable ∧
        Plant.linkInUse (linked st 0).env (linked st 0).plant 3 = false) ∧
    (linked .disabled 0).plant.link? 1 = some (link1 (linked .disabled 0)) ∧
      (link1 (linked .disabled 0)).state = .disabled := by
  unfold State.hears
  decide +kernel

/-- What the station of link 1 might send. -/
def fullState : FullState := ⟨[(1, some .reverse), (4, none)], [(1, .occupied), (2, .clear)], [⟨1, .stop, .ok, 1⟩]⟩

theorem witness_TrainingAnswerBringsUp_full :
    Plant.quiet (linked .training 0).env (linked .training 0).plant ∧ (fullState.points.map (·.1)).Nodup ∧
      (fullState.tracks.map (·.1)).Nodup ∧ (fullState.signals.map SignalFieldState.signal).Nodup ∧
      (∀ e ∈ [FaultElement.point 1, .point 4, .track 1, .track 2, .signal 1],
        (linked .training 0).env.layout.linkOf e = some 1) ∧
      (∀ n ∈ [1, 4], ((linked .training 0).plant.yard.point? n).any fun x =>
        x.throw.isNone && x.claim.isNone && x.locks.isEmpty) ∧
      (∀ n ∈ [1, 2], ((linked .training 0).plant.yard.track? n).isSome) ∧
      ((linked .training 0).plant.yard.signal? 1).isSome ∧
      (linked .training 0).env.layout.linkOf (.signal 7) = some 1 ∧ (∀ g ∈ fullState.signals, g.signal ≠ 7) ∧
      ((after (.trainingAnswer 1 1 fullState) (linked .training 0)).plant.yard.signal? 7).isSome := by
  unfold Plant.quiet
  decide +kernel

theorem witness_TrainingAnswerBringsUp :
    ((linked .training 0).plant.link? 1 = some (link1 (linked .training 0)) ∧
      (link1 (linked .training 0)).state = .training) ∧
    (linked .training 0).plant.settledAlready ∧
    ∀ st ∈ [LinkState.up, .down, .disabled],
      (linked st 0).plant.link? 1 = some (link1 (linked st 0)) ∧ (link1 (linked st 0)).state ≠ .training ∧
        (linked st 0).plant.wantScan = false ∧ (linked st 0).plant.wantRound = false := by
  unfold Plant.settledAlready
  decide +kernel

/-- An UP link whose run of bad frames is 0, 1 and 2, and one in each other state. -/
theorem witness_LinkSupervision :
    (∀ bad ∈ [0, 1], (linked .up bad).plant.link? 1 = some (link1 (linked .up bad)) ∧
      (link1 (linked .up bad)).state = .up ∧ (link1 (linked .up bad)).bad = bad ∧
      (linked .up bad).plant.wantScan = false ∧ (linked .up bad).plant.wantRound = false) ∧
    ((linked .up 2).plant.link? 1 = some (link1 (linked .up 2)) ∧ (link1 (linked .up 2)).state = .up ∧
      2 ≤ (link1 (linked .up 2)).bad) ∧
    ((linked .training 0).plant.link? 1 = some (link1 (linked .training 0)) ∧
      (link1 (linked .training 0)).state = .training ∧ (linked .training 0).plant.wantScan = false ∧
      (linked .training 0).plant.wantRound = false) ∧
    (linked .down 0).plant.link? 1 = some (link1 (linked .down 0)) ∧ (link1 (linked .down 0)).state = .down := by
  decide +kernel

/-- OPEN slot 1 with its elements on link 1, which has had two bad frames. -/
def failing : State := { opened with plant := opened.plant.mapLink 1 fun l => { l with bad := 2 } }

theorem witness_LinkSupervision_lost :
    Plant.quiet failing.env failing.plant ∧ (link1 failing).state = .up ∧ 2 ≤ (link1 failing).bad ∧
      failing.plant.session = none ∧ (slot1 failing).state = .opened ∧ failing.env.layout.linkOf (.point 1) = some 1 ∧
      failing.env.layout.linkOf (.track 1) = some 1 ∧ failing.env.layout.linkOf (.signal 1) = some 1 := by
  unfold Plant.quiet
  decide +kernel

theorem witness_RehearsalBeginCopies :
    ready.hears .desk .rehearsalBegin ∧ ready.store.held = true ∧ ready.plant.session = none ∧
      ready.plant.mode = .manual ∧ ready.plant.hold = none ∧ ready.plant.quiescent = true := by
  unfold State.hears
  decide +kernel

theorem witness_RehearsalEndDiscards :
    (rehearsingOn running).hears .desk .rehearsalEnd ∧ (rehearsingOn running).plant.session = some running ∧
      (rehearsingOn running).plant.queue = [] := by
  unfold State.hears
  decide +kernel

theorem witness_InjectionsStandAndEnd :
    (rehearsingOn copies).hears .plan .rehearsalAct ∧ (rehearsingOn copies).plant.session = some copies ∧
      (rehearsingOn copies).plant.settledAlready ∧ ((rehearsingOn copies).store.layout.point? 1).isSome = true := by
  unfold State.hears Plant.settledAlready
  decide +kernel

/-- A session with section 2 under DISTURB. -/
def disturbed : Session := { copies with disturb := [2] }

theorem witness_RehearsalSectionTakesState :
    ∀ c ∈ [copies, disturbed],
      (rehearsingOn c).hears .desk .rehearsalAct ∧ (rehearsingOn c).plant.session = some c ∧
        Plant.quiet (rehearsingOn c).env (rehearsingOn c).plant ∧ (rehearsingOn c).plant.still ∧
        ((rehearsingOn c).store.layout.track? 2).isSome = true ∧ c.copy.track? 2 = some ⟨2, .clear, none⟩ ∧
        (c = copies → 2 ∉ c.disturb) ∧ (c = disturbed → 2 ∈ c.disturb ∧ c.runs = []) := by
  unfold State.hears Plant.quiet Plant.still
  decide +kernel

theorem witness_SimulatedField :
    ((rehearsingOn later).plant.session = some later ∧ Plant.quiet (rehearsingOn later).env (rehearsingOn later).plant ∧
      (rehearsingOn later).plant.used = [] ∧ 1 ≤ later.rate ∧ findBy SimDrive.point 1 later.drives = some drive1 ∧
      drive1.obstructed = false ∧ drive1.undetected = false ∧ drive1.startedAt + 3000 ≤ later.base) ∧
    (∃ x th, later.copy.point? 1 = some x ∧ x.state = .moving ∧ x.throw = some th ∧ th.target = drive1.target ∧
      x.claim = none ∧ x.attempts = 0) ∧
    (rehearsingOn running).plant.session = some running ∧
      Plant.quiet (rehearsingOn running).env (rehearsingOn running).plant ∧ (rehearsingOn running).plant.used = [] ∧
      findBy SimRun.number 1 running.runs = some run1 ∧ run1.due = some 5000 ∧ 5000 ≤ running.base ∧
      run1.step + 1 < run1.lastStep ∧ (∀ x ∈ running.copy.points, x.throw = none) ∧ run1.tracks[run1.step]? = some 1 ∧
      1 ∉ running.disturb ∧ run1.tracks.Nodup := by
  refine ⟨?_, ⟨(later.copy.point? 1).getD (Point.fresh 1), throwFor .reverse none, ?_⟩, ?_⟩
  · unfold Plant.quiet
    decide +kernel
  · decide +kernel
  · unfold Plant.quiet
    decide +kernel

theorem witness_IdlePointTakesDetection :
    ready.plant.linkUp 1 = true ∧ ready.env.layout.linkOf (.point 1) = some 1 ∧
      ready.plant.yard.point? 1 = some (point1 ready) ∧ (point1 ready).throw = none ∧ (point1 ready).locks = [] ∧
      (point1 ready).claim = none ∧ ready.plant.used = [] ∧ Plant.quiet ready.env ready.plant ∧
      (point1 ready).state ≠ .failed ∧ ready.plant.yard.faults.records.length < 16 := by
  unfold Plant.quiet
  decide +kernel

/-- Locked REVERSE by the one slot, which is OPEN. -/
theorem witness_IdlePointTakesDetection_locked :
    opened.plant.linkUp 1 = true ∧ opened.plant.yard.point? 1 = some (point1 opened) ∧ (point1 opened).throw = none ∧
      Plant.quiet opened.env opened.plant ∧ (point1 opened).lockedAt = some .reverse ∧ (point1 opened).state ≠ .failed ∧
      opened.plant.session = none ∧ opened.plant.freeze = none ∧ opened.plant.slot? 1 = some (slot1 opened) ∧
      (slot1 opened).state = .opened ∧ opened.env.slotRoute (slot1 opened) = some route5 ∧
      (route5.position? 1).isSome = true ∧ (point1 opened).locks = [⟨1, .route, .reverse⟩] ∧
      opened.plant.yard.faults.records.length < 16 := by
  unfold Plant.quiet
  decide +kernel

theorem witness_SamplesAndThrowEnds :
    (driven.plant.settledAlready ∧ driven.plant.linkUp 1 = true ∧ driven.env.layout.linkOf (.point 1) = some 1 ∧
      driven.plant.yard.point? 1 = some (point1 driven) ∧ (point1 driven).state = .moving ∧
      (point1 driven).throw = some (throwFor .reverse none)) ∧
    ((rehearsingOn later).plant.settledAlready ∧ (rehearsingOn later).plant.session = some later ∧
      findBy SimDrive.point 1 later.drives = some drive1 ∧ drive1.point = 1 ∧ 1 ≤ later.rate ∧
      drive1.startedAt + 100 * (drive1.samples + 1) ≤ later.base ∧
      later.copy.point? 1 = some ((later.copy.point? 1).getD (Point.fresh 1)) ∧
      ((later.copy.point? 1).getD (Point.fresh 1)).state = .moving ∧
      ((later.copy.point? 1).getD (Point.fresh 1)).throw = some (throwFor .reverse none)) := by
  unfold Plant.settledAlready
  decide +kernel

/-- One sample above the threshold completes the obstruction run, one of 0 the open-circuit run. -/
theorem witness_SamplesAndThrowEnds_runs :
    ∀ st ∈ [PointState.moving, .restoring],
      (strained st).plant.settledAlready ∧ (strained st).plant.linkUp 1 = true ∧
        (strained st).plant.yard.point? 1 = some (point1 (strained st)) ∧ (point1 (strained st)).state = st ∧
        (point1 (strained st)).throw = some nearlyEnded ∧ (point1 (strained st)).claim = none ∧
        (strained st).plant.used = [] ∧ Plant.quiet (strained st).env (strained st).plant ∧
        Plant.mayDrive (strained st).env (strained st).plant .real (point1 (strained st)) = true ∧
        nearlyEnded.obstruction < 46 ∧ 5 ≤ nearlyEnded.obstructionRun + 1 ∧ 0 < nearlyEnded.openCircuit ∧
        6 ≤ nearlyEnded.samples + 1 ∧ 10 ≤ nearlyEnded.openRun + 1 ∧
        (strained st).plant.yard.faults.records.length < 16 ∧ (point1 (strained st)).attempts + 1 ≤ nearlyEnded.retries := by
  unfold Plant.settledAlready Plant.quiet
  decide +kernel

theorem witness_SamplesAndThrowEnds_claimed :
    setting.plant.settledAlready ∧ setting.plant.linkUp 1 = true ∧ setting.env.layout.linkOf (.point 1) = some 1 ∧
      setting.plant.yard.point? 1 = some (point1 setting) ∧ (point1 setting).state = .moving ∧
      ((point1 setting).throw.map Throw.target) = some .reverse ∧ setting.plant.session = none ∧
      Plant.quiet setting.env setting.plant ∧ (point1 setting).claim = some 1 ∧ setting.plant.used = [slot1 setting] ∧
      setting.plant.slot? 1 = some (slot1 setting) ∧ (slot1 setting).state = .setting ∧
      (slot1 setting).claimed = [(1, .reverse)] ∧ setting.env.slotRoute (slot1 setting) = some route5 ∧
      route5.position? 1 = some .reverse := by
  unfold Plant.settledAlready Plant.quiet
  decide +kernel

/-- Slot 1 timing after CANCEL ROUTE, and after EMERGENCY RELEASE. -/
def cancelled : State := after (.cancelRoute .desk 1 5) approached
def released : State := after (.emergencyRelease .desk 1 5) releasing

/-- Slot 1 after EMERGENCY RELEASE of the route that the tram has entered. -/
def hurried : State :=
  after (.emergencyRelease .desk 1 5) { entered with plant := { entered.plant with permit := some 10000 } }

/-- Route 5 SETTING, its moving point 1 over a section of the route other than the first. -/
def straight : State :=
  let points := updBy PointRecord.number 1 (fun d => { d with track := 2 }) setting.store.layout.points
  { setting with store := { setting.store with layout := { setting.store.layout with points := points } } }

theorem witness_SectionTakesCondition :
    ready.plant.linkUp 1 = true ∧ ready.env.layout.linkOf (.track 1) = some 1 ∧
      ready.plant.yard.track? 1 = some ⟨1, .clear, none⟩ ∧ TrackState.clear ≠ Occupancy.occupied.state ∧
      TrackState.clear ≠ Occupancy.disturbed.state ∧ (∀ y ∈ ready.plant.yard.points, y.throw = none) ∧
      Plant.quiet ready.env ready.plant := by
  unfold Plant.quiet
  decide +kernel

/-- Route 5 before and after its entry by section 1, and before the release of its first and of its last section. -/
theorem witness_SectionTakesCondition_route :
    (∀ s ∈ [opened, inside, leaving], s.plant.linkUp 1 = true ∧ Plant.quiet s.env s.plant ∧ s.plant.session = none ∧
      s.plant.freeze = none ∧ s.plant.slot? 1 = some (slot1 s) ∧ s.env.slotRoute (slot1 s) = some route5) ∧
    route5.tracks = [1, 2, 3] ∧ route5.tracks.Nodup ∧
    (opened.plant.yard.track? 1 = some ⟨1, .clear, some 1⟩ ∧ (∀ j ∈ [2, 3], opened.plant.yard.trackClear j = true) ∧
      (∀ y ∈ opened.plant.yard.points, y.throw = none) ∧ (slot1 opened).released = 0 ∧ (slot1 opened).state = .opened) ∧
    (inside.plant.yard.track? 1 = some ⟨1, .occupied, some 1⟩ ∧ (slot1 inside).released = 0 ∧
      (slot1 inside).marks = [true, true, false] ∧ (slot1 inside).state = .entered ∧
      Plant.trackClear inside.env inside.plant .real 2 = false) ∧
    (leaving.plant.yard.track? 3 = some ⟨3, .occupied, some 1⟩ ∧ (slot1 leaving).released = 2 ∧
      (slot1 leaving).marks = [true, true, true] ∧ (slot1 leaving).state = .entered) := by
  unfold Plant.quiet
  decide +kernel

/-- Route 5 passed at stop: LOCKED never opened, LOCKED after reversion, in APPROACH_TIMING, and SETTING. -/
theorem witness_SectionTakesCondition_stop :
    ∀ x ∈ [(unopened, SlotState.locked), (reverted, .locked), (cancelled, .approachTiming), (straight, .setting)],
      x.1.plant.linkUp 1 = true ∧ Plant.quiet x.1.env x.1.plant ∧ x.1.plant.session = none ∧ x.1.plant.freeze = none ∧
        x.1.plant.slot? 1 = some (slot1 x.1) ∧ x.1.env.slotRoute (slot1 x.1) = some route5 ∧ (slot1 x.1).state = x.2 ∧
        (slot1 x.1).released = 0 ∧ x.1.plant.yard.track? 1 = some ⟨1, .clear, some 1⟩ ∧
        (∀ j ∈ [2, 3], x.1.plant.yard.trackClear j = true) ∧
        (∀ d ∈ x.1.store.layout.points, d.track = 1 → ((x.1.plant.yard.point? d.number).all fun y => y.throw.isNone) = true) ∧
        x.1.plant.yard.faults.records.length < 16 := by
  unfold Plant.quiet
  decide +kernel

/-- A later section of route 5: section 2 while the slot is OPEN, and section 3 before section 2 while it is ENTERED and while it is
EMERGENCY_TIMING. -/
theorem witness_SectionTakesCondition_later :
    (∀ s ∈ [opened, entered, hurried], s.plant.linkUp 1 = true ∧ Plant.quiet s.env s.plant ∧ s.plant.session = none ∧
      s.plant.freeze = none ∧ s.plant.slot? 1 = some (slot1 s) ∧ s.env.slotRoute (slot1 s) = some route5 ∧
      (slot1 s).released = 0 ∧ (∀ y ∈ s.plant.yard.points, y.throw = none) ∧ s.plant.yard.faults.records.length < 16) ∧
    (opened.plant.yard.track? 2 = some ⟨2, .clear, some 1⟩ ∧ (slot1 opened).state = .opened ∧ 2 ∈ [2, 3]) ∧
    ((slot1 entered).state = .entered ∧ (slot1 hurried).state = .emergencyTiming) ∧
    ∀ s ∈ [entered, hurried], s.plant.yard.track? 3 = some ⟨3, .clear, some 1⟩ ∧
      (slot1 s).marks = List.replicate 1 true ++ List.replicate (route5.tracks.length - 1) false := by
  unfold Plant.quiet
  decide +kernel

theorem witness_SignalReportIsTaken :
    ready.plant.linkUp 1 = true ∧ ready.env.layout.linkOf (.signal 1) = some 1 ∧
      ready.plant.yard.signal? 1 = some (signal1 ready) ∧ ready.plant.slotOfSignal ready.env 1 = none ∧
      Plant.quiet ready.env ready.plant ∧
      (signal1 ready).commanded = .stop ∧ (signal1 ready).wrongRaised = false ∧ ready.plant.freeze = none ∧
      (signal1 ready).lamp ≠ some .failed ∧ ready.plant.yard.faults.records.length < 16 ∧
      ready.plant.yard.faults.holdsOpen .lampFailed (.signal 1) = false := by
  unfold Plant.quiet
  decide +kernel

/-- OPEN slot 1, whose entry signal has answered PROCEED under number 1. -/
theorem witness_SignalReportIsTaken_open :
    opened.plant.linkUp 1 = true ∧ opened.env.layout.linkOf (.signal 1) = some 1 ∧
      opened.plant.yard.signal? 1 = some (signal1 opened) ∧ Plant.quiet opened.env opened.plant ∧
      opened.plant.session = none ∧ opened.plant.slotOfSignal opened.env 1 = some (slot1 opened) ∧
      opened.plant.slot? (slot1 opened).number = some (slot1 opened) ∧ (slot1 opened).state = .opened ∧
      (signal1 opened).commanded = .proceed ∧ (signal1 opened).command = 1 ∧ (signal1 opened).lamp ≠ some .failed ∧
      opened.plant.yard.faults.records.length < 16 ∧
      opened.plant.yard.faults.holdsOpen .lampFailed (.signal 1) = false := by
  unfold Plant.quiet
  decide +kernel

/-- Point 1 in its retry pause. -/
def paused : State := readyWith fun p => { p with yard := waiting1 p.yard }

theorem witness_ThrowTimersFallDue :
    (driven.plant.session = none ∧ driven.plant.yard.point? 1 = some (point1 driven) ∧
      (point1 driven).throw = some (throwFor .reverse none) ∧ (point1 driven).claim = none ∧ driven.plant.used = [] ∧
      Plant.quiet driven.env driven.plant ∧ (point1 driven).state = .moving ∧
      driven.plant.yard.faults.records.length < 16) ∧
    (paused.plant.session = none ∧ paused.plant.yard.point? 1 = some (point1 paused) ∧
      (point1 paused).throw = some (throwFor .reverse (some 1000)) ∧ (point1 paused).claim = none ∧
      paused.plant.used = [] ∧ Plant.quiet paused.env paused.plant ∧ (point1 paused).state = .retryWait ∧
      Plant.mayDrive paused.env paused.plant .real (point1 paused) = true ∧
      paused.env.layout.linkOf (.point 1) = some 1) := by
  unfold Plant.quiet
  decide +kernel

theorem witness_SlotTimersFreeTheSlot :
    (setting.plant.slot? 1 = some (slot1 setting) ∧ (slot1 setting).timer = .running 20000 ∧
      Plant.quiet setting.env setting.plant ∧ (slot1 setting).state = .setting) ∧
    (cancelled.plant.slot? 1 = some (slot1 cancelled) ∧ (slot1 cancelled).timer = .running 60000 ∧
      Plant.quiet cancelled.env cancelled.plant ∧ (slot1 cancelled).state = .approachTiming) ∧
    (released.plant.slot? 1 = some (slot1 released) ∧ (slot1 released).timer = .running 120000 ∧
      Plant.quiet released.env released.plant ∧ (slot1 released).state = .emergencyTiming) := by
  unfold Plant.quiet
  decide +kernel

/-- The yard at work with its clock SET. -/
def clocked (m sec past : Nat) : State := readyWith fun p => { p with yard := { p.yard with clock := ⟨true, m, sec, past⟩ } }

theorem witness_PartTimersFallDue :
    (queued.plant.queue = [request] ∧ request.expiry = 300000 ∧ request.stopped = none ∧ request.origin ≠ .automatic ∧
      Plant.automatic queued.env queued.plant = false ∧ queued.plant.session = none) ∧
    (started.plant.hold = some 120000 ∧ started.plant.queue = [] ∧ started.plant.mode = .manual) ∧
    (ready.plant.silence.limit.isSome = true ∧ ready.plant.silence.silent = false) ∧
    (clocked 2158 59 999).plant.yard.clock = ⟨true, 2158, 59, 999⟩ ∧
      Plant.quiet (clocked 2158 59 999).env (clocked 2158 59 999).plant := by
  unfold Plant.quiet
  decide +kernel

/-- The restart hold running in AUTOMATIC, with tram 101 at the head of the arrival queue and section 1 OCCUPIED. -/
def holdingAutomatic : State :=
  { barred with plant := { barred.plant with mode := .automatic, hold := some 120000 } }

theorem witness_PartTimersFallDue_round :
    let s := holdingAutomatic
    s.plant.hold = some 120000 ∧ s.plant.queue = [] ∧ s.plant.mode = .automatic ∧ s.store.held = true ∧
      s.plant.freeze = none ∧ s.plant.session = none ∧ s.plant.silence.silent = false ∧ s.plant.yard.clock.set = false ∧
      1 ≤ s.settings.stored.bypassLimit ∧ s.plant.yard.arrivals = [⟨101, 300, 1, some 400, true, none⟩] ∧
      s.plant.tramCarried 101 = false ∧
      Plant.allocate s.env s.plant ⟨101, 300, 1, some 400⟩ = [⟨5, 0, 330, .empty, false, 900, 240, 90⟩] ∧
      Yard.unbarredRoute s.env s.plant.yard .g1 (.berth (.road 5)) = some route5 ∧
      s.store.layout.route? route5.number = some route5 ∧
      Plant.requestRefusal s.env { s.plant with hold := none } true route5.number (some 101) = none ∧
      Plant.takeTest s.env { s.plant with hold := none } route5 (some 101) = .wait := by decide +kernel

/-- A session whose clock is about to reach its next minute, at the rate given. -/
def ticking (rate : Nat) : Session :=
  { copies with rate := rate, copy := { copies.copy with clock := ⟨true, 2158, 59, 999⟩ } }

theorem witness_CopyClockReachesMinute :
    ∀ rate ∈ [1, 10],
      (rehearsingOn (ticking rate)).plant.session = some (ticking rate) ∧ 1 ≤ (ticking rate).rate ∧
        (ticking rate).rate ≤ 10 ∧ (ticking rate).copy.clock = ⟨true, 2158, 59, 999⟩ ∧
        Plant.quiet (rehearsingOn (ticking rate)).env (rehearsingOn (ticking rate)).plant := by
  unfold Plant.quiet
  decide +kernel

/-- A part whose RESET telegram has been answered. -/
def resetting : State := after (.reset .desk 1) ready

theorem witness_WarmResetStarts :
    ((Instr.warmResetInput = .warmResetInput ∧ ResetCause.warmInput = .warmInput) ∨
      (Instr.warmResetInput = .warmResetTelegram ∧ ResetCause.warmInput = .warmTelegram ∧ ready.resetDue = true)) ∧
    resetting.resetDue = true := by decide +kernel

/-! ## Ill-formed commands are refused, check by check -/

theorem test_wf_byte :
    [Instr.setClock .desk 1 0 256, .setParameter .desk 1 256 0, .readParameter .desk 1 256, .requestRoute .desk 1 256 0,
      .cancelRoute .desk 1 256, .emergencyRelease .desk 1 256, .throwPoint .desk 1 256 .normal, .pointUseOut .desk 1 256,
      .pointUseIn .desk 1 256, .readElement .desk 1 (.point 256), .readRoad .desk 1 (.road 256),
      .roadCensus .desk 1 (.headshunt 256) [], .roadClose .desk 1 (.road 256), .roadOpen .desk 1 (.road 256),
      .readFault .desk 1 (.position 256), .layoutRecordPut .desk 1 (.track ⟨256, 1⟩),
      .layoutRecordRemove .desk 1 (.signal 256), .readLayout .desk 1 .committed (.gate 256), .linkRetrain .desk 1 256,
      .linkDisable .desk 1 256, .linkEnable .desk 1 256, .rehearsalBegin .desk 1 256,
      .rehearsalActOccupy .desk 1 (.track 256), .rehearsalActClear .desk 1 (.track 256),
      .rehearsalActInject .desk 1 .obstruct (some (.point 256)), .rehearsalActRemove .desk 1 .disturb (some (.track 256)),
      .pointDetectionReport 1 256 none, .currentSample 1 1 256, .driveStopped 1 256, .sectionReport 1 256 .clear,
      .signalReport 1 256 .stop .ok 0, .signalReport 1 1 .stop .ok 256, .trainingAnswer 1 256 ⟨[], [], []⟩,
      .driveTimeLimitExpiry 256, .retryPauseEnd 256, .requestExpiry 256, .simCurrentSample 256,
      .simDriveDetection 256].all (fun c => !c.wf) = true := by decide

theorem test_wf_word :
    [Instr.setClock .desk 1 65536 0, .setParameter .desk 1 1 65536, .requestRoute .desk 1 1 65536,
      .tramRemove .plan 1 (.list [1, 65536]), .runOutPlan .plan 1 [(65536, 0)], .runOutPlan .plan 1 [(1, 65536)],
      .runOutClear .plan 1 (.list [65536]), .allocateQuery .desk 1 (.tram 65536), .roadCensus .desk 1 (.road 5) [65536],
      .clearFault .desk 1 65536, .rehearsalActArrive .desk 1 65536, .gateRead 1 1 (.tram 65536)].all (fun c => !c.wf) =
      true := by decide

theorem test_wf_tram_fields :
    [Instr.tramEntry .plan 1 [⟨65536, 0, 0, 0⟩], .tramEntry .plan 1 [⟨0, 65536, 0, 0⟩], .tramEntry .plan 1 [⟨0, 0, 256, 0⟩],
      .tramEntry .plan 1 [⟨0, 0, 0, 65536⟩]].all (fun c => !c.wf) = true := by decide

theorem test_wf_identity :
    [Instr.layoutBegin .desk 1 4294967296 1 .empty, .layoutBegin .desk 1 1 4294967296 .copy,
      .layoutErase .desk 1 4294967296].all (fun c => !c.wf) = true := by decide

theorem test_wf_link :
    [Instr.pointDetectionReport 0 1 none, .currentSample 5 1 0, .driveStopped 0 1, .sectionReport 5 1 .clear,
      .signalReport 0 1 .stop .ok 0, .gateRead 5 1 .unreadable, .trainingAnswer 0 1 ⟨[], [], []⟩, .linkBadFrame 5,
      .trainingTimeout 0, .linkSilenceTimeout 5, .downWaitExpiry 0, .linkPoll 5].all (fun c => !c.wf) = true := by decide

theorem test_wf_gate : [Instr.gateRead 1 0 .unreadable, .gateRead 1 3 .unreadable].all (fun c => !c.wf) = true := by decide

theorem test_wf_slot :
    [Instr.settingLimitExpiry 0, .approachReleaseExpiry 9, .emergencyReleaseExpiry 9].all (fun c => !c.wf) = true := by
  decide

theorem test_wf_full_state :
    [Instr.trainingAnswer 1 1 ⟨[(256, none)], [], []⟩, .trainingAnswer 1 1 ⟨[], [(256, .clear)], []⟩,
      .trainingAnswer 1 1 ⟨[], [], [⟨256, .stop, .ok, 0⟩]⟩, .trainingAnswer 1 1 ⟨[], [], [⟨1, .stop, .ok, 256⟩]⟩].all
      (fun c => !c.wf) = true := by decide

theorem test_wf_bytes :
    [Instr.validFrameReceived .desk [], .frameLengthOutsideRange .plan []].all (fun c => !c.wf) = true := by decide

theorem test_wf_accepts :
    [Instr.requestRoute .desk 255 255 65535, .layoutBegin .desk 1 4294967295 1 .copy, .settingLimitExpiry 8,
      .gateRead 4 2 (.tram 9999)].all Instr.wf = true := by decide

/-- No row of the opcode table gives bits. -/
theorem test_no_word_spells_a_command : decodeTableWord 8 0 = none ∧ decodeTableWord 16 0xFFFF = none := by decide

/-! ## Worked by hand from the description -/

/-- The check of the nine digits "123456789" under the polynomial, initial value and bit order of R177 is 0x29B1, a value
published for that check. -/
theorem test_check_of_digits : checkOf [0x31, 0x32, 0x33, 0x34, 0x35, 0x36, 0x37, 0x38, 0x39] = 0x29B1 := by decide +kernel

/-- Table 12-7: REQUEST ROUTE, tag 5, route 17, tram 518 = 0x0206. -/
theorem test_request_route_body : requestRouteBody 5 17 518 = [0x10, 0x05, 0x11, 0x02, 0x06] := by decide +kernel

/-- R177: a byte before the start byte is passed over, and a frame with a bad check is discarded. -/
theorem test_hunting_and_bad_check :
    receiveBytes [] (0x55 :: frameBytes [0x01, 0x05]) = ([], [[0x01, 0x05]]) ∧
      receiveBytes [] [0xC7, 2, 0x01, 0x05, 0, 0] = ([], []) := by decide +kernel

/-- R178: a kind byte of 0x80 or above is answered under 0xFF. -/
theorem test_reply_kind : replyKind 0x01 = 0x81 ∧ replyKind 0x7F = 0xFF ∧ replyKind 0x80 = 0xFF := by decide

/-- R157: fault numbers wrap from 65535 to 1. -/
theorem test_fault_numbers_wrap : nextFaultNumber 65534 = 65535 ∧ nextFaultNumber 65535 = 1 := by decide

/-- R144: at 2159:59 the clock holds. -/
theorem test_clock_holds : Clock.advance ⟨true, 2159, 59, 999⟩ 5000 = ⟨true, 2159, 59, 0⟩ := by decide

/-- Table 12-4 and R182: the berth gap above its 50 dm is stored as 50 and answered DONE-CLAMPED. -/
theorem test_parameter_clamped :
    let t := after (.setParameter .desk 9 9 60) permitted
    t.settings.stored.berthGap = 50 ∧
      t.plant.deskOut.sending = some (.reply ⟨0x88, 9, .doneClamped, none, .stored 50⟩) := by decide +kernel

/-- R142: a length above 450 dm is taken at 450, the departure 65535 is NONE. -/
theorem test_tram_entry_clamps :
    ((after (.tramEntry .plan 1 [⟨103, 500, 2, 65535⟩]) ready).env.tram? 103) = some ⟨103, 450, 2, none⟩ := by decide +kernel

/-- R132 and R133: an empty road of 1200 dm leaves 900 dm spare behind a tram of 300 dm, and scores 240 + 10 × 9 with the
defaults. -/
theorem test_allocation_score :
    ((Plant.allocate arriving.env arriving.plant ⟨101, 300, 1, some 400⟩).map fun c => (c.road, c.score)) = [(5, 330)] := by
  decide +kernel

/-- R95: the plan port has no authority in MANUAL. -/
theorem test_request_without_authority :
    (after (.requestRoute .plan 1 5 101) arriving).plant.planOut.sending =
      some (.reply ⟨0x90, 1, .refused, some .notAuthority, .none⟩) := by decide +kernel

/-- R58 to R61: route 5 is taken into slot 1, its sections reserved, point 1 claimed and driven, point 4 locked in flank. -/
theorem test_take :
    (slot1 setting).route = some 5 ∧ (setting.plant.yard.tracks.map Track.reservedBy) = [some 1, some 1, some 1, none, none] ∧
      (point1 setting).state = .moving ∧ (point1 setting).claim = some 1 ∧
      ((setting.plant.yard.point? 4).map Point.locks) = some [⟨1, .flank, .normal⟩] ∧
      setting.plant.linkSent.getLast? = some (1, .drive 1 .reverse) := by decide +kernel

/-- R62, R67 and R68: with the last claimed point detected the slot is locked and opens at once, PROCEED commanded. -/
theorem test_open :
    let t := after (.pointDetectionReport 1 1 (some .reverse)) setting
    (slot1 t).state = .opened ∧ (signal1 t).commanded = .proceed ∧ (point1 t).locks = [⟨1, .route, .reverse⟩] := by
  decide +kernel

/-- Table 5-3 and R88: with the approach clear, CANCEL ROUTE frees the slot at once; with a tram on it, the release time runs. -/
theorem test_cancel :
    (slot1 (after (.cancelRoute .desk 1 5) opened)).state = .free ∧ (slot1 cancelled).state = .approachTiming := by
  decide +kernel

/-- Link 1 in TRAINING with its sections UNKNOWN, routes 5 and 17 asked for in this order, tram 102 on road B5. -/
def retraining : State :=
  let p := arriving.plant.mapLink 1 fun l => { l with state := .training }
  let entry : BerthEntry := ⟨102, 250, 2, none, .stabled, none⟩
  let y := { p.yard with
    tracks := p.yard.tracks.map fun t => if t.number ≤ 3 then { t with state := .unknown } else t
    roads := [⟨.road 5, [entry], false, true⟩] }
  { arriving with plant := { p with yard := y, queue := [request, elder 0 false] } }

/-- R98 to R100: section 3, reported CLEAR before sections 1 and 2, starts a scan of its own, in which route 17 is taken past the
older request for route 5. -/
theorem test_scan_after_each_report :
    let t := after (.trainingAnswer 1 1 ⟨[], [(3, .clear), (1, .clear), (2, .clear)], []⟩) retraining
    (slot1 t).route = some 17 ∧ t.plant.queue = [{ request with bypass := 1 }] := by decide +kernel

/-- R30: at the time limit of 6 s the throw ends and the point is FAILED. -/
theorem test_time_limit :
    let t := after (.driveTimeLimitExpiry 1) driven
    (point1 t).state = .failed ∧ t.plant.now = 6000 ∧ (t.plant.yard.faults.records.map FaultRecord.kind) = [.throwNoDetection] := by
  decide +kernel

/-- R164 and R165: a frozen yard refuses a request FROZEN and takes FREEZE ACKNOWLEDGE. -/
theorem test_freeze :
    (after (.requestRoute .desk 2 5 101) frozen).plant.deskOut.reply.map Reply.reason = some (some .frozen) ∧
      (after (.freezeAcknowledge .desk 3) frozen).plant.freeze = none := by decide +kernel

/-- R123: a census of a road that is VERIFIED already places its ROAD VERIFICATION report all the same. -/
theorem test_census_report :
    let s : State := { permitted with plant := arriving.plant }
    let t := after (.roadCensus .desk 1 (.road 5) [102]) s
    (s.plant.yard.road? (.road 5)).map Road.verified = some true ∧
      (t.plant.planOut.reports.map Report.body).contains (.roadVerification (.road 5) true .census) = true := by
  decide +kernel

/-- R168: an UP link is DOWN at its third bad frame in a row, and its elements are UNKNOWN. -/
theorem test_third_bad_frame :
    let t := after (.linkBadFrame 1) (linked .up 2)
    (link1 t).state = .down ∧ (point1 t).state = .unknown := by decide +kernel

/-- R41 and R45: no drive starts over a section whose link is not UP, though a commit kept it CLEAR; and a signal that a commit kept
with its lamp OK has an unknown lamp once its link is UP, until it is reported. -/
theorem test_kept_elements_hold :
    throwPointAnswer .desk 4 .reverse kept = .refused .state ∧
      throwPointAnswer .desk 4 .reverse (after (.trainingAnswer 2 2 ⟨[], [], []⟩) kept) = .accepted ∧
      (signal1 (linked .training 0)).lamp = some .ok ∧
      (signal1 (after (.trainingAnswer 1 1 ⟨[], [], []⟩) (linked .training 0))).lamp = none := by decide +kernel

/-- R51: a lost signal is reported after the route has reverted, with the commanded aspect that it then has. -/
theorem test_lost_signal_report :
    let s : State := { failing with plant := failing.plant.mapOut .plan fun o =>
      { o with reports := [], enables := { o.enables with element := true } } }
    ((after (.linkBadFrame 1) s).plant.planOut.reports.map Report.body).contains (.signalChanged 1 .stop none none) = true := by
  decide +kernel

/-- R172: HOLD-SAFE goes to each of the four UP links as a session begins. -/
theorem test_session_holds_the_field :
    ((after (.rehearsalBegin .desk 1 10) ready).plant.linkSent.drop 4) =
      [(1, .holdSafe), (2, .holdSafe), (3, .holdSafe), (4, .holdSafe)] := by decide +kernel

/-- A cold reset of a factory-new part is the reset state. -/
theorem test_cold_reset : State.reset.coldReset .good = State.reset := by decide +kernel

end Sys2Proof.Machine.Tests
end

section
/-! SUPPORT. Proofs about the allocation unit (chapter 8): what the score is, which roads pass Table 8-2, and what the ranking
names; then the statements of the family on berth allocation. -/

namespace Sys2Proof.Machine

open Sys2Proof

/-! ## The order term and the length term (R132, R133) -/

/-- An empty road scores the empty penalty. -/
@[simp] theorem orderTerm_empty (p : Params) (dep : Option Nat) :
    orderTerm p none dep = some (p.emptyPenalty, .empty) := rfl

/-- In front of a tram that leaves no earlier, S itself is the term. -/
theorem orderTerm_of_nonneg (p : Params) {f : BerthEntry} {dep : Option Nat} (h : 0 ≤ orderDifference f.departure dep) :
    orderTerm p (some f) dep =
      some ((orderDifference f.departure dep).toNat, .order (orderDifference f.departure dep)) := if_pos h

/-- In front of a tram that leaves earlier, the term is B + V × (−S) while blocking is allowed. -/
theorem orderTerm_of_blocking (p : Params) {f : BerthEntry} {dep : Option Nat} (h : orderDifference f.departure dep < 0)
    (hb : p.blockingAllowed = 1) :
    orderTerm p (some f) dep =
      some (p.blockingPenalty + p.inversionWeight * (-orderDifference f.departure dep).toNat,
        .order (orderDifference f.departure dep)) := by
  simp [orderTerm, Int.not_le.mpr h, hb]

/-- In front of a tram that leaves earlier, there is no term while blocking is not allowed. -/
theorem orderTerm_of_not_allowed (p : Params) {f : BerthEntry} {dep : Option Nat}
    (h : orderDifference f.departure dep < 0) (hb : p.blockingAllowed ≠ 1) : orderTerm p (some f) dep = none := by
  simp [orderTerm, Int.not_le.mpr h, hb]

theorem OrderMark.blocking_of_nonneg {i : Int} (h : 0 ≤ i) : (OrderMark.order i).blocking = false :=
  decide_eq_false (Int.not_lt.mpr h)

theorem OrderMark.blocking_of_neg {i : Int} (h : i < 0) : (OrderMark.order i).blocking = true := decide_eq_true h

/-- D* of a departure within the service day is at most 2160. -/
theorem starred_le {dep : Option Nat} (h : ∀ m, dep = some m → m ≤ 2159) : starred dep ≤ 2160 := by
  cases dep with
  | none => exact Nat.le_refl _
  | some m => exact Nat.le_succ_of_le (h m rfl)

/-- S lies between −2160 and 2160 (8.3.3). -/
theorem orderDifference_bounds {front dep : Option Nat} (hf : starred front ≤ 2160) (hd : starred dep ≤ 2160) :
    -2160 ≤ orderDifference front dep ∧ orderDifference front dep ≤ 2160 := by
  unfold orderDifference
  omega

/-- The bound of the order term (8.3.3): 20000 + 16 × 2160. -/
theorem orderTerm_le {p : Params} {front : Option BerthEntry} {dep : Option Nat} {o : Nat × OrderMark}
    (hE : p.emptyPenalty ≤ 2160) (hB : p.blockingPenalty ≤ 20000) (hV : p.inversionWeight ≤ 16)
    (hf : ∀ f, front = some f → starred f.departure ≤ 2160) (hd : starred dep ≤ 2160)
    (h : orderTerm p front dep = some o) : o.1 ≤ 54560 := by
  cases front with
  | none => cases h; exact Nat.le_trans hE (by decide)
  | some f =>
    obtain ⟨hlow, hhigh⟩ := orderDifference_bounds (hf f rfl) hd
    rcases Int.lt_or_le (orderDifference f.departure dep) 0 with hs | hs
    · by_cases hb : p.blockingAllowed = 1
      · rw [orderTerm_of_blocking p hs hb] at h
        cases h
        exact Nat.add_le_add hB (Nat.mul_le_mul hV (Int.toNat_le.mpr (Int.neg_le_of_neg_le hlow)))
      · rw [orderTerm_of_not_allowed p hs hb] at h
        cases h
    · rw [orderTerm_of_nonneg p hs] at h
      cases h
      exact Int.toNat_le.mpr (Int.le_trans hhigh (by decide))

/-- The bound of the length term (8.3.3): 2300 × 100 / 100. -/
theorem lengthTerm_le {p : Params} {spare : Nat} (hK : p.lengthWeight ≤ 100) (hR : spare ≤ 2300) :
    lengthTerm p spare ≤ 2300 :=
  Nat.div_le_of_le_mul (Nat.mul_comm 2300 100 ▸ Nat.mul_le_mul hR hK)

/-! ## The length with a tram added (R109) -/

theorem lengthWith_eq (gap : Nat) (l : List BerthEntry) (len : Nat) :
    lengthWith gap l len = if l = [] then len else usedLength gap l + gap + len := by
  cases l <;> rfl

/-- A road with a tram added is at least as long in use as that tram. -/
theorem le_lengthWith (gap : Nat) (l : List BerthEntry) (len : Nat) : len ≤ lengthWith gap l len := by
  rw [lengthWith_eq]
  split <;> omega

theorem fitsRoad_iff {gap usable len : Nat} {l : List BerthEntry} :
    fitsRoad gap usable l len = true ↔ l.length < 8 ∧ lengthWith gap l len ≤ usable :=
  Bool.and_eq_true_iff.trans (and_congr decide_eq_true_iff decide_eq_true_iff)

/-! ## The candidate a road makes (R132, R133) -/

/-- All that a candidate is: its order term and mark are the road's, and the rest is worked from them and the spare length. -/
theorem candidateOf_eq_some {p : Params} {d : RoadRecord} {r : Road} {t : RegisterEntry} {c : Candidate}
    (h : candidateOf p d r t = some c) :
    orderTerm p r.front t.departure = some (c.orderTerm, c.mark) ∧ c.road = d.number ∧ c.blocking = c.mark.blocking ∧
      c.spare = d.usable - lengthWith p.berthGap r.entries t.length ∧ c.lengthTerm = lengthTerm p c.spare ∧
      c.score = c.orderTerm + c.lengthTerm := by
  obtain ⟨⟨o, m⟩, ho, rfl⟩ := Option.map_eq_some_iff.mp h
  exact ⟨ho, rfl, rfl, rfl, rfl, rfl⟩

/-! ## Eligibility (R131) -/

/-- A stabling road of the layout and its record that meet conditions 1 to 9 of Table 8-2 for a tram. -/
structure Plant.RoadPasses (env : Env) (p : Plant) (t : RegisterEntry) (n : Nat) (d : RoadRecord) (r : Road) : Prop where
  present : env.layout.road? n = some d
  recorded : p.current.road? (.road n) = some r
  inService : r.closed = false
  verified : r.verified = true
  classMatches : classAdmitted d.classMask t.cls = true
  allStabled : ∀ x ∈ r.entries, x.state = .stabled
  noSlot : p.slotNames env (.road n) = false
  noRequest : p.queueNames env (.road n) = false
  notReserved : ∀ a ∈ p.current.arrivals, a.reserved = some n → a.tram = t.tram
  fits : fitsRoad env.params.berthGap d.usable r.entries t.length = true
  reachable : (Yard.unbarredRoute env p.current .g1 (.berth (.road n))).isSome = true

/-- A condition of Table 8-2 lets a road through exactly when it does not fail and the conditions after it do. -/
theorem error_else_eq_ok {b : Bool} {k : Nat} {x : Except Nat Candidate} {c : Candidate} :
    (if b then .error k else x) = .ok c ↔ b = false ∧ x = .ok c := by
  cases b <;> simp

/-- A road that passes conditions 1 to 9 is judged by its order term alone: condition 10. -/
theorem Plant.RoadPasses.judgeRoad_eq {env : Env} {p : Plant} {t : RegisterEntry} {n : Nat} {d : RoadRecord} {r : Road}
    (h : Plant.RoadPasses env p t n d r) :
    Plant.judgeRoad env p t n = (candidateOf env.params d r t).elim (.error 10) .ok := by
  have stabled : (r.entries.any fun e => e.state != .stabled) = false := by simpa using h.allStabled
  have free : (p.current.arrivals.any fun a => a.reserved == some n && a.tram != t.tram) = false := by
    simpa using h.notReserved
  have reachable : (Yard.unbarredRoute env p.current .g1 (.berth (.road n))).isNone = false := by
    simpa using h.reachable
  simp only [Plant.judgeRoad, h.present, h.recorded, h.inService, h.verified, h.classMatches, stabled, h.noSlot,
    h.noRequest, free, h.fits, reachable]
  cases candidateOf env.params d r t <;> rfl

/-- A road that passes conditions 1 to 9 and has an order term is eligible, with that term and mark (R132). -/
theorem Plant.RoadPasses.judgeRoad_ok {env : Env} {p : Plant} {t : RegisterEntry} {n : Nat} {d : RoadRecord} {r : Road}
    (h : Plant.RoadPasses env p t n d r) {o : Nat} {m : OrderMark}
    (ho : orderTerm env.params r.front t.departure = some (o, m)) :
    ∃ c, Plant.judgeRoad env p t n = .ok c ∧ c.road = n ∧ c.orderTerm = o ∧ c.mark = m ∧ c.blocking = m.blocking := by
  have hnum : d.number = n := findBy_key _ h.present
  simp [h.judgeRoad_eq, candidateOf, ho, hnum]

/-- A road that passes conditions 1 to 9 and has no order term fails condition 10 (R132). -/
theorem Plant.RoadPasses.judgeRoad_error {env : Env} {p : Plant} {t : RegisterEntry} {n : Nat} {d : RoadRecord} {r : Road}
    (h : Plant.RoadPasses env p t n d r) (ho : orderTerm env.params r.front t.departure = none) :
    Plant.judgeRoad env p t n = .error 10 := by
  simp [h.judgeRoad_eq, candidateOf, ho]

/-- A road judged eligible passes conditions 1 to 9 and makes the candidate. -/
theorem Plant.roadPasses_of_judgeRoad {env : Env} {p : Plant} {t : RegisterEntry} {n : Nat} {c : Candidate}
    (h : Plant.judgeRoad env p t n = .ok c) :
    ∃ d r, Plant.RoadPasses env p t n d r ∧ candidateOf env.params d r t = some c := by
  unfold Plant.judgeRoad at h
  split at h
  · next d r hd hr =>
    simp only [error_else_eq_ok] at h
    obtain ⟨hclosed, hver, hcls, hstab, hnamed, hres, hfit, hroute, hc⟩ := h
    obtain ⟨hslot, hqueue⟩ := Bool.or_eq_false_iff.mp hnamed
    refine ⟨d, r, ⟨hd, hr, hclosed, by simpa using hver, by simpa using hcls, by simpa using hstab, hslot, hqueue,
      by simpa using hres, by simpa using hfit, by simpa using hroute⟩, ?_⟩
    split at hc
    · next c' hc' => cases hc; exact hc'
    · cases hc
  · cases h

/-! ## The ranking (R135) -/

theorem mem_rankIn {c x : Candidate} {l : List Candidate} : x ∈ rankIn c l ↔ x = c ∨ x ∈ l := by
  induction l with
  | nil => simp [rankIn]
  | cons d l ih =>
    unfold rankIn
    split
    · simp
    · simp [ih, or_left_comm]

theorem mem_foldl_rankIn {x : Candidate} {cs l : List Candidate} :
    x ∈ cs.foldl (fun l c => rankIn c l) l ↔ x ∈ cs ∨ x ∈ l := by
  induction cs generalizing l with
  | nil => simp
  | cons c cs ih => simp [ih, mem_rankIn, or_assoc, or_left_comm]

theorem eligible_eq_some {j : Except Nat Candidate} {c : Candidate} : eligible j = some c ↔ j = .ok c := by
  cases j <;> simp [eligible]

/-- An allocation names the candidates of the stabling roads judged eligible, and no others. -/
theorem Plant.mem_allocate {env : Env} {p : Plant} {t : RegisterEntry} {c : Candidate} :
    c ∈ Plant.allocate env p t ↔ ∃ n ∈ roadNumbers, Plant.judgeRoad env p t n = .ok c := by
  simp [Plant.allocate, mem_foldl_rankIn, List.mem_filterMap, eligible_eq_some]

/-! ## Parameters within Table 12-4 -/

/-- A parameter within Table 12-4, other than one that may be OFF, is at most the upper end of its range. -/
theorem Params.get_le_of_inRange {p : Params} (h : p.inRange = true) (n : Nat) (hn : n ∈ paramNumbers) (h18 : n ≠ 18)
    {v : Nat} (hv : p.get n = some v) : v ≤ (paramRange n).2 := by
  have hrange : (paramRange n).1 ≤ v ∧ v ≤ (paramRange n).2 := by
    simpa [hv, paramInRange, h18] using List.all_eq_true.mp h n hn
  exact hrange.2

/-! ## The statements -/

/-- Settles O35: the hypotheses are conditions 1 to 9, so the judgement is condition 10, worked from the order term. -/
theorem orderTermIsWorked : Obligations.OrderTermIsWorked := by
  unfold Obligations.OrderTermIsWorked
  intro s e n d r hd hr hclosed hver hcls hstab hslot hqueue hres hfit hroute p judged works
  have pass : Plant.RoadPasses s.env s.plant e n d r :=
    ⟨hd, hr, hclosed, hver, hcls, hstab, hslot, hqueue, hres, hfit, hroute⟩
  have worked {o : Nat} {m : OrderMark} {i : Int} {b : Bool} (ho : orderTerm p r.front e.departure = some (o, m))
      (hi : (o : Int) = i) (hb : m.blocking = b) : works i m b := by
    obtain ⟨c, hc, hroad, hterm, hmark, hblock⟩ := pass.judgeRoad_ok ho
    exact ⟨c, hc, hroad, hterm ▸ hi, hmark, hblock.trans hb⟩
  refine ⟨fun hempty => worked (by simp [Road.front, hempty]) rfl rfl, ?_⟩
  intro f hlast diff
  have hfront : r.front = some f := hlast
  refine ⟨fun h0 => ?_, fun h0 hb => ?_, fun h0 hb => ?_⟩
  · exact worked (hfront ▸ orderTerm_of_nonneg p h0) (Int.toNat_of_nonneg h0) (OrderMark.blocking_of_nonneg h0)
  · have hneg : ((-diff).toNat : Int) = -diff := Int.toNat_of_nonneg (Int.neg_nonneg_of_nonpos (Int.le_of_lt h0))
    refine worked (hfront ▸ orderTerm_of_blocking p h0 hb) ?_ (OrderMark.blocking_of_neg h0)
    rw [Int.natCast_add, Int.natCast_mul, ← hneg]
    rfl
  · exact pass.judgeRoad_error (hfront ▸ orderTerm_of_not_allowed p h0 hb)

/-- Settles O36: the road named passed conditions 1 to 9, and its two terms are within their bounds. -/
theorem allocationKeepsItsLaw : Obligations.AllocationKeepsItsLaw := by
  unfold Obligations.AllocationKeepsItsLaw
  intro s e c hp husable hentries hlen hdep hc
  obtain ⟨n, -, hj⟩ := Plant.mem_allocate.mp hc
  obtain ⟨d, r, pass, hcand⟩ := Plant.roadPasses_of_judgeRoad hj
  obtain ⟨horder, hroad, -, hspare, hlength, hscore⟩ := candidateOf_eq_some hcand
  obtain ⟨hcount, hfit⟩ := fitsRoad_iff.mp pass.fits
  obtain rfl : c.road = n := hroad.trans (findBy_key _ pass.present)
  have upper := Params.get_le_of_inRange hp
  have hfront : ∀ f, r.front = some f → starred f.departure ≤ 2160 := fun f hf =>
    starred_le (hentries r (List.mem_of_find?_eq_some pass.recorded) f (List.mem_of_getLast? hf))
  have hO : c.orderTerm ≤ 54560 :=
    orderTerm_le (upper 10 (by decide) (by decide) rfl) (upper 11 (by decide) (by decide) rfl)
      (upper 12 (by decide) (by decide) rfl) hfront (starred_le hdep) horder
  have hW : c.lengthTerm ≤ 2300 := by
    have hC := husable d (findBy_mem _ pass.present)
    have hN := le_lengthWith s.env.params.berthGap r.entries e.length
    rw [hlength]
    exact lengthTerm_le (upper 13 (by decide) (by decide) rfl) (by omega)
  refine ⟨by omega, d, r, pass.present, pass.recorded, pass.inService, pass.verified, pass.classMatches, pass.noSlot,
    pass.noRequest, pass.allStabled, hcount, lengthWith_eq _ _ _, hfit, hspare, hlength, hscore, fun hexact => ?_,
    fun hK => ?_⟩
  · have hnone : c.spare = 0 := hspare.trans (Nat.sub_eq_zero_of_le (Nat.le_of_eq hexact.symm))
    simp [hlength, lengthTerm, hnone]
  · have hzero : s.env.params.lengthWeight = 0 := hK
    simp [hscore, hlength, lengthTerm, hzero]

end Sys2Proof.Machine
end

section
/-! SUPPORT. What a command can make of a state beyond its plant, said once for every command; then the statements that speak of
the machine as a whole: the queue of commands, the conflict table, the stored values and the receivers. -/

namespace Sys2Proof.Machine

open Sys2Proof

/-! ## What a command does beyond the plant -/

/-- All that a command can make of a state, where what it makes of the plant is left open: nothing beyond the plant, an answer, or
an answer with one effect on a port, a setting, the register or the layout store; bytes received; or a reset. -/
inductive State.Leads (s : State) : State → Prop
  | plant (p : Plant) : s.Leads { s with plant := p }
  | answered (port : Port) (kind tag : Byte) (a : Answer) (p : Plant) :
      s.Leads { s.answered port kind tag a with plant := p }
  | resetDue (port : Port) (kind tag : Byte) (a : Answer) :
      s.Leads { s.answered port kind tag a with resetDue := true }
  | permit (port : Port) (kind tag : Byte) (a : Answer) (name : PermitName) (v : Bool) :
      s.Leads ((s.answered port kind tag a).mapIn port fun i => i.setPermit v name)
  | closeLayout (port : Port) (kind tag : Byte) (a : Answer) (name : PermitName) (v : Bool) :
      s.Leads (((s.answered port kind tag a).mapIn port fun i => i.setPermit v name).endStaging port)
  | endStaging (port : Port) (kind tag : Byte) (a : Answer) : s.Leads ((s.answered port kind tag a).endStaging port)
  | staging (port : Port) (kind tag : Byte) (a : Answer) (g : Option Staging) :
      s.Leads { s.answered port kind tag a with store := { s.store with staging := g } }
  | commit (port : Port) (kind tag : Byte) (a : Answer) (g : Staging) (p : Plant) :
      s.Leads { s.answered port kind tag a with store := s.store.commit g, plant := p }
  | erase (port : Port) (kind tag : Byte) (a : Answer) (p : Plant) :
      s.Leads { s.answered port kind tag a with store := s.store.erase, plant := p }
  | parameter (port : Port) (kind tag : Byte) (a : Answer) (n v : Nat) :
      s.Leads { s.answered port kind tag a with settings := s.settings.store n (paramTaken n v) }
  | register (port : Port) (kind tag : Byte) (a : Answer) (l : List RegisterEntry)
      (hl : registerInOrder s.register.trams → registerInOrder l) :
      s.Leads { s.answered port kind tag a with register := s.register.store l }
  | received (port : Port) (bytes : List Byte) : s.Leads (s.receive port bytes)
  | gap (port : Port) (bytes : List Byte) : s.Leads ((s.receive port bytes).mapIn port fun i => { i with assembling := [] })
  | warm (cause : ResetCause) : s.Leads (s.warmReset cause)
  | cold (c : StoreChecks) : s.Leads (s.coldReset c)

/-- A state leads to itself: a port that waits takes nothing. -/
theorem State.Leads.refl (s : State) : s.Leads s := .plant s.plant

/-- A state leads to its answers. -/
theorem State.Leads.answer (s : State) (port : Port) (kind tag : Byte) (a : Answer) :
    s.Leads (s.answered port kind tag a) := .answered port kind tag a (s.answered port kind tag a).plant

/-- A telegram leads where its answer leads, and its effect when it is not refused. -/
theorem State.takeTelegram_leads {s : State} {k : TelegramKind} {port : Port} {tag : Byte} {verdict : State → Answer}
    {effect : State → State}
    (h : ∀ a, (s.dispatch port k.code tag).judged k verdict = a → a.outcome ≠ .refused →
      s.Leads (effect (s.answered port k.code tag a))) :
    s.Leads (s.takeTelegram k port tag verdict effect) := by
  cases hw : s.portWaits port with
  | true => rw [State.takeTelegram_waits hw]; exact .refl s
  | false =>
    rw [State.takeTelegram_eq hw]
    split
    · exact .answer s port k.code tag _
    · next ha => exact h _ rfl ha

/-- A telegram that acts on the plant only, if on anything. -/
theorem State.takeTelegram_leads_plant {s : State} {k : TelegramKind} {port : Port} {tag : Byte} {verdict : State → Answer}
    {effect : State → State} (h : ∀ t, ∃ p, effect t = { t with plant := p }) :
    s.Leads (s.takeTelegram k port tag verdict effect) :=
  State.takeTelegram_leads fun a _ _ => by
    obtain ⟨p, hp⟩ := h (s.answered port k.code tag a)
    exact hp ▸ .answered port k.code tag a p

theorem noEffect_plant (t : State) : ∃ p, noEffect t = { t with plant := p } := ⟨t.plant, rfl⟩

theorem State.mapPlant_onlyPlant (f : Env → Plant → Plant) (t : State) : ∃ p, t.mapPlant f = { t with plant := p } := ⟨_, rfl⟩

theorem State.event_onlyPlant (f : Env → Plant → Plant) (t : State) : ∃ p, t.event f = { t with plant := p } := ⟨_, rfl⟩


/-- The frame of no known kind is answered, and has no effect. -/
theorem State.unknownKindFrame_leads (s : State) (port : Port) (tag kind : Byte) :
    s.Leads (if s.portWaits port then s
      else
        let t := s.dispatch port kind tag
        t.conclude port kind tag
          (judge [(t.plant.frozen && !codeTakenFrozen kind, .frozen)] (.refused .malformed)) noEffect) := by
  split
  · exact .refl s
  · simp only [State.conclude, noEffect, ite_self]
    exact .answer s port kind tag _

/-! ## Conditions of a rule -/

/-- A list of conditions refuses nothing exactly when none of them holds. -/
theorem firstReason_eq_none {l : List (Bool × Reason)} : firstReason l = none ↔ ∀ x ∈ l, x.1 = false := by
  induction l with
  | nil => simp [firstReason]
  | cons x l ih =>
    obtain ⟨b, r⟩ := x
    cases b <;> simp [firstReason, ih]

/-- An answer that is not a refusal comes from conditions that refuse nothing. -/
theorem judge_conditions {l : List (Bool × Reason)} {a : Answer} (h : (judge l a).outcome ≠ .refused) :
    firstReason l = none := by
  unfold judge at h
  split at h
  · exact absurd rfl h
  · assumption

/-! ## The register in order (R142) -/

/-- What stands in a table into which an item was put is that item, or stood there before. -/
theorem mem_putBy {α : Type} {key : α → Nat} {x z : α} {l : List α} (h : z ∈ putBy key x l) : z = x ∨ z ∈ l := by
  induction l with
  | nil => simpa [putBy] using h
  | cons y l ih =>
    unfold putBy at h
    split at h
    · simpa using h
    · split at h
      · rcases List.mem_cons.mp h with h | h
        · exact .inl h
        · exact .inr (List.mem_cons_of_mem _ h)
      · rcases List.mem_cons.mp h with h | h
        · exact .inr (h ▸ List.mem_cons_self)
        · exact (ih h).imp_right (List.mem_cons_of_mem _)

/-- What stands in a register into which trams were entered was entered, or stood there before. -/
theorem mem_enterTrams {l : List RegisterEntry} {es : List TramFields} {x : RegisterEntry} (h : x ∈ enterTrams l es) :
    x ∈ l ∨ ∃ e ∈ es, x = registerEntryOf e := by
  induction es generalizing l with
  | nil => exact .inl h
  | cons e es ih =>
    rcases ih h with h | ⟨y, hy, rfl⟩
    · rcases mem_putBy h with rfl | h
      · exact .inr ⟨e, List.mem_cons_self, rfl⟩
      · exact .inl h
    · exact .inr ⟨y, List.mem_cons_of_mem _ hy, rfl⟩

theorem enterTrams_sorted {l : List RegisterEntry} (es : List TramFields) (h : l.Pairwise fun a b => a.tram < b.tram) :
    (enterTrams l es).Pairwise fun a b => a.tram < b.tram := by
  induction es generalizing l with
  | nil => exact h
  | cons e es ih => exact ih (putBy_sorted RegisterEntry.tram _ h)

theorem clampTo_le {lo hi v : Nat} (h : lo ≤ hi) : lo ≤ clampTo lo hi v ∧ clampTo lo hi v ≤ hi := by
  unfold clampTo
  split
  · omega
  · split <;> omega

/-- A value within its range is taken in as it is. -/
theorem clampTo_of_mem {lo hi v : Nat} (h1 : lo ≤ v) (h2 : v ≤ hi) : clampTo lo hi v = v := by
  unfold clampTo
  split
  · omega
  · split <;> omega

/-- The entry that a tram's fields make is within its ranges, when the number and the class are. -/
theorem registerEntryOf_inRange {f : TramFields} (ht : tramInRange f.tram = true) (hc : inRange 4 f.cls = true) :
    (registerEntryOf f).inRange = true := by
  obtain ⟨h1, h2⟩ := clampTo_le (v := f.length) (show 100 ≤ 450 by decide)
  have hd : (departureOf f.departure).all (fun d => d ≤ Config.lastMinute) = true := by
    unfold departureOf
    split
    · rfl
    · exact decide_eq_true (Nat.min_le_right ..)
  simp_all [registerEntryOf, RegisterEntry.inRange, inRange]

/-- Entries judged fit, put into a register in order, leave it in order. -/
theorem enterTrams_inOrder {l : List RegisterEntry} {es : List TramFields} (h : registerInOrder l)
    (hlen : (enterTrams l es).length ≤ Config.registerCapacity) (htram : ∀ e ∈ es, tramInRange e.tram = true)
    (hcls : ∀ e ∈ es, inRange 4 e.cls = true) : registerInOrder (enterTrams l es) := by
  refine ⟨hlen, enterTrams_sorted es h.2.1, fun x hx => ?_⟩
  rcases mem_enterTrams hx with hx | ⟨e, he, rfl⟩
  · exact h.2.2 x hx
  · exact registerEntryOf_inRange (htram e he) (hcls e he)

/-- A TRAM ENTRY that is not refused has entries fit for the register. -/
theorem tramEntryAnswer_fit {port : Port} {es : List TramFields} {s : State}
    (h : (tramEntryAnswer port es s).outcome ≠ .refused) :
    (enterTrams s.register.trams es).length ≤ Config.registerCapacity ∧ (∀ e ∈ es, tramInRange e.tram = true) ∧
      ∀ e ∈ es, inRange 4 e.cls = true := by
  have hall := firstReason_eq_none.mp (judge_conditions h)
  simp only [List.mem_cons, List.not_mem_nil, or_false, forall_eq_or_imp, forall_eq, Bool.or_eq_false_iff] at hall
  obtain ⟨-, -, -, htram, ⟨hcls, -⟩, hlen⟩ := hall
  simp_all

theorem enterTrams_inOrder_of_judged {s : State} {port : Port} {tag : Byte} {es : List TramFields} {a : Answer}
    (ha : (s.dispatch port TelegramKind.tramEntry.code tag).judged .tramEntry (tramEntryAnswer port es) = a)
    (hr : a.outcome ≠ .refused) (h : registerInOrder s.register.trams) :
    registerInOrder (enterTrams s.register.trams es) := by
  have hfit : (tramEntryAnswer port es (s.dispatch port TelegramKind.tramEntry.code tag)).outcome ≠ .refused := by
    unfold State.judged at ha
    split at ha
    · exact absurd (ha ▸ rfl) hr
    · exact ha ▸ hr
  have hreg : (s.dispatch port TelegramKind.tramEntry.code tag).register = s.register := by cases port <;> rfl
  obtain ⟨hlen, htram, hcls⟩ := tramEntryAnswer_fit hfit
  exact enterTrams_inOrder h (hreg ▸ hlen) htram hcls

/-- Trams deleted from a register in order leave it in order. -/
theorem registerInOrder.filter {l : List RegisterEntry} (h : registerInOrder l) (f : RegisterEntry → Bool) :
    registerInOrder (l.filter f) :=
  ⟨Nat.le_trans (List.length_filter_le f l) h.1, h.2.1.filter f, fun e he => h.2.2 e (List.mem_filter.mp he).1⟩

/-- Every command leads to one next state. -/
theorem exec_leads (c : Instr) (s : State) : ∃ t, exec c s = .next t ∧ s.Leads t := by
  cases c
  case setParameter port tag n v =>
    exact ⟨_, rfl, State.takeTelegram_leads fun a _ _ => by
      simpa using State.Leads.parameter (s := s) port _ tag a n v⟩
  case openPermit port tag name =>
    exact ⟨_, rfl, State.takeTelegram_leads fun a _ _ => .permit port _ tag a name true⟩
  case closePermit port tag name =>
    refine ⟨_, rfl, State.takeTelegram_leads fun a _ _ => ?_⟩
    split
    · exact .closeLayout port _ tag a name false
    · exact .permit port _ tag a name false
  case reset port tag =>
    exact ⟨_, rfl, State.takeTelegram_leads fun a _ _ => .resetDue port _ tag a⟩
  case tramEntry port tag es =>
    refine ⟨_, rfl, State.takeTelegram_leads fun a ha hr => ?_⟩
    simpa using State.Leads.register (s := s) port _ tag a (enterTrams s.register.trams es) fun h =>
      enterTrams_inOrder_of_judged ha hr h
  case tramRemove port tag names =>
    refine ⟨_, rfl, State.takeTelegram_leads fun a _ _ => ?_⟩
    simpa using State.Leads.register (s := s) port _ tag a
      (s.register.trams.filter fun e => !namesTram names e.tram) fun h => h.filter _
  case layoutBegin port tag expected fresh form =>
    refine ⟨_, rfl, State.takeTelegram_leads fun a _ _ => ?_⟩
    simpa using State.Leads.staging (s := s) port _ tag a _
  case layoutRecordPut port tag record =>
    exact ⟨_, rfl, State.takeTelegram_leads fun a _ _ => by
      simpa [State.mapStaging] using State.Leads.staging (s := s) port _ tag a _⟩
  case layoutRecordRemove port tag key =>
    exact ⟨_, rfl, State.takeTelegram_leads fun a _ _ => by
      simpa [State.mapStaging] using State.Leads.staging (s := s) port _ tag a _⟩
  case layoutCommit port tag =>
    refine ⟨_, rfl, State.takeTelegram_leads fun a _ _ => ?_⟩
    split
    · next g hg =>
      have h := State.Leads.commit (s := s) port TelegramKind.layoutCommit.code tag a g
        (((s.answered port TelegramKind.layoutCommit.code tag a).commit g).event fun _ p => p).plant
      rw [← State.answered_store s port TelegramKind.layoutCommit.code tag a] at h
      exact h
    · exact .answer s port _ tag a
  case layoutAbandon port tag =>
    exact ⟨_, rfl, State.takeTelegram_leads fun a _ _ => .endStaging port _ tag a⟩
  case layoutErase port tag expected =>
    refine ⟨_, rfl, State.takeTelegram_leads fun a _ _ => ?_⟩
    have h := State.Leads.erase (s := s) port TelegramKind.layoutErase.code tag a
      ((s.answered port TelegramKind.layoutErase.code tag a).erase.event fun _ p => p).plant
    rw [← State.answered_store s port TelegramKind.layoutErase.code tag a] at h
    exact h
  case unknownKindFrame port tag kind => exact ⟨_, rfl, State.unknownKindFrame_leads s port tag kind⟩
  case validFrameReceived port bytes => exact ⟨_, rfl, .received port bytes⟩
  case frameLengthOutsideRange port bytes => exact ⟨_, rfl, .received port bytes⟩
  case frameGapTimeout port bytes =>
    exact ⟨_, rfl, .gap port bytes⟩
  case coldReset c => exact ⟨_, rfl, .cold c⟩
  case warmResetInput => exact ⟨_, rfl, .warm .warmInput⟩
  case warmResetTelegram =>
    refine ⟨_, rfl, ?_⟩
    split
    · exact .warm .warmTelegram
    · exact .refl s
  -- the telegrams that ask, and that act on the plant
  case readParameter | readRoutes | readElement | readRunOut | allocateQuery | readRoad | readArrivals | readFault | readLayout =>
    exact ⟨_, rfl, State.takeTelegram_leads_plant noEffect_plant⟩
  case status | setReporting | grantReleasePermit =>
    exact ⟨_, rfl, State.takeTelegram_leads_plant fun t => State.mapPlant_onlyPlant _ t⟩
  case setClock | takeControl | returnControl | requestRoute | cancelRoute | emergencyRelease | throwPoint | pointUseOut
    | pointUseIn | allStop | freezeAcknowledge | runOutPlan | runOutClear | roadCensus | roadClose | roadOpen | clearFault
    | linkRetrain | linkDisable | linkEnable | rehearsalBegin | rehearsalEnd | rehearsalActArrive | rehearsalActOccupy
    | rehearsalActClear | rehearsalActInject | rehearsalActRemove =>
    exact ⟨_, rfl, State.takeTelegram_leads_plant fun t => State.event_onlyPlant _ t⟩
  -- the events of the lines, the field and the timers
  all_goals exact ⟨_, rfl, .plant _⟩

/-- What is asked of a state is asked of the one it leads to, whatever the command. -/
theorem exec_keeps {P : State → Prop} (h : ∀ s t : State, P s → s.Leads t → P t) {c : Instr} {s t : State} (hs : P s)
    (ht : exec c s = .next t) : P t := by
  obtain ⟨u, hu, hlead⟩ := exec_leads c s
  rw [hu] at ht
  cases ht
  exact h s t hs hlead

/-- What commands keep, and what does not depend on the queue of commands nor on the plant, a step keeps. -/
theorem step_keeps {P : State → Prop} (hpending : ∀ (s : State) q, P s → P { s with pending := q })
    (hplant : ∀ (s : State) p, P s → P { s with plant := p }) (h : ∀ s t : State, P s → s.Leads t → P t) {s t : State}
    (hs : P s) (ht : step s = .next t) : P t := by
  unfold step at ht
  split at ht
  · exact exec_keeps h (hpending s _ hs) ht
  · unfold idle at ht
    split at ht
    · exact exec_keeps h hs ht
    · cases ht; exact hplant s _ hs

/-! ## The queue of commands (O1, O2) -/

/-- Settles O1: the step reads the front of the queue. -/
theorem stepTakesFrontCommand : Obligations.StepTakesFrontCommand := by
  unfold Obligations.StepTakesFrontCommand
  intro c rest s
  rfl

@[simp] theorem State.receive_pending (s : State) (port : Port) (bytes : List Byte) :
    (s.receive port bytes).pending = s.pending := by
  simp [State.receive, State.takeFrames]

@[simp] theorem State.endStaging_pending (s : State) (port : Port) : (s.endStaging port).pending = s.pending := by
  unfold State.endStaging; split <;> rfl

/-- No command touches the queue of commands. -/
theorem State.Leads.pending {s t : State} (h : s.Leads t) : t.pending = s.pending := by
  cases h
  case warm | cold => rfl
  all_goals simp

/-- Settles O2: each arm of `exec` gives a next state, which leaves the queue. -/
theorem everyCommandIsTaken : Obligations.EveryCommandIsTaken := by
  unfold Obligations.EveryCommandIsTaken
  intro c s
  obtain ⟨t, ht, hlead⟩ := exec_leads c s
  exact ⟨t, ht, hlead.pending⟩

/-! ## The conflict table (O3) -/

@[simp] theorem State.receive_store (s : State) (port : Port) (bytes : List Byte) :
    (s.receive port bytes).store = s.store := by
  simp [State.receive, State.takeFrames]

/-- The end of a staging area leaves the committed layout and its table. -/
theorem State.endStaging_store (s : State) (port : Port) :
    (s.endStaging port).store.layout = s.store.layout ∧ (s.endStaging port).store.conflicts = s.store.conflicts := by
  unfold State.endStaging; split <;> exact ⟨rfl, rfl⟩

/-- The table depends on nothing of the state but the committed layout and the table held. -/
theorem State.conflictsDerived_of_store {s t : State}
    (h : t.store.layout = s.store.layout ∧ t.store.conflicts = s.store.conflicts) (hs : s.conflictsDerived) :
    t.conflictsDerived := by
  rw [State.conflictsDerived, h.1, h.2]
  exact hs

/-- A commit, an erase and a cold reset derive the table afresh; no other command touches the layout or the table. -/
theorem State.Leads.conflictsDerived {s t : State} (hs : s.conflictsDerived) (h : s.Leads t) : t.conflictsDerived := by
  cases h
  case commit | erase | cold => rfl
  case closeLayout | endStaging =>
    refine State.conflictsDerived_of_store ?_ hs
    obtain ⟨hlayout, hconflicts⟩ := State.endStaging_store _ _
    exact ⟨hlayout.trans (by simp), hconflicts.trans (by simp)⟩
  case warm => exact State.conflictsDerived_of_store ⟨rfl, rfl⟩ hs
  all_goals exact State.conflictsDerived_of_store (by simp) hs

/-- Settles O3: every command keeps the table as derived, and a step is a command or a tick. -/
theorem conflictTableKept : Obligations.ConflictTableKept := by
  unfold Obligations.ConflictTableKept
  intro s t
  exact step_keeps (fun _ _ h => h) (fun _ _ h => h) fun _ _ => State.Leads.conflictsDerived

end Sys2Proof.Machine
end

section
/-! SUPPORT. The values that the settings store and the tram register take in, and the bytes that a receiver takes: the statements
on the stored values, the receivers and the state after reset. -/

namespace Sys2Proof.Machine

open Sys2Proof

/-! ## Parameters (Table 12-4) -/

/-- A parameter set is read back. -/
theorem Params.get_set_self (p : Params) (v : Nat) {n : Nat} (h1 : 1 ≤ n) (h2 : n ≤ 19) : (p.set v n).get n = some v := by
  unfold Params.set
  split
  case h_20 => simp only [imp_false] at *; omega
  all_goals rfl

/-- A parameter set leaves every other as it was. -/
theorem Params.get_set_ne (p : Params) (v : Nat) {n m : Nat} (h : m ≠ n) : (p.set v n).get m = p.get m := by
  unfold Params.set
  split
  case h_20 => rfl
  all_goals
    unfold Params.get
    split <;> try rfl
    exact absurd rfl h

theorem paramRange_le (n : Nat) : (paramRange n).1 ≤ (paramRange n).2 := by
  unfold paramRange; split <;> decide

/-- A value taken in is within Table 12-4. -/
theorem paramTaken_inRange (n v : Nat) : paramInRange n (paramTaken n v) = true := by
  obtain ⟨hlo, hhi⟩ := clampTo_le (v := v) (paramRange_le n)
  unfold paramTaken
  split
  · next h => simp_all [paramInRange]
  · simp [paramInRange, hlo, hhi]

/-- A value within Table 12-4 is taken in as it is. -/
theorem paramTaken_of_inRange {n v : Nat} (h : paramInRange n v = true) : paramTaken n v = v := by
  unfold paramTaken
  split
  · next h0 => simp_all
  · next h0 =>
    have hr : (paramRange n).1 ≤ v ∧ v ≤ (paramRange n).2 := by
      simp only [paramInRange, Bool.or_eq_true, Bool.and_eq_true, beq_iff_eq, decide_eq_true_eq] at h h0
      exact h.resolve_left h0
    exact clampTo_of_mem hr.1 hr.2

/-- A parameter set to a value taken in leaves every parameter within Table 12-4. -/
theorem Params.set_inRange {p : Params} (h : p.inRange = true) (n v : Nat) : (p.set (paramTaken n v) n).inRange = true := by
  refine List.all_eq_true.mpr fun m hm => ?_
  by_cases hmn : m = n
  · subst hmn
    have hb : 1 ≤ m ∧ m ≤ 19 := by simp only [paramNumbers, List.mem_cons, List.not_mem_nil, or_false] at hm; omega
    simp [p.get_set_self _ hb.1 hb.2, paramTaken_inRange]
  · rw [p.get_set_ne _ hmn]
    exact List.all_eq_true.mp h m hm

theorem Params.default_inRange : Params.default.inRange = true := by decide

/-! ## The stored values (O4) -/

/-- What both copies meet, the value taken up at a cold reset meets, when the default does. -/
theorem Store.latest_load_holds {α : Type} {s : Store α} {good : α → Prop} (c : CopyChecks) (hs : s.holds good) {d : α}
    (hd : good d) : good ((s.load c).latest.getD d) := by
  cases h : (s.load c).latest with
  | none => exact hd
  | some v => exact (Store.load_holds c hs).1 v h

@[simp] theorem State.receive_settings (s : State) (port : Port) (bytes : List Byte) :
    (s.receive port bytes).settings = s.settings := by
  simp [State.receive, State.takeFrames]

@[simp] theorem State.receive_register (s : State) (port : Port) (bytes : List Byte) :
    (s.receive port bytes).register = s.register := by
  simp [State.receive, State.takeFrames]

@[simp] theorem State.endStaging_settings (s : State) (port : Port) : (s.endStaging port).settings = s.settings := by
  unfold State.endStaging; split <;> rfl

@[simp] theorem State.endStaging_register (s : State) (port : Port) : (s.endStaging port).register = s.register := by
  unfold State.endStaging; split <;> rfl

theorem State.storesInRange_of_eq {s t : State} (h1 : t.settings = s.settings) (h2 : t.register = s.register)
    (hs : s.storesInRange) : t.storesInRange := by
  rw [State.storesInRange, h1, h2]
  exact hs

theorem registerInOrder_nil : registerInOrder [] := ⟨Nat.zero_le _, .nil, fun _ h => nomatch h⟩

/-- SET PARAMETER and the telegrams of the register write values in range; a cold reset takes up what the copies hold. -/
theorem State.Leads.storesInRange {s t : State} (hs : s.storesInRange) (h : s.Leads t) : t.storesInRange := by
  obtain ⟨hstored, hkept, htrams, hregister⟩ := id hs
  cases h
  case parameter port kind tag a n v =>
    have hset := Params.set_inRange hstored n v
    exact ⟨hset, Store.write_holds hkept hset, by simpa using htrams, by simpa using hregister⟩
  case register port kind tag a l hl =>
    exact ⟨by simpa using hstored, by simpa using hkept, hl htrams, Store.write_holds hregister (hl htrams)⟩
  case warm cause => exact ⟨hstored, hkept, htrams, hregister⟩
  case cold c =>
    exact ⟨Store.latest_load_holds _ hkept Params.default_inRange, Store.load_holds _ hkept,
      Store.latest_load_holds _ hregister registerInOrder_nil, Store.load_holds _ hregister⟩
  all_goals exact State.storesInRange_of_eq (by simp) (by simp) hs

/-- Settles O4: every command keeps the stored values in range, and a step is a command or a tick. -/
theorem storedValuesKept : Obligations.StoredValuesKept := by
  unfold Obligations.StoredValuesKept
  intro s t
  exact step_keeps (fun _ _ h => h) (fun _ _ h => h) fun _ _ => State.Leads.storesInRange

/-! ## Bytes received (R177) -/

/-- What a receiver holds after one byte more is again the beginning of a frame, and a body completed by it is of a length in
range. -/
theorem receiveByte_inForm {held : List Byte} (h : framePrefix held) (b : Byte) :
    framePrefix (receiveByte held b).1 ∧ ∀ x, (receiveByte held b).2 = some x → 2 ≤ x.length ∧ x.length ≤ 250 := by
  match held, h with
  | [], _ =>
    refine ⟨?_, fun x hx => nomatch hx⟩
    simp only [receiveByte]
    split
    · assumption
    · trivial
  | [a], ha =>
    refine ⟨?_, fun x hx => nomatch hx⟩
    simp only [receiveByte]
    split
    · next hb => exact ⟨ha, hb, Nat.succ_pos _⟩
    · trivial
  | a :: n :: rest, ⟨ha, hn, hlen⟩ =>
    have hrange : 2 ≤ n.toNat ∧ n.toNat ≤ 250 := by simpa [lengthInRange] using hn
    simp only [receiveByte]
    split
    · next hmore => exact ⟨⟨ha, hn, by simpa using hmore⟩, fun x hx => nomatch hx⟩
    · next hlast =>
      refine ⟨trivial, fun x hx => ?_⟩
      simp only [frameBody] at hx
      split at hx
      · cases hx
        have : ((rest ++ [b]).take n.toNat).length = n.toNat := by simp; omega
        omega
      · cases hx

/-- Bytes keep what a receiver holds the beginning of a frame, and the bodies that they complete are of a length in range. -/
theorem receiveBytes_inForm {held : List Byte} (h : framePrefix held) (bytes : List Byte) :
    framePrefix (receiveBytes held bytes).1 ∧ ∀ x ∈ (receiveBytes held bytes).2, 2 ≤ x.length ∧ x.length ≤ 250 := by
  induction bytes generalizing held with
  | nil => exact ⟨h, fun x hx => nomatch hx⟩
  | cons b bs ih =>
    obtain ⟨hone, hbody⟩ := receiveByte_inForm h b
    obtain ⟨hrest, hbodies⟩ := ih hone
    refine ⟨hrest, fun x hx => ?_⟩
    rcases List.mem_append.mp hx with hx | hx
    · exact hbody x (by simpa using hx)
    · exact hbodies x hx

/-- Frames that join a receive buffer keep it within its capacity, and its bodies within their length. -/
theorem joinFrames_inForm {good : List Byte → Prop} {buffer frames : List (List Byte)}
    (hlen : buffer.length ≤ Config.receiveCapacity) (hb : ∀ x ∈ buffer, good x) (hf : ∀ x ∈ frames, good x) :
    (joinFrames buffer frames).1.length ≤ Config.receiveCapacity ∧ ∀ x ∈ (joinFrames buffer frames).1, good x := by
  induction frames generalizing buffer with
  | nil => exact ⟨hlen, hb⟩
  | cons f fs ih =>
    obtain ⟨hgood, hrest⟩ := List.forall_mem_cons.mp hf
    unfold joinFrames
    split
    · next hroom =>
      refine ih (by rw [List.length_append]; exact hroom) (fun x hx => ?_) hrest
      rcases List.mem_append.mp hx with hx | hx
      · exact hb x hx
      · exact List.mem_singleton.mp hx ▸ hgood
    · exact ih hlen hb hrest

/-! ## The receivers (O5) -/

theorem dropFront_sublist (kind tag : Byte) (l : List (List Byte)) : (dropFront kind tag l).Sublist l := by
  unfold dropFront
  split
  · split
    · exact List.sublist_cons_self _ _
    · exact List.Sublist.refl _
  · exact List.Sublist.refl _

/-- A receiver from whose buffer frames have gone is still in form. -/
theorem PortIn.inForm_of_sublist {i j : PortIn} (ha : j.assembling = i.assembling) (hb : j.buffer.Sublist i.buffer)
    (h : i.inForm) : j.inForm := by
  obtain ⟨hprefix, hlen, hbodies⟩ := h
  exact ⟨ha ▸ hprefix, Nat.le_trans hb.length_le hlen, fun b hm => hbodies b (hb.subset hm)⟩

theorem PortIn.setPermit_inForm {i : PortIn} (v : Bool) (name : PermitName) (h : i.inForm) : (i.setPermit v name).inForm := by
  cases name <;> exact h

theorem PortIn.reset_inForm : PortIn.reset.inForm := ⟨trivial, Nat.zero_le _, fun _ h => nomatch h⟩

/-- A change of one receiver that keeps it in form keeps both in form. -/
theorem State.mapIn_receiversInForm {s : State} {port : Port} {f : PortIn → PortIn} (hf : (s.portIn port).inForm → (f (s.portIn port)).inForm)
    (hs : s.receiversInForm) : (s.mapIn port f).receiversInForm := by
  cases port
  · exact ⟨hf hs.1, hs.2⟩
  · exact ⟨hs.1, hf hs.2⟩

theorem State.receiversInForm_portIn {s : State} (hs : s.receiversInForm) (port : Port) : (s.portIn port).inForm := by
  cases port
  · exact hs.1
  · exact hs.2

theorem State.answered_receiversInForm {s : State} (port : Port) (kind tag : Byte) (a : Answer) (hs : s.receiversInForm) :
    (s.answered port kind tag a).receiversInForm := by
  show (s.mapIn port fun i => { i with buffer := dropFront kind tag i.buffer }).receiversInForm
  exact State.mapIn_receiversInForm (PortIn.inForm_of_sublist rfl (dropFront_sublist _ _ _)) hs

theorem State.receive_receiversInForm {s : State} (port : Port) (bytes : List Byte) (hs : s.receiversInForm) :
    (s.receive port bytes).receiversInForm := by
  obtain ⟨hprefix, hlen, hbodies⟩ := State.receiversInForm_portIn hs port
  obtain ⟨hheld, hframes⟩ := receiveBytes_inForm hprefix bytes
  obtain ⟨hroom, hjoined⟩ := joinFrames_inForm hlen hbodies hframes
  exact State.mapIn_receiversInForm (s := s) (fun _ => ⟨hheld, hroom, hjoined⟩) hs

theorem State.endStaging_receiversInForm {s : State} (port : Port) (hs : s.receiversInForm) :
    (s.endStaging port).receiversInForm := by
  unfold State.endStaging; split <;> exact hs

/-- Only frames received fill a receiver, and they fill it within R177. -/
theorem State.Leads.receiversInForm {s t : State} (hs : s.receiversInForm) (h : s.Leads t) : t.receiversInForm := by
  cases h
  case plant => exact hs
  case permit port kind tag a name v =>
    exact State.mapIn_receiversInForm (PortIn.setPermit_inForm v name) (State.answered_receiversInForm port kind tag a hs)
  case closeLayout port kind tag a name v =>
    exact State.endStaging_receiversInForm port
      (State.mapIn_receiversInForm (PortIn.setPermit_inForm v name) (State.answered_receiversInForm port kind tag a hs))
  case endStaging port kind tag a =>
    exact State.endStaging_receiversInForm port (State.answered_receiversInForm port kind tag a hs)
  case received port bytes => exact State.receive_receiversInForm port bytes hs
  case gap port bytes =>
    exact State.mapIn_receiversInForm (fun ⟨_, hlen, hbodies⟩ => ⟨trivial, hlen, hbodies⟩)
      (State.receive_receiversInForm port bytes hs)
  case warm | cold => exact ⟨PortIn.reset_inForm, PortIn.reset_inForm⟩
  case answered port kind tag a _ => exact State.answered_receiversInForm port kind tag a hs
  case resetDue port kind tag a => exact State.answered_receiversInForm port kind tag a hs
  case staging port kind tag a _ => exact State.answered_receiversInForm port kind tag a hs
  case commit port kind tag a _ _ => exact State.answered_receiversInForm port kind tag a hs
  case erase port kind tag a _ => exact State.answered_receiversInForm port kind tag a hs
  case parameter port kind tag a _ _ => exact State.answered_receiversInForm port kind tag a hs
  case register port kind tag a _ _ => exact State.answered_receiversInForm port kind tag a hs

/-- Settles O5: every command keeps both receivers in form, and a step is a command or a tick. -/
theorem receiversKept : Obligations.ReceiversKept := by
  unfold Obligations.ReceiversKept
  intro s t
  exact step_keeps (fun _ _ h => h) (fun _ _ h => h) fun _ _ => State.Leads.receiversInForm

/-- Settles O7: the stores of a new part hold defaults, and its ports hold nothing. -/
theorem invariantsHoldAtReset : Obligations.InvariantsHoldAtReset := by
  unfold Obligations.InvariantsHoldAtReset
  have hsettings : Store.holds (α := Params) ⟨some .default, some .default⟩ fun p => p.inRange = true :=
    ⟨fun v hv => by cases hv; exact Params.default_inRange, fun v hv => by cases hv; exact Params.default_inRange⟩
  have hregister : Store.holds (α := List RegisterEntry) ⟨some [], some []⟩ registerInOrder :=
    ⟨fun v hv => by cases hv; exact registerInOrder_nil, fun v hv => by cases hv; exact registerInOrder_nil⟩
  exact ⟨rfl, ⟨Params.default_inRange, hsettings, registerInOrder_nil, hregister⟩,
    ⟨PortIn.reset_inForm, PortIn.reset_inForm⟩, Nat.zero_le _, Nat.zero_le _⟩

end Sys2Proof.Machine
end

section
/-! SUPPORT. Frames in bytes, received and laid out (R177, R186): the statements of the line in bytes. -/

namespace Sys2Proof.Machine

open Sys2Proof

/-! ## A frame received whole (O8) -/

/-- A receiver with start byte and length in hand takes the bytes still missing as one frame, and then hunts. -/
theorem receiveBytes_rest (a n : Byte) (rest bytes : List Byte) (hrest : rest.length < n.toNat + 2)
    (hall : rest.length + bytes.length = n.toNat + 2) :
    receiveBytes (a :: n :: rest) bytes = ([], (frameBody (a :: n :: (rest ++ bytes))).toList) := by
  induction bytes generalizing rest with
  | nil => simp only [List.length_nil] at hall; omega
  | cons b bs ih =>
    simp only [List.length_cons] at hall
    by_cases hmore : rest.length + 1 < n.toNat + 2
    · have hnext := ih (rest ++ [b]) (by rw [List.length_append]; exact hmore) (by rw [List.length_append, List.length_singleton]; omega)
      rw [List.append_assoc, List.singleton_append] at hnext
      simp only [receiveBytes, receiveByte, if_pos hmore, hnext]
      rfl
    · obtain rfl : bs = [] := List.eq_nil_of_length_eq_zero (by omega)
      simp [receiveBytes, receiveByte, hmore]

theorem byteOf_toNat {n : Nat} (h : n < 256) : (byteOf n).toNat = n := by
  simpa [byteOf, BitVec.toNat_ofNat] using Nat.mod_eq_of_lt h

/-- The body of a frame laid out by R177 is the one it was made of. -/
theorem frameBody_frameBytes {body : List Byte} (h : body.length < 256) : frameBody (frameBytes body) = some body := by
  simp [frameBytes, frameBody, byteOf_toNat h]

/-- Settles O8: the start byte and the length leave the receiver waiting for the body and the check, which complete the frame. -/
theorem frameReceivedWhole : Obligations.FrameReceivedWhole := by
  unfold Obligations.FrameReceivedWhole
  intro body hlo hhi
  have hn := byteOf_toNat (show body.length < 256 by omega)
  have hrange : lengthInRange (byteOf body.length) = true := by simp [lengthInRange, hn, hlo, hhi]
  have hbody := frameBody_frameBytes (show body.length < 256 by omega)
  have hcheck : (checkBytes (checkOf (byteOf body.length :: body))).length = 2 := rfl
  have hrest := receiveBytes_rest startByte (byteOf body.length) []
    (body ++ checkBytes (checkOf (byteOf body.length :: body))) (by simp) (by simp [hcheck, hn])
  calc receiveBytes [] (frameBytes body)
      = receiveBytes [startByte, byteOf body.length] (body ++ checkBytes (checkOf (byteOf body.length :: body))) := by
        simp [frameBytes, receiveBytes, receiveByte, hrange]
    _ = ([], (frameBody (frameBytes body)).toList) := hrest
    _ = ([], [body]) := by rw [hbody]; rfl

/-! ## Layouts (O9) -/

/-- The five bytes of a REQUEST ROUTE body give back its route and its tram. -/
theorem readRequestRoute_body (tag : Byte) {route tram : Nat} (hr : route < 256) (ht : tram < 65536) :
    readRequestRoute (requestRouteBody tag route tram) = some (tag, route, tram) := by
  have hhi : tram / 256 < 256 := by omega
  have hlo : (byteOf tram).toNat = tram % 256 := by simp [byteOf, BitVec.toNat_ofNat]
  have hval : wordValue (byteOf (tram / 256)) (byteOf tram) = tram := by
    rw [wordValue, byteOf_toNat hhi, hlo]; omega
  simp [readRequestRoute, requestRouteBody, wordBytes, byteOf_toNat hr, hval]

/-- A REQUEST ROUTE body spells its telegram. -/
theorem telegramOf_requestRouteBody (p : Port) (tag : Byte) {route tram : Nat} (hr : route < 256) (ht : tram < 65536) :
    telegramOf p (requestRouteBody tag route tram) = some (.requestRoute p tag route tram) := by
  have hread := readRequestRoute_body tag hr ht
  have hnone : (fieldless.find? fun x => x.code == (0x10 : Byte)) = none := by decide
  simp only [telegramOf, requestRouteBody] at hread ⊢
  rw [hnone]
  simp only [if_true, hread]

theorem replyHeader_eq (r : Reply) :
    replyHeader r = [r.kind, r.tag, r.outcome.code, (r.reason.map Reason.code).getD 0] := by
  unfold replyHeader; cases r.reason <;> rfl

theorem berthEntryBytes_eq (e : BerthEntry) :
    berthEntryBytes e =
      wordBytes e.tram ++ wordBytes e.length ++ [byteOf e.cls] ++ wordBytes (e.departure.getD 0xFFFF) ++ [e.state.code] ++
        timeBytes e.timeStabled := by
  unfold berthEntryBytes; cases e.departure <;> rfl

/-- Settles O9: each layout is laid out byte by byte as its table says. -/
theorem byteLayoutsOfTables : Obligations.ByteLayoutsOfTables := by
  unfold Obligations.ByteLayoutsOfTables
  intro hi lo bit time
  have htime : ∀ t, timeBytes t = time t := fun t => by cases t <;> rfl
  have hrecord : ∀ r : FaultRecord, faultRecordBytes r =
      [hi r.number, lo r.number, r.kind.cls.code, r.kind.code] ++ elementBytes r.element ++ time r.time ++
        (match r.context with
          | some c => [byteOf c.route, c.state.code, hi (c.tram.getD 0), lo (c.tram.getD 0)]
          | none => [0, 0, 0, 0]) ++
        checkDataBytes r.check ++ [bit r.cleared, bit r.marker, byteOf r.further.length, bit r.more] ++
        r.further.flatMap fun c => [c.kind.code] ++ elementBytes c.element ++ time c.time := fun r => by
    have hcontext : contextBytes r.context =
        match r.context with
        | some c => [byteOf c.route, c.state.code, hi (c.tram.getD 0), lo (c.tram.getD 0)]
        | none => [0, 0, 0, 0] := by cases r.context <;> rfl
    have hcause : causeBytes = fun c => [c.kind.code] ++ elementBytes c.element ++ time c.time :=
      funext fun c => by simp [causeBytes, htime]
    unfold faultRecordBytes
    rw [hcontext, hcause, htime]
    simp [wordBytes, bitByte, hi, lo, bit]
  refine ⟨fun body => ?frame, replyHeader_eq, fun p tag route tram => ⟨rfl, telegramOf_requestRouteBody p tag⟩,
    fun m slot route o tram a b c f held claimed => ?routeState, fun e => ?berthEntry, hrecord, fun m stored r => ?stored,
    fun m stored r => ?primary, rfl, fun target attempts peak duration => rfl, fun expected read => rfl,
    fun commanded reported => ⟨_, _, rfl⟩, fun a b => rfl, ⟨rfl, fun n => ⟨rfl, rfl, rfl, rfl, rfl⟩⟩, fun n => rfl,
    rfl, rfl, rfl, rfl, rfl, rfl, rfl, rfl, rfl, rfl⟩
  case frame => simp [frameBytes, checkBytes, wordBytes, startByte, hi, lo]
  case routeState => simp [routeStateBody, tramBytes, wordBytes, bitByte, hi, lo, bit]
  case berthEntry => simp [berthEntryBytes_eq, htime, wordBytes, hi, lo]
  case stored => simp [faultReportBody, hrecord, bitByte, bit]
  case primary =>
    exact ⟨0, 1, by simp [faultReportBody, hrecord, bitByte, bit], by simp [faultReportBody, hrecord, bitByte, bit], by decide⟩

end Sys2Proof.Machine
end

section
/-! SUPPORT. Telegrams taken, refused and answered (R164, R178, R179), and the lines of the ports: the statements on telegrams in
general, on the port telegrams, and on the frames of a line (chapter 12). -/

namespace Sys2Proof.Machine

open Sys2Proof

/-! ## A telegram heard -/

/-- A telegram of a port that does not wait is answered as judged; a refusal has no effect. -/
theorem State.takeTelegram_refused {s : State} {port : Port} (h : s.portWaits port = false) {k : TelegramKind} {tag : Byte}
    {verdict : State → Answer} {effect : State → State} {a : Answer}
    (ha : (s.dispatch port k.code tag).judged k verdict = a) (hr : a.outcome = .refused) :
    s.takeTelegram k port tag verdict effect = s.answered port k.code tag a := by
  subst ha
  rw [State.takeTelegram_eq h, if_pos hr]

/-- A telegram that a state hears, and that its rule does not refuse, has its effect on the answered state. -/
theorem State.takeTelegram_of_hears {s : State} {port : Port} {k : TelegramKind} (h : s.hears port k) {tag : Byte}
    {verdict : State → Answer} {effect : State → State} {a : Answer} (ha : verdict (s.dispatch port k.code tag) = a)
    (hr : a.outcome ≠ .refused) : s.takeTelegram k port tag verdict effect = effect (s.answered port k.code tag a) := by
  subst ha
  have hj := State.judged_of_hears h k.code tag verdict
  rw [State.takeTelegram_eq h.1, hj, if_neg hr]

/-- A telegram that a state hears, and that its rule refuses, is answered so. -/
theorem State.takeTelegram_refused_of_hears {s : State} {port : Port} {k : TelegramKind} (h : s.hears port k) {tag : Byte}
    {verdict : State → Answer} {effect : State → State} {a : Answer} (ha : verdict (s.dispatch port k.code tag) = a)
    (hr : a.outcome = .refused) : s.takeTelegram k port tag verdict effect = s.answered port k.code tag a :=
  State.takeTelegram_refused h.1 ((State.judged_of_hears h k.code tag verdict).trans ha) hr

/-- A kind that R164 excepts is heard by every port that does not wait. -/
theorem State.hears_of_takenFrozen {s : State} {port : Port} {k : TelegramKind} (h : s.portWaits port = false)
    (hk : k.takenFrozen = true) : s.hears port k := ⟨h, .inr hk⟩

/-- An unfrozen yard hears every kind on a port that does not wait. -/
theorem State.hears_of_unfrozen {s : State} {port : Port} (k : TelegramKind) (h : s.portWaits port = false)
    (hf : s.plant.freeze = none) : s.hears port k := ⟨h, .inl hf⟩

/-- Conditions none of which holds leave the answer. -/
theorem judge_of_all_false {l : List (Bool × Reason)} {a : Answer} (h : ∀ x ∈ l, x.1 = false) : judge l a = a :=
  judge_passed (firstReason_eq_none.mpr h)

@[simp] theorem judge_nil (a : Answer) : judge [] a = a := rfl
@[simp] theorem judge_cons_false (r : Reason) (l : List (Bool × Reason)) (a : Answer) : judge ((false, r) :: l) a = judge l a :=
  rfl
@[simp] theorem judge_cons_true (r : Reason) (l : List (Bool × Reason)) (a : Answer) : judge ((true, r) :: l) a = .refused r :=
  rfl

@[simp] theorem Port.plan_beq_desk : (Port.plan == Port.desk) = false := rfl
@[simp] theorem Port.desk_beq_plan : (Port.desk == Port.plan) = false := rfl

@[simp] theorem Answer.done_outcome : Answer.done.outcome = .done := rfl
@[simp] theorem Answer.doneWith_outcome (f : ReplyFields) : (Answer.doneWith f).outcome = .done := rfl
@[simp] theorem Answer.accepted_outcome : Answer.accepted.outcome = .accepted := rfl
@[simp] theorem Answer.refused_outcome (r : Reason) : (Answer.refused r).outcome = .refused := rfl

theorem Answer.clamped_not_refused (c : Bool) (f : ReplyFields) : (Answer.clamped c f).outcome ≠ .refused := by
  cases c <;> exact nofun

/-! ## A dispatched state -/

/-- The plant of a dispatched state is as before but for its sending halves. -/
theorem State.dispatch_plant (s : State) (port : Port) (kind tag : Byte) :
    ∃ a b, (s.dispatch port kind tag).plant = { s.plant with planOut := a, deskOut := b } := by
  cases port <;> exact ⟨_, _, rfl⟩

@[simp] theorem State.dispatch_settings (s : State) (port : Port) (kind tag : Byte) :
    (s.dispatch port kind tag).settings = s.settings := by cases port <;> rfl

@[simp] theorem State.dispatch_register (s : State) (port : Port) (kind tag : Byte) :
    (s.dispatch port kind tag).register = s.register := by cases port <;> rfl

@[simp] theorem State.dispatch_resetCause (s : State) (port : Port) (kind tag : Byte) :
    (s.dispatch port kind tag).resetCause = s.resetCause := by cases port <;> rfl

@[simp] theorem State.dispatch_session (s : State) (port : Port) (kind tag : Byte) :
    (s.dispatch port kind tag).plant.session = s.plant.session := by cases port <;> rfl

@[simp] theorem State.dispatch_yard (s : State) (port : Port) (kind tag : Byte) :
    (s.dispatch port kind tag).plant.yard = s.plant.yard := by cases port <;> rfl

@[simp] theorem State.dispatch_mode (s : State) (port : Port) (kind tag : Byte) :
    (s.dispatch port kind tag).plant.mode = s.plant.mode := by cases port <;> rfl

@[simp] theorem State.dispatch_hold (s : State) (port : Port) (kind tag : Byte) :
    (s.dispatch port kind tag).plant.hold = s.plant.hold := by cases port <;> rfl

@[simp] theorem State.dispatch_permit (s : State) (port : Port) (kind tag : Byte) :
    (s.dispatch port kind tag).plant.permit = s.plant.permit := by cases port <;> rfl

@[simp] theorem State.dispatch_current (s : State) (port : Port) (kind tag : Byte) :
    (s.dispatch port kind tag).plant.current = s.plant.current := by cases port <;> rfl

@[simp] theorem State.dispatch_layoutPermit (s : State) (port : Port) (kind tag : Byte) :
    ((s.dispatch port kind tag).portIn port).layoutPermit = (s.portIn port).layoutPermit := by cases port <;> rfl

@[simp] theorem State.dispatch_settingsPermit (s : State) (port : Port) (kind tag : Byte) :
    ((s.dispatch port kind tag).portIn port).settingsPermit = (s.portIn port).settingsPermit := by cases port <;> rfl

@[simp] theorem State.dispatch_recordPermit (s : State) (port : Port) (kind tag : Byte) :
    ((s.dispatch port kind tag).portIn port).recordPermit = (s.portIn port).recordPermit := by cases port <;> rfl

/-! ## Refused while frozen, and answered (O10, O11) -/

/-- Every telegram command is taken by its port under its kind and its tag. -/
theorem exec_of_telegram {c : Instr} {port : Port} {tag : Byte} {k : TelegramKind} (h : c.telegram = some (port, tag, k))
    (s : State) : ∃ verdict effect, exec c s = .next (s.takeTelegram k port tag verdict effect) := by
  cases c <;> cases h <;> exact ⟨_, _, rfl⟩

/-- Settles O10: such a telegram is judged FROZEN before its own rule, and a refusal has no effect. -/
theorem frozenYardRefuses : Obligations.FrozenYardRefuses := by
  unfold Obligations.FrozenYardRefuses
  intro c s port tag k hc hk hfrozen hport
  obtain ⟨verdict, effect, hexec⟩ := exec_of_telegram hc s
  have hjudged : (s.dispatch port k.code tag).judged k verdict = .refused .frozen := by
    simp [State.judged, Plant.frozen, hfrozen, hk]
  rw [hexec, State.takeTelegram_refused hport hjudged rfl]

/-- Settles O11: an answer finishes the reply before, and puts its own on the reply path. -/
theorem answeringTouchesOnlyThePort : Obligations.AnsweringTouchesOnlyThePort := by
  unfold Obligations.AnsweringTouchesOnlyThePort
  intro s port kind tag a t
  have hout : t.plant.out port = (s.plant.out port).finishReply.putReply (a.reply kind tag) := by cases port <;> rfl
  have hother : t.plant.out port.other = s.plant.out port.other := by cases port <;> rfl
  refine ⟨?_, ?_, ?_, ?_, hother, State.answered_plant s port kind tag a, ?_⟩
  · exact hout ▸ PortOut.putReply_replies _ _
  · rw [hout, PortOut.putReply_reports]
    exact PortOut.finishReply_reports _
  · simp [hout]
  · simp [hout]
  · cases port <;> rfl

/-! ## The port telegrams (O12, O13, O15, O17) -/

/-- Settles O12: STATUS answers with the fields of the state, worked once its frame has left the buffer. -/
theorem statusShowsTheYard : Obligations.StatusShowsTheYard := by
  unfold Obligations.StatusShowsTheYard
  intro s port tag hport
  have hfields : (s.dispatch port TelegramKind.status.code tag).statusFields port = s.statusFields port := by
    have hover := (s.plant.out port).finishReply_overrun
    cases port
    · exact congrArg (fun o => ReplyFields.status _ _ _ _ _ _ _ _ _ _ _ _ _ o _ _) hover
    · exact congrArg (fun o => ReplyFields.status _ _ _ _ _ _ _ _ _ _ _ _ _ o _ _) hover
  exact congrArg Host.Outcome.next
    (State.takeTelegram_of_hears (State.hears_of_takenFrozen hport rfl) (by rw [hfields]; rfl) (by simp))

/-- The end of a port's staging area: it goes if the port owns it, and one of the other port stays. -/
theorem State.endStaging_eq (s : State) (port : Port) :
    s.endStaging port =
      { s with
        store :=
          { s.store with
            staging :=
              match s.store.staging with
              | some g => if g.owner = port then none else some g
              | none => none } } := by
  unfold State.endStaging
  rcases s with ⟨pending, ⟨identity, layout, conflicts, staging, kept⟩, settings, register, planIn, deskIn, cause, due, plant⟩
  cases staging with
  | none => rfl
  | some g => by_cases h : g.owner = port <;> simp [h]

/-- Settles O13: each port telegram is answered DONE and writes one thing of its port, or marks the reset. -/
theorem portTelegrams : Obligations.PortTelegrams := by
  unfold Obligations.PortTelegrams
  intro s port tag
  refine ⟨fun h => ?_, fun h => ?_, fun h => ?_, fun e h => ?_⟩
  · exact congrArg Host.Outcome.next
      (State.takeTelegram_of_hears (State.hears_of_takenFrozen h rfl) (a := .done) rfl (by simp))
  · exact ⟨congrArg Host.Outcome.next (State.takeTelegram_of_hears h (a := .done) rfl (by simp)),
      congrArg Host.Outcome.next (State.takeTelegram_of_hears h (a := .done) rfl (by simp)),
      congrArg Host.Outcome.next (State.takeTelegram_of_hears h (a := .done) rfl (by simp))⟩
  · refine ⟨congrArg Host.Outcome.next ((State.takeTelegram_of_hears h (a := .done) rfl (by simp)).trans ?_),
      congrArg Host.Outcome.next (State.takeTelegram_of_hears h (a := .done) rfl (by simp)),
      congrArg Host.Outcome.next (State.takeTelegram_of_hears h (a := .done) rfl (by simp))⟩
    rw [if_pos rfl, State.endStaging_eq]
    cases port <;> rfl
  · exact congrArg Host.Outcome.next (State.takeTelegram_of_hears h (a := .done) rfl (by simp))

/-- Settles O15: a frame of no known kind is answered MALFORMED, and has no effect. -/
theorem unknownFrameAnsweredMalformed : Obligations.UnknownFrameAnsweredMalformed := by
  unfold Obligations.UnknownFrameAnsweredMalformed
  intro s port tag kind hport hfreeze
  refine ⟨?_, fun h => by simp [replyKind, h], fun h => by simp [replyKind, Nat.not_le.mpr h]⟩
  have hfrozen : (s.dispatch port kind tag).plant.frozen = false := by simp [Plant.frozen, hfreeze]
  show Host.Outcome.next (if s.portWaits port then s else _) = _
  rw [if_neg (by simp [hport])]
  simp only [hfrozen, Bool.false_and, judge_cons_false, judge_nil]
  rfl

/-- Settles O17: a transmitter that has sent its frame looks for work, the reply first. -/
theorem transmitterPutsReplyFirst : Obligations.TransmitterPutsReplyFirst := by
  unfold Obligations.TransmitterPutsReplyFirst
  intro s port
  have hsent : PortOut.frameSent = fun o : PortOut =>
      match o.reply, o.reports with
      | some r, _ => { o with sending := some (.reply r), reply := none }
      | none, r :: rest => { o with sending := some (.report r), reports := rest }
      | none, [] => { o with sending := none } := by
    funext o
    rcases o with ⟨sending, reply, reports, _, _⟩
    cases reply with
    | some r => rfl
    | none => cases reports <;> rfl
  exact congrArg (fun f => Host.Outcome.next (s.mapPlant fun _ p => p.mapOut port f)) hsent

end Sys2Proof.Machine
end

section
/-! SUPPORT. The lines of the ports, the settings store, the tram register and the layout store's staging area: the statements that
write one table and touch nothing else (chapters 1, 9 and 12). -/

namespace Sys2Proof.Machine

open Sys2Proof

/-! ## Frames of a line (O16) -/

/-- With no scan to be made and a sequencer that does not work automatically, a round asked for only clears its mark. -/
theorem Plant.settled_of_idle (env : Env) {p : Plant} (hs : p.wantScan = false) (ha : Plant.automatic env p = false) :
    Plant.settled env p = p.unmarked := by
  cases hv : p.wantRound with
  | false => rw [Plant.settled_of_settled env ⟨hs, hv⟩, Plant.unmarked_of_settled ⟨hs, hv⟩]
  | true =>
    have hround : Plant.round env { p with wantRound := false } = { p with wantRound := false } := Plant.round_of_idle env ha
    have hdone : ({ p with wantRound := false } : Plant).settledAlready := ⟨hs, rfl⟩
    show Plant.settle env (399 + 1) p = _
    rw [Plant.settle, if_neg (by simp [hs]), if_pos hv, hround, Plant.settle_of_settled env _ hdone,
      ← Plant.unmarked_of_settled hdone]
    rfl

/-- A mark set is a mark to be cleared. -/
@[simp] theorem Plant.askRound_unmarked (p : Plant) (sd : Side) : (p.askRound sd).unmarked = p.unmarked := by
  unfold Plant.askRound; split <;> rfl

@[simp] theorem Plant.askScan_unmarked (p : Plant) (sd : Side) : (p.askScan sd).unmarked = p.unmarked := by
  unfold Plant.askScan; split <;> rfl

/-- An event is its plant, with the scans and rounds that follow. -/
theorem State.event_of {s : State} {f : Env → Plant → Plant} {p : Plant} (h : f s.env s.plant = p) :
    s.event f = { s with plant := Plant.settled s.env p } := by
  subst h; rfl

/-- An event that leaves a quiet plant only clears the marks. -/
theorem State.event_of_quiet {s : State} {f : Env → Plant → Plant} {p : Plant} (h : f s.env s.plant = p)
    (hp : p.quiet s.env) : s.event f = { s with plant := p.unmarked } := by
  rw [State.event_of h, Plant.settled_of_quiet _ hp]

/-- On an event that gives a plant with nothing left to be made, the event is that plant. -/
theorem State.event_of_settled {s : State} {f : Env → Plant → Plant} {p : Plant} (h : f s.env s.plant = p)
    (hp : p.settledAlready) : s.event f = { s with plant := p } := by
  rw [State.event_of h, Plant.settled_of_settled _ hp]

/-- A frame that joins a receive buffer, or is lost when it is full. -/
theorem joinFrames_singleton (buffer : List (List Byte)) (f : List Byte) :
    joinFrames buffer [f] =
      (if 4 ≤ buffer.length then buffer else buffer ++ [f], decide (4 ≤ buffer.length)) := by
  by_cases h : buffer.length < 4
  · simp [joinFrames, Config.receiveCapacity, h, Nat.not_le.mpr h]
  · simp [joinFrames, Config.receiveCapacity, h, Nat.not_lt.mp h]

/-- What a hunting receiver makes of one frame, as an event of the plant. -/
theorem State.receive_frame {s : State} {port : Port} (h : (s.portIn port).assembling = []) {body : List Byte}
    (hlo : 2 ≤ body.length) (hhi : body.length ≤ 250) :
    let full := decide (4 ≤ (s.portIn port).buffer.length)
    s.receive port (frameBytes body) =
      (s.mapIn port fun i => { i with buffer := if full then i.buffer else i.buffer ++ [body] }).event fun _ p =>
        let q := if full then p.mapOut port fun o => { o with overrun := true } else p
        if port = .plan then q.endSilence else q := by
  intro full
  have hgot : receiveBytes (s.portIn port).assembling (frameBytes body) = ([], [body]) := by
    rw [h]; exact frameReceivedWhole body hlo hhi
  have hin : (s.mapIn port fun i =>
        { i with assembling := [], buffer := (joinFrames (s.portIn port).buffer [body]).1 }) =
      s.mapIn port fun i => { i with buffer := if full then i.buffer else i.buffer ++ [body] } := by
    have hi : ∀ i : PortIn, i = s.portIn port →
        ({ i with assembling := [], buffer := (joinFrames (s.portIn port).buffer [body]).1 } : PortIn) =
          { i with buffer := if full then i.buffer else i.buffer ++ [body] } := by
      rintro i rfl
      rw [joinFrames_singleton]
      simp only [full, decide_eq_true_eq]
      rw [← h]
    cases port
    · exact congrArg (fun i => { s with planIn := i }) (hi s.planIn rfl)
    · exact congrArg (fun i => { s with deskIn := i }) (hi s.deskIn rfl)
  simp only [State.receive, hgot, State.takeFrames]
  rw [hin, joinFrames_singleton]
  simp [full]

/-- Bytes that complete no frame change nothing but the frame in hand. -/
theorem State.receive_no_frame {s : State} {port : Port} {bytes : List Byte} (hs : s.plant.settledAlready)
    (h : (receiveBytes (s.portIn port).assembling bytes).2 = []) :
    s.receive port bytes =
      s.mapIn port fun i => { i with assembling := (receiveBytes (s.portIn port).assembling bytes).1 } := by
  have hin : (s.mapIn port fun i =>
        { i with assembling := (receiveBytes (s.portIn port).assembling bytes).1, buffer := (s.portIn port).buffer }) =
      s.mapIn port fun i => { i with assembling := (receiveBytes (s.portIn port).assembling bytes).1 } := by
    cases port <;> rfl
  simp only [State.receive, State.takeFrames, h, joinFrames]
  rw [hin, State.event_of_settled (p := s.plant) (by simp) hs]
  cases port <;> rfl

theorem State.mapIn_assembling_self {s : State} {port : Port} (h : (s.portIn port).assembling = []) (l : List Byte) :
    ((s.mapIn port fun i => { i with assembling := l }).mapIn port fun i => { i with assembling := [] }) = s := by
  rcases s with ⟨pending, store, settings, register, ⟨a, b, c, d, e⟩, ⟨a', b', c', d', e'⟩, cause, due, plant⟩
  cases port <;> (cases h; rfl)

theorem State.mapIn_hunting {s : State} {port : Port} (h : (s.portIn port).assembling = []) :
    (s.mapIn port fun i => { i with assembling := [] }) = s := by
  rcases s with ⟨pending, store, settings, register, ⟨a, b, c, d, e⟩, ⟨a', b', c', d', e'⟩, cause, due, plant⟩
  cases port <;> (cases h; rfl)

/-- A sending half that has lost a frame leaves the marks. -/
theorem Plant.settledAlready_mapOut {p : Plant} (h : p.settledAlready) (port : Port) (f : PortOut → PortOut) :
    (p.mapOut port f).settledAlready := by
  simpa [Plant.settledAlready] using h

/-- Settles O16: a frame joins the buffer or is lost, and on the plan port restarts the silence timer. -/
theorem lineFrames : Obligations.LineFrames := by
  unfold Obligations.LineFrames
  intro s port hidle hs
  refine ⟨fun body hlo hhi => ?_, fun bytes hnone => ?_, fun n hn => ?_⟩
  · intro full u p heard
    have hheard : heard = .next (u.event fun _ q =>
        let r := if full then q.mapOut port fun o => { o with overrun := true } else q
        if port = .plan then r.endSilence else r) := congrArg Host.Outcome.next (State.receive_frame hidle hlo hhi)
    have hplant : u.plant = s.plant := State.mapIn_plant s port _
    have hp : p.settledAlready := by
      simp only [p]; split
      · exact Plant.settledAlready_mapOut hs port _
      · exact hs
    have hlimit : p.silence = s.plant.silence ∧ p.now = s.plant.now ∧ p.mode = s.plant.mode := by
      simp only [p]; split <;> simp
    obtain ⟨hsilence, hnow, hmode⟩ := hlimit
    have hevent : ∀ q : Plant, (if port = .plan then p.endSilence else p) = q → q.settledAlready →
        heard = .next { u with plant := q } := fun q hq hdone => by
      rw [hheard, State.event_of_settled (p := q) (by rw [hplant]; exact hq) hdone]
    refine ⟨fun hdesk => hevent p (by simp [hdesk]) hp, fun hplan hnone => hevent p (by simp [hplan, Plant.endSilence, hsilence, hnone]) hp,
      fun ms hplan hms => ?_⟩
    intro q
    have hq : q.settledAlready := hp
    refine ⟨fun hloud => hevent q (by simp [hplan, Plant.endSilence, hsilence, hms, hloud, hnow, q]) hq, fun hsilent hmanual => ?_⟩
    have hgives : (if port = .plan then p.endSilence else p) = (q.reportOn .desk false .planRestored).askRound q.active := by
      simp [hplan, Plant.endSilence, hsilence, hms, hsilent, hnow, q]
    have hidle : Plant.automatic u.env ((q.reportOn .desk false .planRestored).askRound q.active) = false := by
      simp [Plant.automatic, q, hmode, hmanual]
    rw [hheard, State.event_of ((congrArg _ hplant).trans hgives), Plant.settled_of_idle _ (by simpa [q] using hp.1) hidle, Plant.askRound_unmarked]
  · rw [← hidle] at hnone
    show Host.Outcome.next ((s.receive port bytes).mapIn port fun i => { i with assembling := [] }) = _
    rw [State.receive_no_frame hs hnone, State.mapIn_assembling_self hidle]
  · have hgot : receiveBytes (s.portIn port).assembling [startByte, n] = ([], []) := by
      rw [hidle]; simp [receiveBytes, receiveByte, hn]
    show Host.Outcome.next (s.receive port [startByte, n]) = _
    rw [State.receive_no_frame hs (by rw [hgot]), hgot, State.mapIn_hunting hidle]

/-! ## The settings store (O14) -/

/-- A value is changed as it is taken in exactly when it is not in range. -/
theorem paramTaken_bne (n v : Nat) : (paramTaken n v != v) = !decide (paramTaken n v = v) := by
  by_cases h : paramTaken n v = v <;> simp [h]

theorem Params.get_isSome (p : Params) {n : Nat} (h1 : 1 ≤ n) (h2 : n ≤ 19) : ∃ v, p.get n = some v := by
  unfold Params.get
  split
  case h_20 => simp only [imp_false] at *; omega
  all_goals exact ⟨_, rfl⟩

/-- The answer to a SET PARAMETER that no condition refuses. -/
theorem setParameterAnswer_passed {s : State} {port : Port} {n v : Nat} (hp : (s.portIn port).settingsPermit = true)
    (h1 : 1 ≤ n) (h2 : n ≤ 19) (hbit : (n = 14 ∨ n = 17) → v ≤ 1)
    (hgap : n = 9 → Plant.gapAllowed s.env s.plant (paramTaken n v) = true) :
    setParameterAnswer port n v s =
      ⟨if paramTaken n v = v then .done else .doneClamped, none, .stored (paramTaken n v)⟩ := by
  refine (judge_of_all_false ?_).trans ?_
  · simp only [List.mem_cons, List.not_mem_nil, or_false, forall_eq_or_imp, forall_eq]
    refine ⟨by simp [hp], by simp [inRange, h1, h2], ?_, ?_⟩
    · by_cases hb : n = 14 ∨ n = 17
      · simp [Nat.not_lt.mpr (hbit hb)]
      · have h14 : (n == 14 || n == 17) = false := by simpa using hb
        simp [h14]
    · by_cases h9 : n = 9
      · simp [hgap h9]
      · simp [h9]
  · rw [Answer.clamped, paramTaken_bne]
    by_cases h : paramTaken n v = v <;> simp [h]

/-- Settles O14: a value with its permit is stored as taken in; the value stored and the one in force are read back. -/
theorem parameterTelegrams : Obligations.ParameterTelegrams := by
  unfold Obligations.ParameterTelegrams
  intro s port tag n h1 h2
  refine ⟨fun v hears hpermit hbit hgap => ?_, fun hport => ?_⟩
  · intro w
    have hanswer : setParameterAnswer port n v (s.dispatch port TelegramKind.setParameter.code tag) =
        ⟨if w = v then .done else .doneClamped, none, .stored w⟩ := by
      refine setParameterAnswer_passed (by simpa using hpermit) h1 h2 hbit fun h9 => ?_
      obtain ⟨a, b, hd⟩ := s.dispatch_plant port TelegramKind.setParameter.code tag
      rw [State.dispatch_env, hd]
      exact hgap h9
    refine ⟨paramTaken_inRange n v, paramTaken_of_inRange, ?_, Params.get_set_self _ _ h1 h2,
      fun m hm => Params.get_set_ne _ _ hm⟩
    refine congrArg Host.Outcome.next ((State.takeTelegram_of_hears hears hanswer ?_).trans ?_)
    · by_cases h : w = v <;> simp [h]
    · rw [State.answered_settings]; rfl
  · obtain ⟨v, hv⟩ := s.settings.stored.get_isSome h1 h2
    refine ⟨v, hv, congrArg Host.Outcome.next
      (State.takeTelegram_of_hears (State.hears_of_takenFrozen hport rfl) ?_ (Answer.doneWith_outcome _ ▸ nofun))⟩
    simp [hv]

/-! ## The tram register (O20, O21) -/

theorem noRepeat_of_nodup {l : List Nat} (h : l.Nodup) : noRepeat l = true := by
  induction l with
  | nil => rfl
  | cons x l ih =>
    obtain ⟨hx, hl⟩ := List.nodup_cons.mp h
    simp [noRepeat, hx, ih hl]

/-- A tram that is not entered keeps its place in the register. -/
theorem findBy_enterTrams_ne {l : List RegisterEntry} {es : List TramFields} {n : Nat} (h : ∀ e ∈ es, e.tram ≠ n) :
    findBy RegisterEntry.tram n (enterTrams l es) = findBy RegisterEntry.tram n l := by
  induction es generalizing l with
  | nil => rfl
  | cons e es ih =>
    obtain ⟨he, hes⟩ := List.forall_mem_cons.mp h
    exact (ih hes).trans (findBy_putBy_ne RegisterEntry.tram (registerEntryOf e) l (Ne.symm he))

/-- Of trams entered, each once, each is found as it was entered. -/
theorem findBy_enterTrams {l : List RegisterEntry} {es : List TramFields} (hn : (es.map TramFields.tram).Nodup)
    {e : TramFields} (he : e ∈ es) : findBy RegisterEntry.tram e.tram (enterTrams l es) = some (registerEntryOf e) := by
  induction es generalizing l with
  | nil => cases he
  | cons x es ih =>
    obtain ⟨hx, hes⟩ := List.nodup_cons.mp (List.map_cons ▸ hn)
    rcases List.mem_cons.mp he with rfl | he
    · have hrest : ∀ y ∈ es, y.tram ≠ e.tram := fun y hy h => hx (h ▸ List.mem_map_of_mem hy)
      exact (findBy_enterTrams_ne hrest).trans (findBy_putBy_self RegisterEntry.tram (registerEntryOf e) l)
    · exact ih hes he

/-- Settles O20: entries that no condition refuses are put one after the other, each under its tram. -/
theorem tramEntryReplaces : Obligations.TramEntryReplaces := by
  unfold Obligations.TramEntryReplaces
  intro s tag es hears hsession hlo hhi hfields hnodup hroom
  refine ⟨enterTrams s.register.trams es, ?_, fun e he => ?_, fun n hn => findBy_enterTrams_ne hn⟩
  · have hanswer : tramEntryAnswer .plan es (s.dispatch .plan TelegramKind.tramEntry.code tag) =
        ⟨if es.any tramFieldsClamped then .doneClamped else .done, none, .none⟩ := by
      refine judge_of_all_false ?_
      simp only [List.mem_cons, List.not_mem_nil, or_false, forall_eq_or_imp, forall_eq]
      have htram : ∀ e ∈ es, tramInRange e.tram = true := fun e he => by
        obtain ⟨h1, h2, -, -⟩ := hfields e he
        simp [tramInRange, inRange, h1, h2]
      have hcls : ∀ e ∈ es, inRange 4 e.cls = true := fun e he => by
        obtain ⟨-, -, h1, h2⟩ := hfields e he
        simp [inRange, h1, h2]
      exact ⟨by simp [countOk, hlo, hhi], rfl, by simp [hsession], by simpa using htram,
        by simpa [noRepeat_of_nodup hnodup] using hcls, by simpa [Config.registerCapacity] using hroom⟩
    refine congrArg Host.Outcome.next ((State.takeTelegram_of_hears hears hanswer ?_).trans ?_)
    · exact Answer.clamped_not_refused _ _
    · rw [State.answered_register]; rfl
  · exact findBy_enterTrams hnodup he

/-- What a filter by the number keeps is found as before, and what it drops is not found. -/
theorem findBy_filter_key {α : Type} {key : α → Nat} {keep : Nat → Bool} {n : Nat} {l : List α} :
    findBy key n (l.filter fun x => keep (key x)) = if keep n then findBy key n l else none := by
  induction l with
  | nil => simp
  | cons x l ih =>
    by_cases hk : keep (key x) = true
    · by_cases hx : key x = n
      · simp [findBy_cons, ← hx, hk]
      · simp [findBy_cons, hx, hk, ih]
    · by_cases hx : key x = n
      · subst hx; simp [hk, ih]
      · simp [findBy_cons, hx, hk, ih]

/-- Settles O21: the conditions are mutually exclusive as they are worked in order, and the deletion is a filter by number. -/
theorem tramRemoveDeletes : Obligations.TramRemoveDeletes := by
  unfold Obligations.TramRemoveDeletes
  intro s port tag names hport hcount k l t
  have hnames : tramNamesCountOk 10 names = true := by
    cases names with
    | all => rfl
    | list ns => simpa [tramNamesCountOk, countOk] using hcount ns rfl
  have hrefused : ∀ r, (s.dispatch port k tag).judged .tramRemove (fun t => judge
      [(!tramNamesCountOk 10 names, .malformed), (port == .desk, .notAuthority), (t.plant.session.isSome, .rehearsal),
        (!tramNamesInRange names, .unknownItem)] .done) = .refused r →
      exec (.tramRemove port tag names) s = .next (s.answered port k tag (.refused r)) := fun r hr =>
    congrArg Host.Outcome.next (State.takeTelegram_refused hport hr rfl)
  refine ⟨fun hf => hrefused .frozen ?_, fun hf hdesk => hrefused .notAuthority ?_, fun hf hplan hs => hrefused .rehearsal ?_,
    fun hf hplan hs hn => hrefused .unknownItem ?_, fun hf hplan hs hn => ⟨?_, fun n hin => ?_, fun n hout => ?_⟩⟩
  · simp [State.judged, Plant.frozen, hf, TelegramKind.takenFrozen]
  · simp [State.judged, Plant.frozen, hf, hnames, hdesk]
  · simp [State.judged, Plant.frozen, hf, hnames, hplan, hs]
  · simp [State.judged, Plant.frozen, hf, hnames, hplan, hs, hn]
  · refine congrArg Host.Outcome.next ((State.takeTelegram_of_hears (State.hears_of_unfrozen .tramRemove hport hf)
      (a := .done) ?_ (by simp)).trans ?_)
    · simp [hnames, hplan, hs, hn]
    · rw [State.answered_register]; rfl
  · have hgone : t.env.tram? n = none := (findBy_filter_key (keep := fun m => !namesTram names m)).trans (by simp [hin])
    exact ⟨hgone, by rw [Env.dataOf, hgone]; rfl⟩
  · exact (findBy_filter_key (keep := fun m => !namesTram names m)).trans (by simp [hout]; rfl)

/-! ## The staging area (O40) -/

theorem State.otherOwns_eq_false {s : State} {port : Port} (h : ∀ g, s.store.staging = some g → g.owner = port) :
    s.otherOwns port = false := by
  unfold State.otherOwns
  cases hg : s.store.staging with
  | none => rfl
  | some g => rw [Option.any_some, h g hg]; cases port <;> rfl

/-- The conditions that the telegrams of the layout store share (Tables 1-2 to 1-6), when none of them holds. -/
theorem layoutConditions_passed {s : State} {port : Port} (hs : s.plant.session = none)
    (hp : (s.portIn port).layoutPermit = true) (hown : ∀ g, s.store.staging = some g → g.owner = port) :
    ∀ x ∈ layoutConditions port s, x.1 = false := by
  simp [layoutConditions, hs, hp, State.otherOwns_eq_false hown]

/-- Settles O40: LAYOUT BEGIN and LAYOUT ABANDON write the staging area alone. -/
theorem layoutBeginAndAbandon : Obligations.LayoutBeginAndAbandon := by
  unfold Obligations.LayoutBeginAndAbandon
  intro s port tag
  refine ⟨fun expected fresh form hears hs hp hown hid h1 h2 => ?_, fun hears hown => ?_⟩
  · refine congrArg Host.Outcome.next ((State.takeTelegram_of_hears hears (a := .done) ?_ (by simp)).trans ?_)
    · refine judge_of_all_false fun x hx => ?_
      rcases List.mem_append.mp hx with hx | hx
      · exact layoutConditions_passed (by simpa using hs) (by simpa using hp) (by simpa using hown) x hx
      · simp only [List.mem_cons, List.not_mem_nil, or_false] at hx
        rcases hx with rfl | rfl
        · by_cases hheld : s.store.held = true
          · simp [hheld, hid hheld]
          · simp [hheld]
        · simp [Config.erasedIdentity, h1, h2]
    · rw [State.answered_store]
      cases form <;> rfl
  · refine congrArg Host.Outcome.next ((State.takeTelegram_of_hears hears (a := .done) ?_ (by simp)).trans ?_)
    · simp [State.otherOwns_eq_false (s := s.dispatch port _ tag) (by simpa using hown)]
    · rw [State.endStaging_eq, State.answered_store]
      cases hg : s.store.staging with
      | none => rfl
      | some g => simp [hown g hg]

end Sys2Proof.Machine
end

section
/-! SUPPORT. The yard in force and the tables of a side, after a change of one of them: what is read back, and what stays. -/

namespace Sys2Proof.Machine

open Sys2Proof

/-! ## What the tables of a side depend on -/

/-- The tables of a side depend on the real yard and the session alone. -/
theorem Plant.yardOf_congr {p q : Plant} (hy : q.yard = p.yard) (hs : q.session = p.session) (sd : Side) :
    q.yardOf sd = p.yardOf sd := by
  cases sd
  · exact hy
  · simp only [Plant.yardOf, hs, hy]

theorem Plant.active_congr {p q : Plant} (hs : q.session = p.session) : q.active = p.active := by
  simp only [Plant.active, hs]

theorem Plant.current_congr {p q : Plant} (hy : q.yard = p.yard) (hs : q.session = p.session) : q.current = p.current := by
  rw [Plant.current, Plant.active_congr hs, Plant.yardOf_congr hy hs]; rfl

@[simp] theorem Plant.yardOf_real (p : Plant) : p.yardOf .real = p.yard := rfl

theorem Plant.yardOf_copy {p : Plant} {c : Session} (h : p.session = some c) : p.yardOf .copy = c.copy := by
  simp [Plant.yardOf, h]

theorem Plant.active_of_none {p : Plant} (h : p.session = none) : p.active = .real := by simp [Plant.active, h]

theorem Plant.active_of_some {p : Plant} {c : Session} (h : p.session = some c) : p.active = .copy := by
  simp [Plant.active, h]

theorem Plant.current_of_none {p : Plant} (h : p.session = none) : p.current = p.yard := by
  simp [Plant.current, Plant.active_of_none h]

theorem Plant.current_of_some {p : Plant} {c : Session} (h : p.session = some c) : p.current = c.copy := by
  rw [Plant.current, Plant.active_of_some h, Plant.yardOf_copy h]

/-! ## A change of a side's yard -/

/-- Setting the yard of the copies changes the session. -/
theorem Plant.setYard_copy {p : Plant} {c : Session} (h : p.session = some c) (y : Yard) :
    p.setYard .copy y = { p with session := some { c with copy := y } } := by
  simp [Plant.setYard, h]

@[simp] theorem Plant.setYard_active (p : Plant) (sd : Side) (y : Yard) : (p.setYard sd y).active = p.active := by
  cases sd with
  | real => rfl
  | copy =>
    cases h : p.session with
    | none => simp [Plant.setYard, Plant.active, h]
    | some c => simp [Plant.setYard, Plant.active, h]

@[simp] theorem Plant.yardOf_setYard_self (p : Plant) (sd : Side) (y : Yard) : (p.setYard sd y).yardOf sd = y := by
  cases sd with
  | real => rfl
  | copy =>
    cases h : p.session with
    | none => simp [Plant.setYard, Plant.yardOf, h]
    | some c => simp [Plant.setYard, Plant.yardOf, h]

@[simp] theorem Plant.yardOf_mapYard_self (p : Plant) (sd : Side) (f : Yard → Yard) :
    (p.mapYard sd f).yardOf sd = f (p.yardOf sd) := by simp [Plant.mapYard]

@[simp] theorem Plant.mapYard_active (p : Plant) (sd : Side) (f : Yard → Yard) : (p.mapYard sd f).active = p.active := by
  simp [Plant.mapYard]

@[simp] theorem Plant.mapPoint_active (p : Plant) (sd : Side) (n : Nat) (f : Point → Point) : (p.mapPoint sd n f).active = p.active :=
  Plant.mapYard_active ..
@[simp] theorem Plant.mapTrack_active (p : Plant) (sd : Side) (n : Nat) (f : Track → Track) : (p.mapTrack sd n f).active = p.active :=
  Plant.mapYard_active ..
@[simp] theorem Plant.mapSignal_active (p : Plant) (sd : Side) (n : Nat) (f : Signal → Signal) : (p.mapSignal sd n f).active = p.active :=
  Plant.mapYard_active ..
@[simp] theorem Plant.mapRunOut_active (p : Plant) (sd : Side) (n : Nat) (f : RunOut → RunOut) : (p.mapRunOut sd n f).active = p.active :=
  Plant.mapYard_active ..
@[simp] theorem Plant.setRoads_active (p : Plant) (sd : Side) (l : List Road) : (p.setRoads sd l).active = p.active := by
  unfold Plant.setRoads
  split
  · exact Plant.mapYard_active ..
  · exact Plant.mapYard_active ..
@[simp] theorem Plant.mapRoad_active (p : Plant) (sd : Side) (b : Berth) (f : Road → Road) :
    (p.mapRoad sd b f).active = p.active := Plant.setRoads_active ..
@[simp] theorem Plant.mapRoads_active (p : Plant) (sd : Side) (a : Berth) (f : Road → Road) (b : Berth) (g : Road → Road) :
    (p.mapRoads sd a f b g).active = p.active := Plant.setRoads_active ..
@[simp] theorem Plant.setArrivals_active (p : Plant) (sd : Side) (l : List Arrival) :
    (p.setArrivals sd l).active = p.active := by
  unfold Plant.setArrivals
  dsimp only
  split
  · exact Plant.mapYard_active ..
  · exact Plant.mapYard_active ..

theorem Plant.mapYard_copy {p : Plant} {c : Session} (h : p.session = some c) (f : Yard → Yard) :
    p.mapYard .copy f = { p with session := some { c with copy := f c.copy } } := by
  rw [Plant.mapYard, Plant.setYard_copy h, Plant.yardOf_copy h]

/-- A change of the yard in force is read back. -/
@[simp] theorem Plant.mapYard_current (p : Plant) (f : Yard → Yard) : (p.mapYard p.active f).current = f p.current := by
  simp [Plant.current]

@[simp] theorem Plant.mapYard_real_yard (p : Plant) (f : Yard → Yard) : (p.mapYard .real f).yard = f p.yard := rfl

@[simp] theorem Plant.mapYard_real_session (p : Plant) (f : Yard → Yard) : (p.mapYard .real f).session = p.session := rfl

/-! ## What leaves the yards -/

@[simp] theorem Plant.report_yardOf (p : Plant) (sd' : Side) (b : ReportBody) (sd : Side) :
    (p.report sd' b).yardOf sd = p.yardOf sd := Plant.yardOf_congr (by simp) (by simp) sd
@[simp] theorem Plant.report_active (p : Plant) (sd : Side) (b : ReportBody) : (p.report sd b).active = p.active :=
  Plant.active_congr (by simp)
@[simp] theorem Plant.report_current (p : Plant) (sd : Side) (b : ReportBody) : (p.report sd b).current = p.current :=
  Plant.current_congr (by simp) (by simp)
@[simp] theorem Plant.send_yardOf (p : Plant) (n : Nat) (f : LinkFrame) (sd : Side) : (p.send n f).yardOf sd = p.yardOf sd :=
  Plant.yardOf_congr rfl rfl sd
@[simp] theorem Plant.send_active (p : Plant) (n : Nat) (f : LinkFrame) : (p.send n f).active = p.active :=
  Plant.active_congr rfl
@[simp] theorem Plant.sendUp_yardOf (p : Plant) (n : Nat) (f : LinkFrame) (sd : Side) :
    (p.sendUp n f).yardOf sd = p.yardOf sd := Plant.yardOf_congr (by simp) (by simp) sd
@[simp] theorem Plant.sendUp_active (p : Plant) (n : Nat) (f : LinkFrame) : (p.sendUp n f).active = p.active :=
  Plant.active_congr (by simp)
@[simp] theorem Plant.mapSlot_yardOf (p : Plant) (n : Nat) (f : Slot → Slot) (sd : Side) :
    (p.mapSlot n f).yardOf sd = p.yardOf sd := Plant.yardOf_congr rfl rfl sd
@[simp] theorem Plant.mapSlot_active (p : Plant) (n : Nat) (f : Slot → Slot) : (p.mapSlot n f).active = p.active :=
  Plant.active_congr rfl
@[simp] theorem Plant.mapSlot_current (p : Plant) (n : Nat) (f : Slot → Slot) : (p.mapSlot n f).current = p.current :=
  Plant.current_congr rfl rfl
@[simp] theorem Plant.askScan_yardOf (p : Plant) (sd' sd : Side) : (p.askScan sd').yardOf sd = p.yardOf sd :=
  Plant.yardOf_congr (by simp) (by simp) sd
@[simp] theorem Plant.askScan_active (p : Plant) (sd : Side) : (p.askScan sd).active = p.active :=
  Plant.active_congr (by simp)
@[simp] theorem Plant.askScan_current (p : Plant) (sd : Side) : (p.askScan sd).current = p.current :=
  Plant.current_congr (by simp) (by simp)
@[simp] theorem Plant.askRound_yardOf (p : Plant) (sd' sd : Side) : (p.askRound sd').yardOf sd = p.yardOf sd :=
  Plant.yardOf_congr (by simp) (by simp) sd
@[simp] theorem Plant.askRound_active (p : Plant) (sd : Side) : (p.askRound sd).active = p.active :=
  Plant.active_congr (by simp)
@[simp] theorem Plant.askRound_current (p : Plant) (sd : Side) : (p.askRound sd).current = p.current :=
  Plant.current_congr (by simp) (by simp)
@[simp] theorem Plant.goodFrame_yardOf (p : Plant) (n : Nat) (sd : Side) : (p.goodFrame n).yardOf sd = p.yardOf sd :=
  Plant.yardOf_congr rfl rfl sd
@[simp] theorem Plant.goodFrame_active (p : Plant) (n : Nat) : (p.goodFrame n).active = p.active := Plant.active_congr rfl
@[simp] theorem Plant.goodFrame_current (p : Plant) (n : Nat) : (p.goodFrame n).current = p.current :=
  Plant.current_congr rfl rfl
@[simp] theorem Plant.unmarked_yardOf (p : Plant) (sd : Side) : p.unmarked.yardOf sd = p.yardOf sd :=
  Plant.yardOf_congr rfl rfl sd
@[simp] theorem Plant.unmarked_current (p : Plant) : p.unmarked.current = p.current := Plant.current_congr rfl rfl
@[simp] theorem Plant.unmarked_active (p : Plant) : p.unmarked.active = p.active := Plant.active_congr rfl

@[simp] theorem Plant.mapSession_active (p : Plant) (f : Session → Session) : (p.mapSession f).active = p.active := by
  simp [Plant.active, Plant.mapSession]

/-- A change of a session that leaves its copies leaves the tables of both sides. -/
theorem Plant.mapSession_yardOf (p : Plant) {f : Session → Session} (hf : ∀ c, (f c).copy = c.copy) (sd : Side) :
    (p.mapSession f).yardOf sd = p.yardOf sd := by
  cases sd with
  | real => rfl
  | copy => cases h : p.session <;> simp [Plant.yardOf, Plant.mapSession, h, hf]

@[simp] theorem State.answered_current (s : State) (port : Port) (kind tag : Byte) (a : Answer) :
    (s.answered port kind tag a).plant.current = s.plant.current := Plant.current_congr (by simp) (by simp)
@[simp] theorem State.answered_active (s : State) (port : Port) (kind tag : Byte) (a : Answer) :
    (s.answered port kind tag a).plant.active = s.plant.active := Plant.active_congr (by simp)
@[simp] theorem State.answered_yardOf (s : State) (port : Port) (kind tag : Byte) (a : Answer) (sd : Side) :
    (s.answered port kind tag a).plant.yardOf sd = s.plant.yardOf sd := Plant.yardOf_congr (by simp) (by simp) sd
@[simp] theorem State.answered_silence (s : State) (port : Port) (kind tag : Byte) (a : Answer) :
    (s.answered port kind tag a).plant.silence = s.plant.silence := by cases port <;> rfl
@[simp] theorem State.answered_linkSent (s : State) (port : Port) (kind tag : Byte) (a : Answer) :
    (s.answered port kind tag a).plant.linkSent = s.plant.linkSent := by cases port <;> rfl
@[simp] theorem State.answered_keptRoads (s : State) (port : Port) (kind tag : Byte) (a : Answer) :
    (s.answered port kind tag a).plant.keptRoads = s.plant.keptRoads := by cases port <;> rfl
@[simp] theorem State.answered_keptOutOfUse (s : State) (port : Port) (kind tag : Byte) (a : Answer) :
    (s.answered port kind tag a).plant.keptOutOfUse = s.plant.keptOutOfUse := by cases port <;> rfl
@[simp] theorem State.answered_noBerthTram (s : State) (port : Port) (kind tag : Byte) (a : Answer) :
    (s.answered port kind tag a).plant.noBerthTram = s.plant.noBerthTram := by cases port <;> rfl

/-! ## A quiet plant -/

/-- Whether a plant is quiet depends on its queue, its mode, the freeze, the hold and the silence. -/
theorem Plant.quiet_congr {env : Env} {p q : Plant} (h : p.quiet env) (hq : q.queue = p.queue) (hm : q.mode = p.mode)
    (hf : q.freeze = p.freeze) (hh : q.hold = p.hold) (hs : q.silence = p.silence) : q.quiet env := by
  obtain ⟨hqueue, hauto⟩ := h
  refine ⟨hq.trans hqueue, ?_⟩
  simpa only [Plant.automatic, Plant.frozen, Plant.holding, hm, hf, hh, hs] using hauto

theorem State.answered_quiet {s : State} (h : s.plant.quiet s.env) (port : Port) (kind tag : Byte) (a : Answer) :
    (s.answered port kind tag a).plant.quiet s.env :=
  Plant.quiet_congr h (by simp) (by simp) (by simp) (by simp) (by simp)

end Sys2Proof.Machine
end

section
/-! SUPPORT. What no cascade of the plant's rules changes, said once for every rule, in the order of the rules: the time base, the
release permit, the silence timer, the links but for the moment of the last frame sent, and the bounds of the report queues (R180);
and what most rules keep besides: the mode, the freeze, the hold, the yard in force, a quiet plant. -/

namespace Sys2Proof.Machine

open Sys2Proof

/-- A link but for the moment of the last frame sent on it. -/
def Link.unsent (l : Link) : Link := { l with lastSent := 0 }

/-- What every rule keeps of a plant. -/
structure Plant.Keeps (p q : Plant) : Prop where
  now : q.now = p.now
  permit : q.permit = p.permit
  silence : q.silence = p.silence
  links : q.links.map Link.unsent = p.links.map Link.unsent
  bounded : p.reportsBounded → q.reportsBounded

/-- What every rule keeps that neither queues a request, nor freezes the yard, nor ends a session: the mode, the freeze, the hold
and the yard in force besides, and no request is added. -/
structure Plant.Cascade (p q : Plant) : Prop extends p.Keeps q where
  queue : q.queue.Sublist p.queue
  mode : q.mode = p.mode
  freeze : q.freeze = p.freeze
  hold : q.hold = p.hold
  active : q.active = p.active

theorem Plant.Keeps.refl (p : Plant) : p.Keeps p := ⟨rfl, rfl, rfl, rfl, id⟩

theorem Plant.Keeps.trans {p q r : Plant} (h : p.Keeps q) (h' : q.Keeps r) : p.Keeps r :=
  ⟨h'.now.trans h.now, h'.permit.trans h.permit, h'.silence.trans h.silence, h'.links.trans h.links, h'.bounded ∘ h.bounded⟩

theorem Plant.Cascade.refl (p : Plant) : p.Cascade p := ⟨.refl p, .refl _, rfl, rfl, rfl, rfl⟩

theorem Plant.Cascade.trans {p q r : Plant} (h : p.Cascade q) (h' : q.Cascade r) : p.Cascade r :=
  ⟨h.toKeeps.trans h'.toKeeps, h'.queue.trans h.queue, h'.mode.trans h.mode, h'.freeze.trans h.freeze, h'.hold.trans h.hold,
    h'.active.trans h.active⟩

/-- No cascade disturbs a quiet plant. -/
theorem Plant.Cascade.quiet {env : Env} {p q : Plant} (h : p.Cascade q) (hp : p.quiet env) : q.quiet env :=
  Plant.quiet_congr hp ((List.sublist_nil.mp (hp.1 ▸ h.queue)).trans hp.1.symm) h.mode h.freeze h.hold h.silence

section
variable {env : Env} {p q q' : Plant} {sd : Side}

/-! ## The changes that rules are made of -/

/-- A change of tables that the relation does not speak of. -/
theorem Plant.Cascade.tables (h : p.Cascade q) (hnow : q'.now = q.now := by simp) (hplan : q'.planOut = q.planOut := by simp)
    (hdesk : q'.deskOut = q.deskOut := by simp) (hlinks : q'.links = q.links := by simp)
    (hqueue : q'.queue = q.queue := by simp) (hmode : q'.mode = q.mode := by simp)
    (hfreeze : q'.freeze = q.freeze := by simp) (hhold : q'.hold = q.hold := by simp)
    (hpermit : q'.permit = q.permit := by simp) (hsilence : q'.silence = q.silence := by simp)
    (hactive : q'.active = q.active := by simp) : p.Cascade q' where
  now := hnow.trans h.now
  permit := hpermit.trans h.permit
  silence := hsilence.trans h.silence
  links := hlinks ▸ h.links
  bounded hb := by rw [Plant.reportsBounded, hplan, hdesk]; exact h.bounded hb
  queue := hqueue ▸ h.queue
  mode := hmode.trans h.mode
  freeze := hfreeze.trans h.freeze
  hold := hhold.trans h.hold
  active := hactive.trans h.active

theorem Plant.Keeps.tables (h : p.Keeps q) (hnow : q'.now = q.now := by simp) (hplan : q'.planOut = q.planOut := by simp)
    (hdesk : q'.deskOut = q.deskOut := by simp) (hlinks : q'.links = q.links := by simp)
    (hpermit : q'.permit = q.permit := by simp) (hsilence : q'.silence = q.silence := by simp) : p.Keeps q' where
  now := hnow.trans h.now
  permit := hpermit.trans h.permit
  silence := hsilence.trans h.silence
  links := hlinks ▸ h.links
  bounded hb := by rw [Plant.reportsBounded, hplan, hdesk]; exact h.bounded hb

theorem Plant.Cascade.ite {c : Prop} [Decidable c] (h : p.Cascade q) (h' : p.Cascade q') :
    p.Cascade (if c then q else q') := by split <;> assumption

theorem Plant.Cascade.foldl {α : Type} {f : Plant → α → Plant} (hf : ∀ r x, p.Cascade r → p.Cascade (f r x)) (l : List α)
    (h : p.Cascade q) : p.Cascade (l.foldl f q) := by
  induction l generalizing q with
  | nil => exact h
  | cons x l ih => exact ih (hf q x h)

theorem Plant.Keeps.foldl {α : Type} {f : Plant → α → Plant} (hf : ∀ r x, p.Keeps r → p.Keeps (f r x)) (l : List α)
    (h : p.Keeps q) : p.Keeps (l.foldl f q) := by
  induction l generalizing q with
  | nil => exact h
  | cons x l ih => exact ih (hf q x h)

theorem Plant.Keeps.report {b : ReportBody} (h : p.Keeps q) : p.Keeps (q.report sd b) where
  now := by simpa using h.now
  permit := by simpa using h.permit
  silence := by simpa using h.silence
  links := by simpa using h.links
  bounded hb := Plant.report_reportsBounded _ _ (h.bounded hb)

theorem Plant.Cascade.report {b : ReportBody} (h : p.Cascade q) : p.Cascade (q.report sd b) :=
  ⟨h.toKeeps.report, by simpa using h.queue, by simpa using h.mode, by simpa using h.freeze, by simpa using h.hold,
    by simpa using h.active⟩

theorem Plant.Cascade.mapYard {f : Yard → Yard} (h : p.Cascade q) : p.Cascade (q.mapYard sd f) := h.tables
theorem Plant.Cascade.mapPoint {n : Nat} {f : Point → Point} (h : p.Cascade q) : p.Cascade (q.mapPoint sd n f) := h.tables
theorem Plant.Cascade.mapTrack {n : Nat} {f : Track → Track} (h : p.Cascade q) : p.Cascade (q.mapTrack sd n f) := h.tables
theorem Plant.Cascade.mapSignal {n : Nat} {f : Signal → Signal} (h : p.Cascade q) : p.Cascade (q.mapSignal sd n f) := h.tables
theorem Plant.Cascade.mapRunOut {n : Nat} {f : RunOut → RunOut} (h : p.Cascade q) : p.Cascade (q.mapRunOut sd n f) := h.tables
theorem Plant.Cascade.mapSlot {n : Nat} {f : Slot → Slot} (h : p.Cascade q) : p.Cascade (q.mapSlot n f) := h.tables
theorem Plant.Cascade.mapSession {f : Session → Session} (h : p.Cascade q) : p.Cascade (q.mapSession f) := h.tables
theorem Plant.Cascade.setRoads {l : List Road} (h : p.Cascade q) : p.Cascade (q.setRoads sd l) := h.tables
theorem Plant.Cascade.mapRoad {b : Berth} {f : Road → Road} (h : p.Cascade q) : p.Cascade (q.mapRoad sd b f) := h.tables
theorem Plant.Cascade.mapRoads {a b : Berth} {f g : Road → Road} (h : p.Cascade q) : p.Cascade (q.mapRoads sd a f b g) :=
  h.setRoads
theorem Plant.Cascade.setArrivals {l : List Arrival} (h : p.Cascade q) : p.Cascade (q.setArrivals sd l) := h.tables
theorem Plant.Cascade.askScan (h : p.Cascade q) : p.Cascade (q.askScan sd) := h.tables
theorem Plant.Cascade.askRound (h : p.Cascade q) : p.Cascade (q.askRound sd) := h.tables

theorem updBy_map_unsent (n now : Nat) (l : List Link) :
    (updBy Link.number n (fun l => { l with lastSent := now }) l).map Link.unsent = l.map Link.unsent := by
  simp only [updBy, List.map_map]
  exact List.map_congr_left fun x _ => by
    simp only [Function.comp_apply]; split <;> rfl

theorem Plant.Cascade.send {n : Nat} {f : LinkFrame} (h : p.Cascade q) : p.Cascade (q.send n f) :=
  { h with links := (updBy_map_unsent n q.now q.links).trans h.links, active := h.active }

theorem Plant.Cascade.sendUp {n : Nat} {f : LinkFrame} (h : p.Cascade q) : p.Cascade (q.sendUp n f) := .ite h.send h

/-- A request taken from the queue adds none. -/
theorem Plant.Cascade.filterQueue {f : Request → Bool} (h : p.Cascade q) :
    p.Cascade { q with queue := q.queue.filter f } :=
  { h with queue := List.filter_sublist.trans h.queue, active := h.active }

/-! ## The fault recorder's store (R157) -/

theorem Plant.Cascade.handFault {k : FaultKind} {e : FaultElement} {c : Option RouteContext} {d : Option CheckData}
    (h : p.Cascade q) : p.Cascade (q.handFault sd k e c d) := by
  unfold Plant.handFault
  apply_rules [Plant.Cascade.report, Plant.Cascade.ite, Plant.Cascade.mapSession, Plant.Cascade.mapYard]

theorem Plant.Cascade.handFaultOnce {k : FaultKind} {e : FaultElement} {c : Option RouteContext} (h : p.Cascade q) :
    p.Cascade (q.handFaultOnce sd k e c) := .ite h h.handFault

/-! ## The run-out list (R140, R146, R149) -/

theorem Plant.Cascade.setRunOutState {t : Nat} {st : RunOutState} (h : p.Cascade q) : p.Cascade (q.setRunOutState sd t st) := by
  unfold Plant.setRunOutState
  split
  · exact h
  · exact .ite h (.report (.ite h.mapRunOut.mapSession h.mapRunOut))

theorem Plant.Cascade.placeEntry {t : Nat} (h : p.Cascade q) : p.Cascade (Plant.placeEntry env q sd t) := by
  unfold Plant.placeEntry
  dsimp only
  split
  · exact h
  · exact h.setRunOutState

theorem Plant.Cascade.placeAll (h : p.Cascade q) : p.Cascade (Plant.placeAll env q sd) :=
  .foldl (fun _ _ h => .ite h.placeEntry h) _ h

theorem Plant.Cascade.handReadiness {t : Nat} {r : Readiness} (h : p.Cascade q) : p.Cascade (q.handReadiness sd t r) := by
  unfold Plant.handReadiness
  dsimp only
  split
  · exact .askRound (.ite h.mapRunOut.setRunOutState h.mapRunOut)
  · exact h.mapRunOut.askRound

theorem Plant.Cascade.workReadiness {all : Bool} (h : p.Cascade q) : p.Cascade (q.workReadiness sd all) :=
  .foldl (fun _ _ h => .ite h.handReadiness h) _ h

theorem Plant.Cascade.noteDeparting {t : Nat} (h : p.Cascade q) : p.Cascade (q.noteDeparting sd t) := by
  unfold Plant.noteDeparting
  split
  · exact .ite h h.setRunOutState
  · exact h

theorem Plant.Cascade.noteGone {t : Nat} (h : p.Cascade q) : p.Cascade (q.noteGone sd t) := by
  unfold Plant.noteGone
  split
  · exact .ite h h.setRunOutState
  · exact h

theorem Plant.Cascade.noteStabled {t : Nat} (h : p.Cascade q) : p.Cascade (Plant.noteStabled env q sd t) := by
  unfold Plant.noteStabled
  split
  · exact .ite h.placeEntry h
  · exact h

theorem Plant.Cascade.departureFate {t r : Nat} {f : Fate} (h : p.Cascade q) :
    p.Cascade (Plant.departureFate env q sd t r f) := by
  unfold Plant.departureFate
  split
  · exact h
  · refine .ite h ?_
    dsimp only
    split
    · exact h
    · exact h.mapRunOut
    · exact .ite h.mapRunOut h.mapRunOut.setRunOutState
    · exact .ite h.mapRunOut.placeEntry h.mapRunOut

/-! ## The stabling record (R112 to R121) -/

theorem Plant.Cascade.passBerthChange (h : p.Cascade q) : p.Cascade (q.passBerthChange sd) := h.workReadiness.askRound

theorem Plant.Cascade.clearReservedRoad {b : Berth} (h : p.Cascade q) : p.Cascade (q.clearReservedRoad sd b) := by
  unfold Plant.clearReservedRoad
  split
  · exact .ite h.mapYard.askRound h
  · exact h

theorem Plant.Cascade.unverify {b : Berth} {c : VerificationCause} (h : p.Cascade q) : p.Cascade (q.unverify sd b c) := by
  unfold Plant.unverify
  split
  · exact .ite h.mapRoad.clearReservedRoad.passBerthChange.report h
  · exact h

theorem Plant.Cascade.unverifyAll {bs : List Berth} {c : VerificationCause} (h : p.Cascade q) :
    p.Cascade (q.unverifyAll sd bs c) := .foldl (fun _ _ h => h.unverify) _ h

theorem Plant.Cascade.lockedArrival {sl : Slot} {b : Berth} (h : p.Cascade q) : p.Cascade (q.lockedArrival sl b) := by
  unfold Plant.lockedArrival
  dsimp only
  split
  · exact h.setArrivals.mapRoad.passBerthChange.report
  · exact h.unverify

theorem Plant.Cascade.lockedShuntIn {sl : Slot} {a b : Berth} (h : p.Cascade q) : p.Cascade (q.lockedShuntIn sl a b) := by
  unfold Plant.lockedShuntIn
  dsimp only
  split
  · exact .ite h.mapRoads.passBerthChange.report.report h.unverifyAll
  · exact h.unverifyAll

theorem Plant.Cascade.routeLocked {sl : Slot} (h : p.Cascade q) : p.Cascade (Plant.routeLocked env q sl) := by
  unfold Plant.routeLocked
  split
  · exact h
  · split
    · exact h.lockedArrival
    · exact h.lockedArrival
    · exact h.lockedShuntIn
    · exact h

theorem Plant.Cascade.routeOpened {sl : Slot} (h : p.Cascade q) : p.Cascade (Plant.routeOpened env q sl) := by
  unfold Plant.routeOpened
  dsimp only
  split
  · exact h
  · split
    · exact .ite h.mapRoad.passBerthChange.noteDeparting.report h.unverify
    · exact h.unverify
  · exact h

theorem Plant.Cascade.expect {t : Nat} {b : Berth} (h : p.Cascade q) : p.Cascade (q.expect sd t b) := by
  unfold Plant.expect
  dsimp only
  split
  · exact .mapYard (.ite h.mapYard.report h)
  · exact h.mapYard

theorem Plant.Cascade.firstSectionCleared {sl : Slot} (h : p.Cascade q) :
    p.Cascade (Plant.firstSectionCleared env q sl) := by
  unfold Plant.firstSectionCleared
  dsimp only
  split
  · exact h
  · split
    · exact h
    · split
      · refine .ite ?_ h.unverify
        split
        · exact h.mapRoads.passBerthChange.noteStabled.report.report
        · exact h.mapRoad.expect.passBerthChange.noteGone.report
      · exact h.unverify
    · exact h

theorem Plant.Cascade.freedNormally {sl : Slot} (h : p.Cascade q) : p.Cascade (Plant.freedNormally env q sl) := by
  unfold Plant.freedNormally
  dsimp only
  split
  · exact h
  · exact .ite h.mapRoad.mapSession.passBerthChange.report h.unverify
  · exact h

theorem Plant.Cascade.freedBeforeEntry {sl : Slot} (h : p.Cascade q) : p.Cascade (Plant.freedBeforeEntry env q sl) := by
  unfold Plant.freedBeforeEntry
  dsimp only
  split
  · split
    · split
      · exact h.mapRoad.setArrivals.passBerthChange.report
      · exact h
    · refine .ite ?_ (.ite h.mapRoad.passBerthChange.noteStabled.report h)
      split
      · split
        · exact h.mapRoads.passBerthChange.report.report
        · exact h
      · exact h
    · exact h
  · exact h

theorem Plant.Cascade.freedAfterEntry {sl : Slot} (h : p.Cascade q) : p.Cascade (Plant.freedAfterEntry env q sl) := by
  unfold Plant.freedAfterEntry
  split
  · exact h.unverifyAll
  · exact h

theorem Plant.Cascade.queueArrival {t : Nat} (h : p.Cascade q) : p.Cascade (Plant.queueArrival env q sd t) :=
  .ite h.setArrivals.passBerthChange h.setArrivals.passBerthChange.report

theorem Plant.Cascade.removeFound {t : Nat} {b : Berth} (h : p.Cascade q) : p.Cascade (q.removeFound sd t b) :=
  h.mapRoad.passBerthChange.unverify

theorem Plant.Cascade.removeBerthed {t : Nat} (h : p.Cascade q) : p.Cascade (q.removeBerthed sd t) := by
  unfold Plant.removeBerthed
  split
  · exact h.removeFound
  · exact h

theorem Plant.Cascade.inboundTram {t : Nat} (h : p.Cascade q) : p.Cascade (Plant.inboundTram env q sd t) := by
  unfold Plant.inboundTram
  refine .ite h.report (.ite h.report (.ite h.report ?_))
  split
  · exact h.mapYard.queueArrival.report
  · split
    · exact h.handFault.removeFound.queueArrival.report
    · exact h.queueArrival.report

theorem Plant.Cascade.inboundRead {r : GateRead} (h : p.Cascade q) : p.Cascade (Plant.inboundRead env q sd r) := by
  cases r
  · exact h.inboundTram
  · exact h.report

theorem Plant.Cascade.outboundRead {r : GateRead} (h : p.Cascade q) : p.Cascade (q.outboundRead sd r) := by
  unfold Plant.outboundRead
  dsimp only
  split
  · exact h.report
  · exact h.handFault.removeBerthed.report
  · exact h.mapYard.report
  · exact .ite h.mapYard.report h.mapYard.handFault.unverify.removeBerthed.report

theorem Plant.Cascade.takeRead {g : Nat} {r : GateRead} (h : p.Cascade q) : p.Cascade (Plant.takeRead env q sd g r) :=
  .ite h.mapYard.inboundRead h.mapYard.outboundRead

end

end Sys2Proof.Machine
end

section
/-! SUPPORT. What no cascade changes, for the rules of route locking and of the point drive. -/

namespace Sys2Proof.Machine

open Sys2Proof

section
variable {env : Env} {p q q' : Plant} {sd : Side}

/-! ## Route locking (chapters 4 and 5) -/

theorem Plant.Cascade.clearReservation {t : Nat} (h : p.Cascade q) : p.Cascade (q.clearReservation sd t) := h.mapYard

theorem Plant.Cascade.handFate {o : Option Origin} {r : Nat} {t : Option Nat} {f : Fate} (h : p.Cascade q) :
    p.Cascade (Plant.handFate env q sd o r t f) := by
  unfold Plant.handFate
  refine .ite (.askRound ?_) h
  split
  · exact h
  · exact .ite (.ite h h.clearReservation) h.departureFate

theorem Plant.Cascade.writeRealAspect {n : Nat} {a : Aspect} (h : p.Cascade q) :
    p.Cascade (Plant.writeRealAspect env q n a) := by
  unfold Plant.writeRealAspect
  dsimp only
  split
  · exact h
  · split
    · exact h.mapSignal.sendUp
    · exact h.mapSignal

theorem Plant.Cascade.writeCopyAspect {n : Nat} {a : Aspect} (h : p.Cascade q) : p.Cascade (q.writeCopyAspect n a) := by
  unfold Plant.writeCopyAspect
  dsimp only
  split
  · exact h
  · exact .ite h.mapSignal.mapSession h.mapSignal.mapSession.report

theorem Plant.Cascade.writeAspect {n : Nat} {a : Aspect} (h : p.Cascade q) : p.Cascade (Plant.writeAspect env q sd n a) := by
  cases sd
  · exact h.writeRealAspect
  · exact h.writeCopyAspect

theorem Plant.Cascade.stopSignal {n : Nat} (h : p.Cascade q) : p.Cascade (Plant.stopSignal env q sd n) := .ite h.writeAspect h

theorem Plant.Cascade.stopEntrySignal {sl : Slot} (h : p.Cascade q) : p.Cascade (Plant.stopEntrySignal env q sl) := by
  unfold Plant.stopEntrySignal
  split
  · exact h.stopSignal
  · exact h

theorem Plant.Cascade.routeState {sl : Slot} {a : SlotState} {c : RouteCause} {f : FailedCondition} {b : Bool}
    (h : p.Cascade q) : p.Cascade (q.routeState sl a c f b) := h.report

theorem Plant.Cascade.clearSlot {n : Nat} (h : p.Cascade q) : p.Cascade (q.clearSlot n) := h.mapSlot
theorem Plant.Cascade.discardRun {n : Nat} (h : p.Cascade q) : p.Cascade (q.discardRun n) := h.mapSession
theorem Plant.Cascade.tellFreed (h : p.Cascade q) : p.Cascade q.tellFreed := h.askScan.askRound

theorem Plant.Cascade.endEvent {sl : Slot} {c : RouteCause} (h : p.Cascade q) : p.Cascade (Plant.endEvent env q sl c) :=
  .ite h.freedNormally (.ite h.freedAfterEntry h.freedBeforeEntry)

theorem Plant.Cascade.freeSlot {n : Nat} {c : RouteCause} (h : p.Cascade q) : p.Cascade (Plant.freeSlot env q n c) := by
  unfold Plant.freeSlot
  dsimp only
  split
  · exact h
  · exact h.stopEntrySignal.mapYard.endEvent.handFate.routeState.discardRun.clearSlot.tellFreed

theorem Plant.Cascade.abandon {n : Nat} {c : AbandonCause} (h : p.Cascade q) : p.Cascade (Plant.abandon env q n c) := by
  unfold Plant.abandon
  dsimp only
  split
  · exact h
  · exact h.mapYard.discardRun.clearSlot.freedBeforeEntry.handFate.report.tellFreed

theorem Plant.Cascade.startRun {sl : Slot} {r : RouteRecord} (h : p.Cascade q) : p.Cascade (q.startRun sl r) := h.mapSession

theorem Plant.Cascade.tryOpen {n : Nat} (h : p.Cascade q) : p.Cascade (Plant.tryOpen env q n) := by
  unfold Plant.tryOpen
  dsimp only
  split
  · exact h
  · split
    · exact .routeState (.ite (.mapSlot (.writeAspect (.ite h h.startRun)))
        (.routeOpened (.mapSlot (.writeAspect (.ite h h.startRun)))))
    · exact h

theorem Plant.Cascade.revert {n : Nat} {c : RouteCause} {f : FailedCondition} (h : p.Cascade q) :
    p.Cascade (Plant.revert env q n c f) := by
  unfold Plant.revert
  dsimp only
  split
  · exact h
  · exact .ite h.stopEntrySignal.mapSlot.routeState h

theorem Plant.Cascade.enterLocked {n : Nat} {c : RouteCause} (h : p.Cascade q) : p.Cascade (Plant.enterLocked env q n c) := by
  unfold Plant.enterLocked
  dsimp only
  split
  · exact h
  · exact h.mapSlot.routeLocked.routeState.tryOpen

theorem Plant.Cascade.passedAtStop {sl : Slot} (h : p.Cascade q) : p.Cascade (Plant.passedAtStop env q sl) := by
  unfold Plant.passedAtStop
  split
  · exact h.handFault
  · exact h

theorem Plant.Cascade.markSection {n j : Nat} (h : p.Cascade q) : p.Cascade (Plant.markSection env q n j) := by
  unfold Plant.markSection
  dsimp only
  split
  · exact h
  · exact .ite (.ite h.mapSlot.handFault.mapSlot.routeState h.mapSlot.handFault) h.mapSlot

theorem Plant.Cascade.markOccupied {n : Nat} {l : List Nat} (h : p.Cascade q) : p.Cascade (Plant.markOccupied env q n l) :=
  .foldl (fun _ _ h => .ite h.markSection h) _ h

theorem Plant.Cascade.enter {n : Nat} {c : RouteCause} (h : p.Cascade q) : p.Cascade (Plant.enter env q n c) := by
  unfold Plant.enter
  dsimp only
  split
  · exact h
  · exact h.stopEntrySignal.mapSlot.markOccupied.routeState

theorem Plant.Cascade.releaseSection {sl : Slot} {r : RouteRecord} {t : Nat} (h : p.Cascade q) :
    p.Cascade (Plant.releaseSection env q sl r t) := by
  unfold Plant.releaseSection
  exact .report (.ite h.mapYard.mapSlot.firstSectionCleared h.mapYard.mapSlot)

theorem Plant.Cascade.releaseRun {n k : Nat} (h : p.Cascade q) : p.Cascade (Plant.releaseRun env n k q) := by
  induction k generalizing q with
  | zero => exact h
  | succ k ih =>
    unfold Plant.releaseRun
    split
    · exact h
    · split
      · exact h
      · split
        · exact h
        · exact .ite (.ite h.releaseSection.freeSlot (ih h.releaseSection)) h

theorem Plant.Cascade.slotSection {sl : Slot} {r : RouteRecord} {j : Nat} {st : TrackState} (h : p.Cascade q) :
    p.Cascade (Plant.slotSection env q sl r j st) := by
  unfold Plant.slotSection
  dsimp only
  split
  case h_1 => exact h
  case h_2 => exact .ite (.ite h.passedAtStop h.passedAtStop.abandon) h
  case h_3 => exact .ite (.ite h.passedAtStop h.passedAtStop.enter) h.tryOpen
  case h_4 => exact .ite h.enter (.ite h h.revert)
  case h_5 => exact .ite (.ite h.passedAtStop h.passedAtStop.enter) h
  case h_6 => exact .ite h.markSection (.ite h.releaseRun h)
  case h_7 => exact .ite h.markSection h
  case h_8 => exact .ite (.markSection (.ite h.passedAtStop h)) (.ite h.releaseRun h)

theorem Plant.Cascade.lockingSection {t : Nat} (h : p.Cascade q) : p.Cascade (Plant.lockingSection env q sd t) := by
  unfold Plant.lockingSection
  refine .ite ?_ h
  split
  · exact h
  · split
    · exact h
    · exact .ite h.slotSection h

theorem Plant.Cascade.slotPoint {a b : Nat} (h : p.Cascade q) : p.Cascade (Plant.slotPoint env q a b) := by
  unfold Plant.slotPoint
  split
  · exact h
  · exact .ite h.revert h.tryOpen

theorem Plant.Cascade.pointChanged {n : Nat} (h : p.Cascade q) : p.Cascade (Plant.pointChanged env q sd n) := by
  unfold Plant.pointChanged
  have hslots := Plant.Cascade.foldl (f := fun q k => Plant.slotPoint env q n k) (fun _ _ h => h.slotPoint)
    (Plant.slotsOfPoint env q n) h
  exact .ite (.askScan (.ite hslots h)) (.ite hslots h)

theorem Plant.Cascade.lampChanged {n : Nat} (h : p.Cascade q) : p.Cascade (Plant.lampChanged env q sd n) := by
  unfold Plant.lampChanged
  refine .ite ?_ h
  split
  · exact h
  · exact .ite (.ite h h.revert) h.tryOpen

/-! ## Point drives (chapter 2) -/

theorem Plant.Cascade.sendDrive {n : Nat} {pos : Position} {b : Bool} (h : p.Cascade q) :
    p.Cascade (Plant.sendDrive env q sd n pos b) := by
  unfold Plant.sendDrive
  split
  · split
    · exact h.sendUp
    · exact h
  · exact h.mapPoint.mapSession

theorem Plant.Cascade.sendStop {n : Nat} (h : p.Cascade q) : p.Cascade (Plant.sendStop env q sd n) := by
  unfold Plant.sendStop
  split
  · split
    · exact h.sendUp
    · exact h
  · exact h.mapSession

theorem Plant.Cascade.stopDrive {x : Point} (h : p.Cascade q) : p.Cascade (Plant.stopDrive env q sd x) := .ite h.sendStop h

theorem Plant.Cascade.beginThrow {n : Nat} {pos : Position} {o : ThrowOrigin} (h : p.Cascade q) :
    p.Cascade (Plant.beginThrow env q sd n pos o) := h.mapPoint.sendDrive.report

theorem Plant.Cascade.lockPoint {sl : Slot} {r : RouteRecord} {n : Nat} {pos : Position} (h : p.Cascade q) :
    p.Cascade (q.lockPoint sl r n pos) := h.mapPoint

theorem Plant.Cascade.slotThrowEnd {n k : Nat} {c : ThrowCause} (h : p.Cascade q) :
    p.Cascade (Plant.slotThrowEnd env q n k c) := by
  unfold Plant.slotThrowEnd
  split
  · exact h
  · refine .ite ?_ h
    split
    · exact h.mapPoint
    · split
      · exact h
      · exact .ite h.lockPoint.mapSlot.enterLocked h.lockPoint.mapSlot
    · exact h.abandon

theorem Plant.Cascade.throwEnd {n : Nat} {c : ThrowCause} {st : PointState} {k : Option FaultKind} (h : p.Cascade q) :
    p.Cascade (Plant.throwEnd env q sd n c st k) := by
  unfold Plant.throwEnd
  split
  · exact h
  · split
    · exact h
    · refine .askScan (.pointChanged (.report ?_))
      cases k <;> split
      · exact .ite h.mapPoint.slotThrowEnd h.mapPoint
      · exact h.mapPoint
      · exact .ite h.mapPoint.handFault.slotThrowEnd h.mapPoint.handFault
      · exact h.mapPoint.handFault

theorem Plant.Cascade.interrupt {x : Point} (h : p.Cascade q) : p.Cascade (Plant.interrupt env q sd x) := h.stopDrive.throwEnd
theorem Plant.Cascade.freezeThrow {x : Point} (h : p.Cascade q) : p.Cascade (Plant.freezeThrow env q sd x) :=
  h.stopDrive.throwEnd

theorem Plant.Cascade.notStarted {x : Point} (h : p.Cascade q) : p.Cascade (Plant.notStarted env q sd x) :=
  .ite h.throwEnd (.ite h.freezeThrow h.interrupt)

theorem Plant.Cascade.driveOn {x : Point} {th : Throw} {pos : Position} {b : Bool} (h : p.Cascade q) :
    p.Cascade (Plant.driveOn env q sd x th pos b) := .ite h.mapPoint.sendDrive h.notStarted

theorem Plant.Cascade.currentSample {n v : Nat} (h : p.Cascade q) : p.Cascade (Plant.currentSample env q sd n v) := by
  unfold Plant.currentSample
  dsimp only
  split
  · exact h
  · split
    · exact h
    · exact .ite (.ite (.ite h.mapPoint.driveOn h.mapPoint.sendStop.throwEnd)
        (.ite h.mapPoint.sendStop.throwEnd h.mapPoint)) h

theorem Plant.Cascade.detectThrowing {x : Point} {th : Throw} {det : Option Position} (h : p.Cascade q) :
    p.Cascade (Plant.detectThrowing env q sd x th det) := by
  unfold Plant.detectThrowing
  dsimp only
  split
  · exact .ite h.throwEnd h
  · exact .ite (.ite h.mapPoint.mapPoint h.mapPoint.throwEnd) h
  · split
    · exact h.throwEnd
    · exact .ite h.throwEnd h
  · exact h

theorem Plant.Cascade.driveLimit {x : Point} (h : p.Cascade q) : p.Cascade (Plant.driveLimit env q sd x) := h.sendStop.throwEnd
theorem Plant.Cascade.retry {x : Point} {th : Throw} (h : p.Cascade q) : p.Cascade (Plant.retry env q sd x th) := h.driveOn

/-! ## Requests leaving the queue, and what a freeze does in every table (R101 to R106, R161) -/

theorem Plant.Cascade.dropRequest {r : Request} {d : DropReason} {f : Fate} (h : p.Cascade q) :
    p.Cascade (Plant.dropRequest env q r d f) :=
  .askScan (.handFate (.report h.filterQueue))

theorem Plant.Cascade.dropWhere {t : Request → Bool} {d : DropReason} {f : Fate} (h : p.Cascade q) :
    p.Cascade (Plant.dropWhere env q t d f) := .foldl (fun _ _ h => h.dropRequest) _ h

theorem Plant.Cascade.sendAllUp {f : LinkFrame} (h : p.Cascade q) : p.Cascade (q.sendAllUp f) :=
  .foldl (fun _ _ h => h.send) _ h

theorem Plant.Cascade.stopAll (h : p.Cascade q) : p.Cascade (Plant.stopAll env q) := .foldl (fun _ _ h => h.writeAspect) _ h
theorem Plant.Cascade.freezeThrows (h : p.Cascade q) : p.Cascade (Plant.freezeThrows env q) :=
  .foldl (fun _ _ h => h.freezeThrow) _ h
theorem Plant.Cascade.freezeSlots (h : p.Cascade q) : p.Cascade (Plant.freezeSlots env q) := .foldl (fun _ _ h => h.revert) _ h

end

end Sys2Proof.Machine
end

section
/-! SUPPORT. What the freeze, the end of a session, the arbiter, the sequencer and the element table keep: rules that may end a
quiet plant only by queuing a request. -/

namespace Sys2Proof.Machine

open Sys2Proof

/-- What a rule keeps that queues no request: what every rule keeps, and a quiet plant. -/
structure Plant.Calm (p q : Plant) : Prop extends p.Keeps q where
  quiet : ∀ env, p.quiet env → q.quiet env

theorem Plant.Cascade.calm {p q : Plant} (h : p.Cascade q) : p.Calm q := ⟨h.toKeeps, fun _ => h.quiet⟩

theorem Plant.Calm.refl (p : Plant) : p.Calm p := ⟨.refl p, fun _ => id⟩

theorem Plant.Calm.trans {p q r : Plant} (h : p.Calm q) (h' : q.Calm r) : p.Calm r :=
  ⟨h.toKeeps.trans h'.toKeeps, fun env => h'.quiet env ∘ h.quiet env⟩

/-- A cascade after a rule keeps what the rule keeps. -/
theorem Plant.Calm.cascade {p q r : Plant} (h : p.Calm q) (h' : q.Cascade r) : p.Calm r := h.trans h'.calm

theorem Plant.Keeps.cascade {p q r : Plant} (h : p.Keeps q) (h' : q.Cascade r) : p.Keeps r := h.trans h'.toKeeps

theorem Plant.Calm.ite {c : Prop} [Decidable c] {p q q' : Plant} (h : p.Calm q) (h' : p.Calm q') :
    p.Calm (if c then q else q') := by split <;> assumption

theorem Plant.Keeps.ite {c : Prop} [Decidable c] {p q q' : Plant} (h : p.Keeps q) (h' : p.Keeps q') :
    p.Keeps (if c then q else q') := by split <;> assumption

section
variable {env : Env} {p q : Plant} {sd : Side}

/-! ## The end of a session (R176) -/

theorem Plant.endSlots_cascade (env : Env) (p : Plant) : p.Cascade (Plant.endSlots env p) :=
  .dropWhere ((Plant.Cascade.refl p).tables (q' := { p with slots := freeSlots }) rfl rfl rfl rfl rfl rfl rfl rfl rfl rfl rfl)

/-- A session that ends leaves the queue, the mode, the freeze, the hold and the silence. -/
theorem Plant.discardSession_calm (p : Plant) : p.Calm { p with session := none } :=
  ⟨⟨rfl, rfl, rfl, rfl, id⟩, fun _ h => h⟩

/-- A control mode of MANUAL leaves a quiet plant quiet. -/
theorem Plant.setManual_calm (p : Plant) (c : ModeCause) : p.Calm (p.setMode .manual c) :=
  .cascade (q := { p with mode := .manual }) ⟨⟨rfl, rfl, rfl, rfl, id⟩, fun _ h => ⟨h.1, rfl⟩⟩ (Plant.Cascade.refl _).report

theorem Plant.endSession_calm (env : Env) (p : Plant) : p.Calm (Plant.endSession env p) :=
  ((((Plant.endSlots_cascade env p).calm.trans (Plant.discardSession_calm _)).cascade (Plant.Cascade.refl _).sendAllUp).trans
    (Plant.setManual_calm _ _)).cascade (Plant.Cascade.refl _).setArrivals.workReadiness

theorem Plant.endSessionByFault_calm (env : Env) (p : Plant) : p.Calm (Plant.endSessionByFault env p) := by
  unfold Plant.endSessionByFault
  split
  · exact (Plant.endSession_calm env p).cascade (Plant.Cascade.refl _).report
  · exact .refl p

/-! ## The yard freeze (R161) -/

/-- The tables of a yard that freezes: everything but the timers that are held. -/
def Plant.frozenTables (env : Env) (p : Plant) (c : Cause) : Plant :=
  Plant.freezeSlots env (Plant.freezeThrows env (Plant.stopAll env { p with freeze := some ⟨c, [], false⟩ }))

theorem Plant.frozenTables_cascade (env : Env) (p : Plant) (c : Cause) :
    Plant.Cascade { p with freeze := some ⟨c, [], false⟩ } (Plant.frozenTables env p c) :=
  (Plant.Cascade.refl _).stopAll.freezeThrows.freezeSlots

theorem Plant.freezeYard_eq (env : Env) (p : Plant) (c : Cause) :
    Plant.freezeYard env p c = (Plant.frozenTables env p c).holdTimers := rfl

/-- A yard that freezes has the cause as its freeze record. -/
@[simp] theorem Plant.freezeYard_freeze (env : Env) (p : Plant) (c : Cause) :
    (Plant.freezeYard env p c).freeze = some ⟨c, [], false⟩ := (Plant.frozenTables_cascade env p c).freeze

/-- The sequencer does not work automatically in a frozen yard. -/
theorem Plant.automatic_of_frozen {env : Env} {p : Plant} (h : p.freeze.isSome = true) : Plant.automatic env p = false := by
  simp [Plant.automatic, Plant.frozen, h]

theorem Plant.freezeYard_calm (env : Env) (p : Plant) (c : Cause) : p.Calm (Plant.freezeYard env p c) := by
  have h := Plant.frozenTables_cascade env p c
  exact
    { now := h.now, permit := h.permit, silence := h.silence, links := h.links, bounded := h.bounded
      quiet := fun e he => by
        have hq : (Plant.frozenTables env p c).queue = [] := List.sublist_nil.mp (he.1 ▸ h.queue)
        exact ⟨congrArg (List.map _) hq, Plant.automatic_of_frozen (congrArg Option.isSome h.freeze)⟩ }

/-- A further cause leaves a frozen yard frozen. -/
theorem Plant.setFreeze_calm (p : Plant) (f : FreezeRecord) : p.Calm { p with freeze := some f } :=
  ⟨⟨rfl, rfl, rfl, rfl, id⟩, fun _ h => ⟨h.1, Plant.automatic_of_frozen rfl⟩⟩

theorem Plant.yardFault_calm (env : Env) (p : Plant) (sd : Side) (k : FaultKind) (e : Option FaultElement)
    (x : Option RouteContext) (d : Option CheckData) : p.Calm (Plant.yardFault env p sd k e x d) := by
  unfold Plant.yardFault
  dsimp only
  have hq : p.Cascade (p.mapYard sd fun y => { y with faults := y.faults.numbered }) := (Plant.Cascade.refl p).mapYard
  have hc := hq.calm.cascade (Plant.Cascade.ite (c := sd = .copy)
    ((Plant.Cascade.refl _).mapSession (f := fun s => { s with faults := s.faults + 1 })) (.refl _))
  split
  · exact (hc.trans (Plant.setFreeze_calm _ _)).cascade (Plant.Cascade.refl _).report
  · exact (((hc.trans (.ite (Plant.endSessionByFault_calm env _) (.refl _))).trans (Plant.freezeYard_calm env _ _)).cascade
      (Plant.Cascade.refl _).report)

/-! ## The arbiter (chapter 6) -/

theorem Plant.enqueue_keeps (env : Env) (p : Plant) (r : Nat) (o : Origin) (t : Option Nat) :
    p.Keeps (Plant.enqueue env p r o t) :=
  .report (q := { p with queue := p.queue ++ [Plant.newRequest env p r o t] }) ⟨rfl, rfl, rfl, rfl, id⟩

theorem Plant.Cascade.takePoint {r : RouteRecord} {n : Nat} {acc : Plant × List (Nat × Position) × List Nat} {x : Nat × Position}
    (h : p.Cascade acc.1) : p.Cascade (Plant.takePoint env r n acc x).1 := by
  unfold Plant.takePoint
  dsimp only
  split
  · exact h
  · split
    · exact h.mapPoint
    · split
      · exact h.mapPoint
      · split
        · exact h.mapPoint.beginThrow
        · exact h.mapPoint

theorem Plant.Cascade.takePoints {r : RouteRecord} {n : Nat} (l : List (Nat × Position))
    {acc : Plant × List (Nat × Position) × List Nat} (h : p.Cascade acc.1) :
    p.Cascade (l.foldl (Plant.takePoint env r n) acc).1 := by
  induction l generalizing acc with
  | nil => exact h
  | cons x l ih => exact ih h.takePoint

theorem Plant.Cascade.reserve {n : Nat} {r : RouteRecord} (h : p.Cascade q) : p.Cascade (q.reserve n r) := h.mapYard

theorem Plant.Cascade.enterSetting {n : Nat} {l : List (Nat × Position)} (h : p.Cascade q) : p.Cascade (q.enterSetting n l) := by
  unfold Plant.enterSetting
  dsimp only
  split
  · exact h.mapSlot
  · exact h.mapSlot.report

theorem Plant.Cascade.take {r : RouteRecord} {o : Origin} {t : Nat} (h : p.Cascade q) : p.Cascade (Plant.take env q r o t) := by
  unfold Plant.take
  split
  · exact h
  · next sl _ =>
    have hpts : p.Cascade (r.required.foldl (Plant.takePoint env r sl.number)
        ((q.mapSlot sl.number fun _ => Plant.takenSlot env q sl.number r o t).reserve sl.number r, [], [])).1 :=
      .takePoints _ (acc := ((q.mapSlot sl.number _).reserve sl.number r, [], [])) h.mapSlot.reserve
    exact .ite hpts.enterLocked (.foldl (fun _ _ h => h.slotThrowEnd) _ hpts.enterSetting)

theorem Plant.Keeps.mapRequest {n : Nat} {f : Request → Request} (h : p.Keeps q) : p.Keeps (q.mapRequest n f) :=
  h.tables rfl rfl rfl rfl rfl rfl

theorem Plant.Keeps.promote {n : Nat} (h : p.Keeps q) : p.Keeps (Plant.promote env q n) := by
  unfold Plant.promote
  split
  · exact h
  · exact .ite h.mapRequest.report h

theorem Plant.Keeps.bypass {n : Nat} (h : p.Keeps q) : p.Keeps (Plant.bypass env q n) := h.mapRequest.promote

theorem Plant.Keeps.offer {n : Nat} (h : p.Keeps q) : p.Keeps (Plant.offer env q n) := by
  unfold Plant.offer
  split
  · refine .ite h ?_
    split
    · exact h
    · exact h.cascade (Plant.Cascade.refl _).dropRequest
    · exact .foldl (fun _ _ h => h.bypass) _ (h.cascade (Plant.Cascade.refl _).filterQueue.take.handFate)
  · exact h

theorem Plant.Keeps.scan (h : p.Keeps q) : p.Keeps (Plant.scan env q) :=
  .foldl (fun _ _ h => h.offer) _ (.foldl (fun _ _ h => h.promote) _ h)

/-! ## The sequencer (R150 to R153) -/

theorem Plant.Keeps.requestArrival {r : RouteRecord} {t : Nat} {b : Berth} {score : Option Nat} {mark : Option OrderMark}
    (h : p.Keeps q) : p.Keeps (Plant.requestArrival env q r t b score mark) := by
  unfold Plant.requestArrival
  dsimp only
  split
  · exact (h.trans (Plant.enqueue_keeps ..)).scan.report
  · exact h.cascade (Plant.Cascade.refl _).clearReservation.report.report

theorem Plant.Keeps.noteNoBerth {t : Nat} (h : p.Keeps q) : p.Keeps (q.noteNoBerth t) :=
  .ite h (.report (q := { q with noBerthTram := some t }) (h.tables rfl rfl rfl rfl rfl rfl))

theorem Plant.Keeps.arrivalStep (h : p.Keeps q) : p.Keeps (Plant.arrivalStep env q) := by
  unfold Plant.arrivalStep
  split
  · exact h
  · refine .ite h ?_
    split
    · split
      · exact ((h.tables (q' := { q with noBerthTram := none }) rfl rfl rfl rfl rfl rfl).cascade
          (Plant.Cascade.refl _).mapYard).requestArrival
      · exact h
    · split
      · exact h.requestArrival
      · exact h.noteNoBerth

theorem Plant.Keeps.departure {t : Nat} (h : p.Keeps q) : p.Keeps (Plant.departure env q t) := by
  unfold Plant.departure
  dsimp only
  split
  · exact h
  · refine .ite ?_ h
    split
    · exact h
    · split
      · exact h.report
      · exact ((h.trans (Plant.enqueue_keeps ..)).cascade (Plant.Cascade.refl _).mapRunOut.setRunOutState).scan

theorem Plant.Keeps.round (h : p.Keeps q) : p.Keeps (Plant.round env q) :=
  .ite (.ite (.foldl (fun _ _ h => h.departure) _ h.arrivalStep) h.arrivalStep) h

theorem Plant.Keeps.settle {k : Nat} (h : p.Keeps q) : p.Keeps (Plant.settle env k q) := by
  induction k generalizing q with
  | zero => exact h
  | succ k ih =>
    unfold Plant.settle
    have hscan : p.Keeps { q with wantScan := false } := h.tables rfl rfl rfl rfl rfl rfl
    have hround : p.Keeps { q with wantRound := false } := h.tables rfl rfl rfl rfl rfl rfl
    exact .ite (ih hscan.scan) (.ite (ih hround.round) h)

theorem Plant.Keeps.settled (h : p.Keeps q) : p.Keeps (Plant.settled env q) := h.settle

/-! ## The element table (chapters 2 and 3) -/

theorem Plant.Cascade.setPointState {n : Nat} {st : PointState} (h : p.Cascade q) : p.Cascade (q.setPointState sd n st) := h.mapPoint

theorem Plant.Cascade.loseDetection {x : Point} (h : p.Cascade q) : p.Cascade (Plant.loseDetection env q sd x) :=
  .ite h h.mapPoint.handFault.pointChanged

theorem Plant.Cascade.takeDetection {x : Point} {pos : Position} (h : p.Cascade q) :
    p.Cascade (Plant.takeDetection env q sd x pos) :=
  .ite h (.pointChanged (.ite h.mapPoint.report (.ite h.mapPoint.report h.mapPoint)))

theorem Plant.trailed_calm (env : Env) (p : Plant) (sd : Side) (x : Point) (held pos : Position) :
    p.Calm (Plant.trailed env p sd x held pos) :=
  (((Plant.Cascade.refl p).mapPoint.calm).trans (Plant.yardFault_calm ..)).cascade (Plant.Cascade.refl _).pointChanged

theorem Plant.pointDetection_calm (env : Env) (p : Plant) (sd : Side) (n : Nat) (det : Option Position) :
    p.Calm (Plant.pointDetection env p sd n det) := by
  unfold Plant.pointDetection
  have h : p.Cascade (p.mapPoint sd n fun y => { y with detected := det }) := (Plant.Cascade.refl p).mapPoint
  split
  · exact .refl p
  · dsimp only
    split
    · exact h.detectThrowing.calm
    · split
      · exact h.loseDetection.calm
      · exact .ite h.takeDetection.calm (h.calm.trans (Plant.trailed_calm ..))
      · exact h.takeDetection.calm

theorem Plant.Cascade.interruptOver {t : Nat} (h : p.Cascade q) : p.Cascade (Plant.interruptOver env q sd t) := by
  refine .foldl (fun r n hr => ?_) _ h
  split
  · exact .ite hr.interrupt hr
  · exact hr

theorem Plant.Cascade.sectionPassed {t : Nat} {old st : TrackState} (h : p.Cascade q) :
    p.Cascade (Plant.sectionPassed env q sd t old st) := by
  unfold Plant.sectionPassed
  have hover : p.Cascade (if st = .clear then q else Plant.interruptOver env q sd t) := .ite h h.interruptOver
  exact .report (.ite hover.lockingSection.askScan.handFaultOnce hover.lockingSection.askScan)

theorem Plant.Cascade.sectionChange {t : Nat} {st : TrackState} (h : p.Cascade q) :
    p.Cascade (Plant.sectionChange env q sd t st) := by
  unfold Plant.sectionChange
  split
  · exact h
  · exact .ite h h.mapTrack.sectionPassed

theorem Plant.judgeAspect_calm (env : Env) (p : Plant) (sd : Side) (g : Signal) (a : Aspect) (lamp : Lamp) :
    p.Calm (Plant.judgeAspect env p sd g a lamp) := by
  unfold Plant.judgeAspect
  split
  · exact .ite (.refl p) ((Plant.Cascade.refl p).mapSignal.calm.trans (Plant.yardFault_calm ..))
  · exact .ite (Plant.Cascade.refl p).handFault.calm (.refl p)
  · exact .refl p

theorem Plant.Cascade.passLoss {n : Nat} (h : p.Cascade q) : p.Cascade (Plant.passLoss env q sd n) := by
  unfold Plant.passLoss
  refine .ite ?_ h
  split
  · exact h.revert
  · exact h

theorem Plant.Cascade.signalChanged {n : Nat} {a : Option Aspect} {l : Option Lamp} (h : p.Cascade q) :
    p.Cascade (q.signalChanged sd n a l) := by
  unfold Plant.signalChanged
  split
  · exact h
  · exact h.report

theorem Plant.signalReport_calm (env : Env) (p : Plant) (sd : Side) (n : Nat) (a : Aspect) (lamp : Lamp) (k : Nat) :
    p.Calm (Plant.signalReport env p sd n a lamp k) := by
  unfold Plant.signalReport
  split
  · exact .refl p
  · dsimp only
    refine .cascade (.cascade (.cascade (.cascade (.ite (.trans (Plant.Cascade.refl p).mapSignal.calm
      (Plant.judgeAspect_calm ..)) (Plant.Cascade.refl p).mapSignal.calm) (.ite (.handFaultOnce (.refl _)) (.refl _)))
      (.ite (.lampChanged (.refl _)) (.refl _))) (.ite (.signalChanged (.refl _)) (.refl _)))
      (.ite (.passLoss (.refl _)) (.refl _))

/-! ## The loss of a link (R33, R44, R51) -/

theorem Plant.Cascade.passLostPoint {n : Nat} (h : p.Cascade q) : p.Cascade (Plant.passLostPoint env q n) := by
  unfold Plant.passLostPoint
  split
  · exact h
  · exact .ite h.throwEnd h.pointChanged

theorem Plant.Cascade.passLostSignal {g : Signal} (h : p.Cascade q) : p.Cascade (Plant.passLostSignal env q g) :=
  .ite h.lampChanged.signalChanged h.lampChanged

theorem Plant.Cascade.revertOnLink {n : Nat} (h : p.Cascade q) : p.Cascade (Plant.revertOnLink env q n) :=
  .ite (.foldl (fun _ _ h => h.revert) _ h) h

theorem Plant.Cascade.loseLink {n : Nat} (h : p.Cascade q) : p.Cascade (Plant.loseLink env q n) := by
  refine .revertOnLink (.foldl (fun r k hr => ?_) _ (.foldl (fun r k hr => ?_) _
    (.foldl (fun _ _ h => h.passLostPoint) _ h.mapYard)))
  · split
    · exact hr.passLostSignal
    · exact hr
  · split
    · exact .ite hr hr.sectionPassed
    · exact hr

theorem Plant.Cascade.rewriteSignals {n : Nat} (h : p.Cascade q) : p.Cascade (Plant.rewriteSignals env q n) := by
  refine .foldl (fun r k hr => ?_) _ h
  split
  · exact hr.writeRealAspect
  · exact hr

theorem Plant.Cascade.openAll (h : p.Cascade q) : p.Cascade (Plant.openAll env q) := .foldl (fun _ _ h => h.tryOpen) _ h

end

end Sys2Proof.Machine
end

section
/-! SUPPORT. What the rules of the links, of a rehearsal session and of the telegrams keep, and that every command keeps the report
queues within their bounds (R180). -/

namespace Sys2Proof.Machine

open Sys2Proof

section
variable {env : Env} {p q : Plant} {sd : Side}

/-! ## The links (R168 to R171) -/

/-- A change of state of a link: the link enters the state, what follows is a cascade, and a retrain owed is paid. -/
theorem Plant.setLink_cascade {n : Nat} {l : Link} (h : p.link? n = some l) (st : LinkState) (cause : LinkCause) :
    ∃ q, (p.mapLink n fun x => x.enter st p.now).Cascade q ∧ Plant.setLink env p n st cause = q.payRetrain n st := by
  unfold Plant.setLink
  rw [h]
  have h0 := Plant.Cascade.refl (p.mapLink n fun x => x.enter st p.now)
  have h1 := Plant.Cascade.ite (c := st = .training) (h0.send (n := n) (f := .trainingRequest n)) h0
  have h2 := Plant.Cascade.ite (c := l.state = st) h1 (h1.report (sd := .real) (b := .linkState n l.state st cause))
  have h3 := Plant.Cascade.ite (c := l.state.loses st cause = true) (h2.loseLink (env := env) (n := n)) h2
  exact ⟨_, .ite h3.handFaultOnce h3, rfl⟩

theorem Plant.setLink_of_none {n : Nat} (h : p.link? n = none) (st : LinkState) (cause : LinkCause) :
    Plant.setLink env p n st cause = p := by simp [Plant.setLink, h]

theorem Plant.payRetrain_bounded {n : Nat} {st : LinkState} (h : p.reportsBounded) : (p.payRetrain n st).reportsBounded := by
  unfold Plant.payRetrain
  split
  · exact Plant.report_reportsBounded _ _ h
  · exact h

theorem Plant.setLink_bounded {n : Nat} {st : LinkState} {cause : LinkCause} (h : p.reportsBounded) :
    (Plant.setLink env p n st cause).reportsBounded := by
  cases hl : p.link? n with
  | none => rwa [Plant.setLink_of_none hl]
  | some l =>
    obtain ⟨q, hq, heq⟩ := Plant.setLink_cascade (env := env) hl st cause
    exact heq ▸ Plant.payRetrain_bounded (hq.bounded h)

/-- What each step of a fold keeps bounded, the fold keeps bounded. -/
theorem Plant.foldl_bounded {α : Type} {f : Plant → α → Plant} (hf : ∀ r x, r.reportsBounded → (f r x).reportsBounded)
    (l : List α) (h : p.reportsBounded) : (l.foldl f p).reportsBounded := by
  induction l generalizing p with
  | nil => exact h
  | cons x l ih => exact ih (hf p x h)

theorem Plant.trainAll_bounded {cause : LinkCause} (h : p.reportsBounded) : (Plant.trainAll env p cause).reportsBounded :=
  Plant.foldl_bounded (fun _ _ h => Plant.setLink_bounded h) _ h

theorem Plant.Keeps.takeFullState {n : Nat} {full : FullState} (h : p.Keeps q) : p.Keeps (Plant.takeFullState env q n full) :=
  .foldl (fun _ _ h => (h.trans (Plant.signalReport_calm ..).toKeeps).settled) _
    (.foldl (fun _ _ h => (h.cascade (Plant.Cascade.refl _).sectionChange).settled) _
      (.foldl (fun _ _ h => (h.trans (Plant.pointDetection_calm ..).toKeeps).settled) _ h))

/-- What a link that has come UP makes of its elements. -/
theorem Plant.linkComesUp_keeps (env : Env) (p : Plant) (n : Nat) (full : FullState) :
    (Plant.setLink env p n .up .answered).Keeps (Plant.linkComesUp env p n full) := by
  unfold Plant.linkComesUp
  have h0 : (Plant.setLink env p n .up .answered).Cascade
      (Plant.rewriteSignals env (Plant.forgetLamps env (Plant.setLink env p n .up .answered) n) n) :=
    (Plant.Cascade.refl _).mapYard.rewriteSignals
  have h1 := (Plant.Cascade.ite (c := (Plant.rewriteSignals env (Plant.forgetLamps env
    (Plant.setLink env p n .up .answered) n) n).session.isSome = true) (h0.send (n := n) (f := .holdSafe)) h0).toKeeps
  have h2 := h1.takeFullState (env := env) (n := n) (full := full)
  exact (Plant.Keeps.ite (h2.cascade (Plant.Cascade.refl _).openAll) h2).cascade (Plant.Cascade.refl _).askScan.askRound

/-! ## Rehearsal (R172 to R175) -/

theorem Plant.beginSession_bounded {rate : Nat} (h : p.reportsBounded) : (p.beginSession rate).reportsBounded :=
  (Plant.Cascade.refl _).report.workReadiness.bounded
    (p := { p.sendAllUp .holdSafe with session := some (Session.start rate (p.sendAllUp .holdSafe).yard) })
    ((Plant.Cascade.refl p).sendAllUp.bounded h)

theorem Plant.Cascade.simRead {g : Nat} {t : Option Nat} (h : p.Cascade q) : p.Cascade (Plant.simRead env q g t) :=
  h.mapSession.takeRead

theorem Plant.Cascade.simSection {t : Nat} {st : TrackState} (h : p.Cascade q) : p.Cascade (Plant.simSection env q t st) :=
  .ite h h.sectionChange

theorem Plant.Cascade.injectDisturb {t : Nat} (h : p.Cascade q) : p.Cascade (Plant.injectDisturb env q t) :=
  .ite h h.mapSession.sectionChange

theorem Plant.Cascade.removeDisturb {t : Nat} (h : p.Cascade q) : p.Cascade (Plant.removeDisturb env q t) :=
  .ite h.mapSession.sectionChange h

theorem Plant.Cascade.simSample {d : SimDrive} (h : p.Cascade q) : p.Cascade (Plant.simSample env q d) :=
  h.mapSession.currentSample

theorem Plant.simDetect_calm (env : Env) (p : Plant) (d : SimDrive) : p.Calm (Plant.simDetect env p d) :=
  (Plant.Cascade.refl p).mapSession.calm.trans (Plant.pointDetection_calm ..)

theorem Plant.Cascade.runSection {r : SimRun} {k : Nat} {st : TrackState} (h : p.Cascade q) :
    p.Cascade (Plant.runSection env q r k st) := by
  cases k with
  | zero => exact h
  | succ k =>
    unfold Plant.runSection
    dsimp only
    split
    · exact h.simSection
    · exact h

/-- A section that a run occupies or clears, with the scans and rounds that follow. -/
theorem Plant.Keeps.runSectionSettled {r : SimRun} {k : Nat} {st : TrackState} (h : p.Keeps q) :
    p.Keeps (Plant.settled env (Plant.runSection env q r k st)) := (h.cascade (Plant.Cascade.refl q).runSection).settled

theorem Plant.Keeps.simRead {g : Nat} {t : Option Nat} (h : p.Keeps q) : p.Keeps (Plant.simRead env q g t) :=
  h.cascade (Plant.Cascade.refl q).simRead

theorem Plant.Keeps.mapSession {f : Session → Session} (h : p.Keeps q) : p.Keeps (q.mapSession f) :=
  h.cascade (Plant.Cascade.refl q).mapSession

theorem Plant.runStep_keeps (env : Env) (p : Plant) (r : SimRun) : p.Keeps (Plant.runStep env p r) :=
  .ite (Plant.Keeps.refl p).mapSession.runSectionSettled.runSectionSettled.mapSession.simRead
    (Plant.Keeps.refl p).mapSession.runSectionSettled.runSectionSettled

theorem Plant.Cascade.actSection {k : Key} {st : TrackState} (h : p.Cascade q) : p.Cascade (Plant.actSection env q k st) := by
  unfold Plant.actSection
  split
  · exact h.simSection
  · exact h

theorem Plant.Cascade.inject {i : Injection} {k : Option Key} (h : p.Cascade q) : p.Cascade (Plant.inject env q i k) := by
  unfold Plant.inject
  split
  · exact h.mapSession
  · exact h.mapSession
  · exact h.injectDisturb
  · exact h.mapSession
  · exact h

theorem Plant.Cascade.uninject {i : Injection} {k : Option Key} (h : p.Cascade q) : p.Cascade (Plant.uninject env q i k) := by
  unfold Plant.uninject
  split
  · exact h.mapSession
  · exact h.mapSession
  · exact h.removeDisturb
  · exact h.mapSession
  · exact h

/-! ## Routes, points and the freeze -/

theorem Plant.Cascade.cancelSlot {sl : Slot} (h : p.Cascade q) : p.Cascade (Plant.cancelSlot env q sl) := by
  unfold Plant.cancelSlot
  refine .ite h.freeSlot (.ite ?_ h)
  split
  · exact h
  · exact .ite h.stopEntrySignal.freeSlot h.stopEntrySignal.mapSlot.routeState

theorem Plant.Cascade.cancelRoute {r : Nat} (h : p.Cascade q) : p.Cascade (Plant.cancelRoute env q r) := by
  unfold Plant.cancelRoute
  split
  · exact h.dropRequest
  · exact h.cancelSlot
  · exact h

theorem Plant.Cascade.emergencyRelease {r : Nat} (h : p.Cascade q) : p.Cascade (Plant.emergencyRelease env q r) := by
  unfold Plant.emergencyRelease
  split
  · exact h
  · exact .ite h.freeSlot (.ite h h.stopEntrySignal.mapSlot.routeState)

theorem Plant.Cascade.keepOutOfUse (h : p.Cascade q) : p.Cascade q.keepOutOfUse :=
  h.tables rfl rfl rfl rfl rfl rfl rfl rfl rfl rfl rfl

theorem Plant.Cascade.setPointUse {n : Nat} {out : Bool} (h : p.Cascade q) : p.Cascade (q.setPointUse n out) := by
  unfold Plant.setPointUse
  dsimp only
  split
  · exact h
  · exact .ite h.mapPoint.report (.ite (.askRound (.ite h.mapPoint.report.keepOutOfUse h.mapPoint.report))
      (.askRound (.askScan (.ite h.mapPoint.report.keepOutOfUse h.mapPoint.report))))

theorem Plant.Cascade.ackSlot {sl : Slot} (h : p.Cascade q) : p.Cascade (Plant.ackSlot env q sl) :=
  h.mapYard.routeState.handFate.discardRun.clearSlot.tellFreed

/-- The freed slots, the emptied queue and the shaken roads of a freeze that is acknowledged. -/
def Plant.acknowledged (env : Env) (p : Plant) : Plant :=
  let q := p.used.foldl (fun q sl => Plant.ackSlot env q sl) p
  let q := Plant.dropWhere env q (fun _ => true) .freeze .withdrawn
  q.unverifyAll q.active (Plant.ackRoads env q p.used) .freeze

theorem Plant.acknowledged_cascade (env : Env) (p : Plant) : p.Cascade (Plant.acknowledged env p) :=
  ((Plant.Cascade.refl p).foldl (fun _ _ h => h.ackSlot) _).dropWhere.unverifyAll

theorem Plant.acknowledge_eq (env : Env) (p : Plant) :
    Plant.acknowledge env p = Plant.startHold env (Plant.acknowledged env p).endFreeze := rfl

theorem Plant.storeFreeze_keeps (p : Plant) : p.Keeps p.storeFreeze.1 := by
  unfold Plant.storeFreeze
  split
  · exact .refl p
  · exact (Plant.Cascade.refl p).mapYard.toKeeps.tables rfl rfl rfl rfl rfl rfl

theorem Plant.endFreeze_keeps (p : Plant) : p.Keeps p.endFreeze := by
  unfold Plant.endFreeze
  dsimp only
  split
  · exact .refl p
  · exact .report (.ite p.storeFreeze_keeps.report p.storeFreeze_keeps)

theorem Plant.acknowledge_keeps (env : Env) (p : Plant) : p.Keeps (Plant.acknowledge env p) :=
  ((Plant.acknowledged_cascade env p).toKeeps.trans (Plant.endFreeze_keeps _)).tables rfl rfl rfl rfl rfl rfl

/-! ## The run-out list, the stabling record and the fault list -/

theorem Plant.Cascade.planPair {x : Nat × Nat} (h : p.Cascade q) : p.Cascade (Plant.planPair env q x) := by
  unfold Plant.planPair
  dsimp only
  split
  · exact h.mapYard.placeEntry.askRound
  · exact .ite h.mapYard h.mapYard.setRunOutState.placeEntry

theorem Plant.Cascade.census {b : Berth} {l : List Nat} (h : p.Cascade q) : p.Cascade (Plant.census env q b l) := by
  unfold Plant.census
  dsimp only
  split
  · exact h
  · exact .foldl (fun _ _ h => h.report) _ (.report (.report (.foldl (fun _ _ h => h.noteStabled) _
      (.passBerthChange (.foldl (fun _ _ h => h.clearReservedRoad) _ h.setArrivals.mapYard.setRoads)))))

theorem Plant.Cascade.setService {b : Berth} {c : Bool} (h : p.Cascade q) : p.Cascade (q.setService b c) := by
  unfold Plant.setService
  dsimp only
  split
  · exact h
  · exact .ite h (.report (.passBerthChange (.ite h.mapRoad.clearReservedRoad h.mapRoad)))

theorem Plant.Cascade.clearFault {n : Nat} (h : p.Cascade q) : p.Cascade (q.clearFault n) := by
  unfold Plant.clearFault
  dsimp only
  split
  · exact h
  · exact .ite h h.mapYard.report.askRound

theorem Plant.Cascade.setClock {m s : Nat} (h : p.Cascade q) : p.Cascade (Plant.setClock env q m s) := by
  unfold Plant.setClock
  exact .ite h.mapYard.report.placeAll h.mapYard.report.placeAll.askRound

end

end Sys2Proof.Machine
end

section
/-! SUPPORT. Every command keeps the report queues within their bounds (R180). -/

namespace Sys2Proof.Machine

open Sys2Proof

/-! ## Answers, events and telegrams -/

theorem State.answered_bounded {s : State} (port : Port) (kind tag : Byte) (a : Answer) (h : s.plant.reportsBounded) :
    (s.answered port kind tag a).plant.reportsBounded := by
  have hdispatch : (s.dispatch port kind tag).plant.reportsBounded := by
    rw [State.dispatch_frame]
    exact Plant.mapOut_reportsBounded port (fun _ => PortOut.finishReply_bounded) h
  have hpermit : ((s.dispatch port kind tag).plant.usePermit port).reportsBounded := by
    unfold Plant.usePermit
    split <;> exact hdispatch
  exact Plant.mapOut_reportsBounded port (fun _ hx => PortOut.putReply_bounded _ hx) hpermit

/-- A telegram keeps the queues bounded when its effect does. -/
theorem State.takeTelegram_bounded {s : State} {k : TelegramKind} {port : Port} {tag : Byte} {verdict : State → Answer}
    {effect : State → State} (h : ∀ t : State, t.plant.reportsBounded → (effect t).plant.reportsBounded)
    (hs : s.plant.reportsBounded) : (s.takeTelegram k port tag verdict effect).plant.reportsBounded := by
  cases hw : s.portWaits port with
  | true => rwa [State.takeTelegram_waits hw]
  | false =>
    rw [State.takeTelegram_eq hw]
    split
    · exact State.answered_bounded port _ tag _ hs
    · exact h _ (State.answered_bounded port _ tag _ hs)

/-- An event keeps the queues bounded when what it does to the plant does. -/
theorem State.event_bounded {s : State} {f : Env → Plant → Plant} (h : (f s.env s.plant).reportsBounded) :
    (s.event f).plant.reportsBounded := (Plant.Keeps.refl _).settled.bounded h

/-- A telegram whose effect is an event. -/
theorem State.takeTelegram_event_bounded {s : State} {k : TelegramKind} {port : Port} {tag : Byte} {verdict : State → Answer}
    {f : Env → Plant → Plant} (h : ∀ env p, p.reportsBounded → (f env p).reportsBounded) (hs : s.plant.reportsBounded) :
    (s.takeTelegram k port tag verdict fun t => t.event f).plant.reportsBounded :=
  State.takeTelegram_bounded (fun t ht => State.event_bounded (h t.env t.plant ht)) hs

theorem State.receive_bounded {s : State} (port : Port) (bytes : List Byte) (h : s.plant.reportsBounded) :
    (s.receive port bytes).plant.reportsBounded := by
  have hsilence : ∀ p : Plant, p.reportsBounded → p.endSilence.reportsBounded := by
    intro p hp
    unfold Plant.endSilence
    dsimp only
    split
    · exact hp
    · split
      · exact (Plant.Cascade.refl _).askRound.bounded (Plant.reportOn_reportsBounded (p := { p with silence := _ }) .desk _ _ hp)
      · exact hp
  have hjoined : ∀ (b : Bool) (p : Plant), p.reportsBounded →
      (if b then p.mapOut port fun o => { o with overrun := true } else p).reportsBounded := by
    intro b p hp
    split
    · exact Plant.mapOut_reportsBounded port (fun _ hx => hx) hp
    · exact hp
  refine State.event_bounded ?_
  dsimp only
  split
  · exact hsilence _ (hjoined _ _ (by simpa using h))
  · exact hjoined _ _ (by simpa using h)

theorem Plant.fieldReport_bounded {env : Env} {p : Plant} {link : Nat} {e : FaultElement} {effect : Plant → Plant}
    (h : ∀ q, q.reportsBounded → (effect q).reportsBounded) (hp : p.reportsBounded) :
    (Plant.fieldReport env p link e effect).reportsBounded := by
  unfold Plant.fieldReport
  dsimp only
  split
  · split
    · exact h _ hp
    · exact hp
  · exact hp

theorem Plant.linkDue_bounded {p : Plant} {n : Nat} {st : LinkState} {due : Link → Nat} {f : Plant → Plant}
    (h : ∀ q, q.reportsBounded → (f q).reportsBounded) (hp : p.reportsBounded) : (p.linkDue n st due f).reportsBounded := by
  unfold Plant.linkDue
  split
  · exact hp
  · split
    · exact h _ hp
    · exact hp

theorem Plant.slotDue_bounded {p : Plant} {n : Nat} {st : SlotState} {f : Plant → Plant}
    (h : ∀ q, q.reportsBounded → (f q).reportsBounded) (hp : p.reportsBounded) : (p.slotDue n st f).reportsBounded := by
  unfold Plant.slotDue
  split
  · exact hp
  · split
    · split
      · exact h _ hp
      · exact hp
    · exact hp

theorem Plant.keepOutOfUseIf_bounded {p : Plant} (h : p.reportsBounded) : p.keepOutOfUseIf.reportsBounded := by
  unfold Plant.keepOutOfUseIf
  split <;> exact h

theorem State.commit_bounded {s : State} (h : s.plant.reportsBounded) (g : Staging) : (s.commit g).plant.reportsBounded :=
  (Plant.Cascade.refl _).workReadiness.askRound.bounded (Plant.trainAll_bounded (Plant.report_reportsBounded _ _
    (Plant.keepOutOfUseIf_bounded ((Plant.Cascade.refl s.plant).mapYard.setRoads.bounded h))))

theorem State.erase_bounded {s : State} (h : s.plant.reportsBounded) : s.erase.plant.reportsBounded :=
  (Plant.Cascade.refl _).report.workReadiness.bounded (Plant.trainAll_bounded
    (Plant.keepOutOfUseIf_bounded ((Plant.Cascade.refl s.plant).mapYard.setRoads.setArrivals.bounded h)))

theorem PortOut.reset_bounded : PortOut.reset.bounded := Nat.zero_le _

theorem Plant.warmReset_bounded (env : Env) (p : Plant) : (Plant.warmReset env p).reportsBounded := by
  unfold Plant.warmReset Plant.warmReports Plant.reportTrained Plant.startHold
  exact (Plant.Cascade.workReadiness (.foldl (fun _ _ h => h.placeEntry) _ (.foldl (fun _ _ h => h.report) _
    (.ite (.ite (.foldl (fun _ _ h => h.report) _ (.refl _)) (.report (.foldl (fun _ _ h => h.report) _ (.refl _))))
      (.setRoads (.ite (.foldl (fun _ _ h => h.report) _ (.refl _)) (.report (.foldl (fun _ _ h => h.report) _ (.refl _))))))))).bounded
    ⟨PortOut.reset_bounded, PortOut.reset_bounded⟩

theorem State.coldReset_bounded (s : State) (c : StoreChecks) : (s.coldReset c).plant.reportsBounded := by
  have hif : ∀ (p : Plant) (b : Bool) (r : ReportBody), p.reportsBounded → (p.reportIf b r).reportsBounded := by
    intro p b r hp
    unfold Plant.reportIf
    split
    · exact Plant.report_reportsBounded _ _ hp
    · exact hp
  exact hif _ _ _ (hif _ _ _ (hif _ _ _ (hif _ _ _ ⟨PortOut.reset_bounded, PortOut.reset_bounded⟩)))

@[simp] theorem State.endStaging_plant (s : State) (port : Port) : (s.endStaging port).plant = s.plant := by
  unfold State.endStaging; split <;> rfl

/-! ## Every command -/

theorem exec_bounded {c : Instr} {s t : State} (hs : s.plant.reportsBounded) (ht : exec c s = .next t) :
    t.plant.reportsBounded := by
  cases c <;> cases ht
  case status | setReporting =>
    exact State.takeTelegram_bounded (fun t h => Plant.mapOut_reportsBounded _ (fun _ hx => hx) h) hs
  case grantReleasePermit => exact State.takeTelegram_bounded (fun t h => h) hs
  case readParameter | readRoutes | readElement | readRunOut | allocateQuery | readRoad | readArrivals | readFault | readLayout
    | reset | setParameter | tramEntry | tramRemove | layoutBegin | layoutRecordPut | layoutRecordRemove =>
    exact State.takeTelegram_bounded (fun t h => h) hs
  case openPermit => exact State.takeTelegram_bounded (fun t h => by simpa using h) hs
  case closePermit =>
    refine State.takeTelegram_bounded (fun t h => ?_) hs
    dsimp only
    split
    · simpa using h
    · simpa using h
  case layoutAbandon => exact State.takeTelegram_bounded (fun t h => by simpa using h) hs
  case layoutCommit =>
    refine State.takeTelegram_bounded (fun t h => ?_) hs
    split
    · exact State.event_bounded (State.commit_bounded h _)
    · exact h
  case layoutErase => exact State.takeTelegram_bounded (fun t h => State.event_bounded (State.erase_bounded h)) hs
  case unknownKindFrame port tag kind =>
    dsimp only
    split
    · exact hs
    · simp only [State.conclude, noEffect, ite_self]
      exact State.answered_bounded port kind tag _ hs
  case validFrameReceived | frameLengthOutsideRange => exact State.receive_bounded _ _ hs
  case frameGapTimeout => simpa using State.receive_bounded _ _ hs
  case frameSent => exact Plant.mapOut_reportsBounded _ (fun _ => PortOut.frameSent_bounded) hs
  case coldReset => exact State.coldReset_bounded s _
  case warmResetInput => exact State.event_bounded (Plant.warmReset_bounded _ _)
  case warmResetTelegram =>
    split
    · exact State.event_bounded (Plant.warmReset_bounded _ _)
    · exact hs
  -- the telegrams that act on the plant by an event
  case setClock => exact State.takeTelegram_event_bounded (fun _ p => (Plant.Cascade.refl p).setClock.bounded) hs
  case takeControl =>
    exact State.takeTelegram_event_bounded
      (fun _ p h => (Plant.Cascade.refl _).askScan.bounded (Plant.report_reportsBounded _ _
        ((Plant.Cascade.refl { p with mode := .manual }).dropWhere.bounded h))) hs
  case returnControl =>
    exact State.takeTelegram_event_bounded
      (fun _ p h => (Plant.Cascade.refl _).askScan.askRound.bounded (Plant.report_reportsBounded _ _
        ((Plant.Cascade.refl { p with mode := .automatic }).dropWhere.bounded h))) hs
  case requestRoute =>
    exact State.takeTelegram_event_bounded
      (fun _ p => ((Plant.enqueue_keeps ..).cascade (Plant.Cascade.refl _).askScan).bounded) hs
  case cancelRoute => exact State.takeTelegram_event_bounded (fun _ p => (Plant.Cascade.refl p).cancelRoute.bounded) hs
  case emergencyRelease => exact State.takeTelegram_event_bounded (fun _ p => (Plant.Cascade.refl p).emergencyRelease.bounded) hs
  case throwPoint =>
    exact State.takeTelegram_event_bounded
      (fun _ p => (Plant.Cascade.ite (.refl p) (Plant.Cascade.refl p).beginThrow).bounded) hs
  case pointUseOut | pointUseIn =>
    exact State.takeTelegram_event_bounded (fun _ p => (Plant.Cascade.refl p).setPointUse.bounded) hs
  case allStop => exact State.takeTelegram_event_bounded (fun _ p => (Plant.yardFault_calm ..).bounded) hs
  case freezeAcknowledge =>
    exact State.takeTelegram_event_bounded (fun env p => (Plant.acknowledge_keeps env p).bounded) hs
  case runOutPlan =>
    exact State.takeTelegram_event_bounded
      (fun _ p => ((Plant.Cascade.refl p).foldl (fun _ _ h => h.planPair) _).workReadiness.bounded) hs
  case runOutClear =>
    exact State.takeTelegram_event_bounded (fun _ p => (Plant.Cascade.refl p).mapYard.workReadiness.bounded) hs
  case roadCensus => exact State.takeTelegram_event_bounded (fun _ p => (Plant.Cascade.refl p).census.bounded) hs
  case roadClose | roadOpen =>
    exact State.takeTelegram_event_bounded (fun _ p => (Plant.Cascade.refl p).setService.bounded) hs
  case clearFault => exact State.takeTelegram_event_bounded (fun _ p => (Plant.Cascade.refl p).clearFault.bounded) hs
  case linkRetrain => exact State.takeTelegram_event_bounded (fun _ p h => Plant.setLink_bounded (p := p) h) hs
  case linkDisable =>
    refine State.takeTelegram_event_bounded (fun _ p h => ?_) hs
    split
    · exact h
    · exact Plant.setLink_bounded h
  case linkEnable =>
    refine State.takeTelegram_event_bounded (fun _ p h => ?_) hs
    split
    · exact Plant.setLink_bounded h
    · exact h
  case rehearsalBegin => exact State.takeTelegram_event_bounded (fun _ p => Plant.beginSession_bounded) hs
  case rehearsalEnd => exact State.takeTelegram_event_bounded (fun env p => (Plant.endSession_calm env p).bounded) hs
  case rehearsalActArrive => exact State.takeTelegram_event_bounded (fun _ p => (Plant.Cascade.refl p).simRead.bounded) hs
  case rehearsalActOccupy | rehearsalActClear =>
    exact State.takeTelegram_event_bounded (fun _ p => (Plant.Cascade.refl p).actSection.bounded) hs
  case rehearsalActInject => exact State.takeTelegram_event_bounded (fun _ p => (Plant.Cascade.refl p).inject.bounded) hs
  case rehearsalActRemove => exact State.takeTelegram_event_bounded (fun _ p => (Plant.Cascade.refl p).uninject.bounded) hs
  -- the events of the field and of the links
  case pointDetectionReport =>
    exact State.event_bounded (Plant.fieldReport_bounded (fun q => (Plant.pointDetection_calm ..).bounded) hs)
  case currentSample =>
    exact State.event_bounded (Plant.fieldReport_bounded (fun q => (Plant.Cascade.refl q).currentSample.bounded) hs)
  case driveStopped => exact State.event_bounded (Plant.fieldReport_bounded (fun q => id) hs)
  case sectionReport =>
    exact State.event_bounded (Plant.fieldReport_bounded (fun q => (Plant.Cascade.refl q).sectionChange.bounded) hs)
  case signalReport =>
    exact State.event_bounded (Plant.fieldReport_bounded (fun q => (Plant.signalReport_calm ..).bounded) hs)
  case gateRead =>
    exact State.event_bounded (Plant.fieldReport_bounded (fun q => (Plant.Cascade.refl q).takeRead.bounded) hs)
  case trainingAnswer =>
    refine State.event_bounded ?_
    split
    · exact (Plant.linkComesUp_keeps ..).bounded (Plant.setLink_bounded hs)
    · exact hs
  case linkBadFrame =>
    refine State.event_bounded ?_
    split
    · exact hs
    · split
      · dsimp only
        split
        · exact Plant.setLink_bounded hs
        · exact hs
      · exact hs
  case trainingTimeout | linkSilenceTimeout | downWaitExpiry =>
    exact State.event_bounded (Plant.linkDue_bounded (fun q => Plant.setLink_bounded) hs)
  case linkPoll =>
    refine State.event_bounded ?_
    split
    · exact hs
    · split
      · exact hs
      · exact hs
  -- the events of the timers and of the simulated field
  case driveTimeLimitExpiry =>
    refine State.event_bounded ?_
    split
    · exact hs
    · dsimp only
      split
      · exact (Plant.Cascade.refl _).driveLimit.bounded hs
      · exact hs
  case retryPauseEnd =>
    refine State.event_bounded ?_
    split
    · exact hs
    · dsimp only
      split
      · split
        · exact (Plant.Cascade.refl _).retry.bounded hs
        · exact hs
      · exact hs
  case settingLimitExpiry =>
    exact State.event_bounded (Plant.slotDue_bounded (fun q => (Plant.Cascade.refl q).abandon.bounded) hs)
  case approachReleaseExpiry | emergencyReleaseExpiry =>
    exact State.event_bounded (Plant.slotDue_bounded (fun q => (Plant.Cascade.refl q).freeSlot.bounded) hs)
  case releasePermitLapse =>
    dsimp only [State.mapPlant]
    split
    · exact hs
    · exact hs
  case requestExpiry =>
    refine State.event_bounded ?_
    split
    · exact hs
    · split
      · exact (Plant.Cascade.refl _).dropRequest.bounded hs
      · exact hs
  case restartHoldEnd =>
    refine State.event_bounded ?_
    split
    · exact hs
    · exact (Plant.Cascade.refl _).report.askScan.askRound.bounded (p := { s.plant.advanceTo .real _ with hold := none }) hs
  case planSilenceTimeout =>
    dsimp only [State.mapPlant]
    split
    · exact Plant.reportOn_reportsBounded (p := { s.plant.advanceTo .real _ with silence := _ }) _ _ _ hs
    · exact hs
  case minuteChange =>
    refine State.event_bounded ?_
    unfold Plant.minuteChange
    dsimp only
    split
    · exact (Plant.Cascade.refl _).mapYard.placeAll.askRound.bounded (p := s.plant.advance _) hs
    · exact hs
  case simCurrentSample =>
    refine State.event_bounded ?_
    split
    · exact (Plant.Cascade.refl _).simSample.bounded hs
    · exact hs
  case simDriveDetection =>
    refine State.event_bounded ?_
    split
    · exact hs
    · split
      · exact (Plant.simDetect_calm ..).bounded hs
      · exact hs
  case simTramStep =>
    refine State.event_bounded ?_
    split
    · exact hs
    · split
      · exact (Plant.runStep_keeps ..).bounded hs
      · exact hs

/-- Settles O6: every command keeps the queues bounded, and a tick touches neither. -/
theorem reportQueuesKept : Obligations.ReportQueuesKept := by
  unfold Obligations.ReportQueuesKept
  intro s t hs ht
  unfold step at ht
  split at ht
  · next rest _ => exact exec_bounded (s := { s with pending := rest }) hs ht
  · unfold idle at ht
    split at ht
    · exact exec_bounded hs ht
    · cases ht; exact hs

end Sys2Proof.Machine
end

section
/-! SUPPORT. The telegrams that read, and the ranking that ALLOCATE QUERY tells (R20, R54, R56, R128, R135, R148, R160). -/

namespace Sys2Proof.Machine

open Sys2Proof

/-! ## The reading telegrams (O33) -/

/-- With a layout held, the answer stands. -/
theorem judge_of_held {t : State} {a : Answer} (h : t.store.held = true) : judge [(!t.store.held, .noLayout)] a = a := by
  simp [h]

/-- A reading telegram is answered with what it reads, and has no effect. -/
theorem State.reads {s : State} {port : Port} {k : TelegramKind} (hport : s.portWaits port = false)
    (hk : k.takenFrozen = true) {tag : Byte} {verdict : State → Answer} {f : ReplyFields}
    (hv : verdict (s.dispatch port k.code tag) = .doneWith f) :
    Host.Outcome.next (φ := Fault) (ρ := Refusal) (s.takeTelegram k port tag verdict noEffect) =
      .next (s.answered port k.code tag (.doneWith f)) :=
  congrArg Host.Outcome.next (State.takeTelegram_of_hears (State.hears_of_takenFrozen hport hk) hv (by simp))

/-- What an element's reading gives does not depend on the sending halves. -/
theorem State.dispatch_elementFields (s : State) (port : Port) (kind tag : Byte) (env : Env) (key : Key) :
    Plant.elementFields env (s.dispatch port kind tag).plant key = Plant.elementFields env s.plant key := by
  cases port <;> cases key <;> rfl

/-- READ ELEMENT tells the fields of an element that the part holds. -/
theorem exec_readElement {s : State} {port : Port} {tag : Byte} {key : Key} {f : ReplyFields}
    (hport : s.portWaits port = false) (hheld : s.store.held = true) (hf : Plant.elementFields s.env s.plant key = some f) :
    exec (.readElement port tag key) s =
      .next (s.answered port TelegramKind.readElement.code tag (.doneWith f)) := by
  refine State.reads hport rfl ?_
  rw [judge_of_held (by simpa using hheld), State.dispatch_env, State.dispatch_elementFields, hf]

/-- Settles O33: each verdict reads tables that dispatching leaves. -/
theorem readingChangesNothing : Obligations.ReadingChangesNothing := by
  unfold Obligations.ReadingChangesNothing
  intro s port tag hport p env tells
  have held {k : TelegramKind} (h : s.store.held = true) : (s.dispatch port k.code tag).store.held = true := by simpa using h
  refine ⟨fun hheld => ⟨?_, ?_, ?_, fun n x hx => ?_, fun n x hx => ?_, fun n g hg => ?_, fun n x link l hx hlink hl => ?_,
    fun b r hr => ?_, fun key r hr hroute => ?_, fun n x hx => ?_⟩, fun g key r hg hown hr => ?_, fun n r hn hr => ?_, ?_⟩
  · exact State.reads hport rfl ((judge_of_held (held hheld)).trans (by cases port <;> rfl))
  · exact State.reads hport rfl ((judge_of_held (held hheld)).trans (by cases port <;> rfl))
  · exact State.reads hport rfl ((judge_of_held (held hheld)).trans (by cases port <;> rfl))
  · exact exec_readElement hport hheld (by simp only [Plant.elementFields]; rw [hx]; rfl)
  · exact exec_readElement hport hheld (by simp only [Plant.elementFields]; rw [hx]; rfl)
  · exact exec_readElement hport hheld (by simp only [Plant.elementFields]; rw [hg]; rfl)
  · refine exec_readElement hport hheld ?_
    have hactive : (s.plant.active = .copy) = (p.session.isSome = true) := by
      simp only [Plant.active, p]
      cases s.plant.session <;> simp
    simp only [Plant.elementFields, hactive]
    rw [hx, show env.layout.linkOf (.reader n) = some link from hlink]
    simp only [Option.bind_some]
    rw [hl]
  · refine State.reads hport rfl ((judge_of_held (held hheld)).trans ?_)
    rw [State.dispatch_current, hr, State.dispatch_env]
  · refine State.reads hport rfl ?_
    simp only [readCommitted, State.dispatch_store, hheld, hr]
    cases r with
    | route x => exact absurd rfl (hroute x)
    | _ => rfl
  · refine State.reads hport rfl ?_
    have hrec : s.store.layout.record? (.route n) = some (.route x) := by simp [Layout.record?, hx]
    have hconf : (s.store.layout.routes.map RouteRecord.number).filter
        (fun m => m != n && inConflict s.store.conflicts n m) = s.store.conflictsOf x.number := by
      rw [show x.number = n from findBy_key _ hx]; rfl
    simp only [readCommitted, State.dispatch_store, hheld, hrec, hconf]
    rfl
  · refine State.reads hport rfl ?_
    simp only [readStaging, State.dispatch_store, hg, hown, hr, if_true]
  · refine State.reads hport rfl ?_
    have hfields : p.faultFields (.position n) =
        some (.fault r p.current.faults.records.length p.current.faults.next p.current.faults.full) := by
      simp [Plant.faultFields, Nat.one_le_iff_ne_zero.mp hn, hr]
    have hdispatch : (s.dispatch port TelegramKind.readFault.code tag).plant.faultFields (.position n) =
      p.faultFields (.position n) := by cases port <;> rfl
    rw [hdispatch, hfields]
  · exact State.reads hport rfl (by cases port <;> rfl)

/-! ## The ranking (R135) -/

theorem Candidate.before_iff {a b : Candidate} :
    a.before b = true ↔ a.score < b.score ∨ a.score = b.score ∧
      (a.entries < b.entries ∨ a.entries = b.entries ∧ a.road < b.road) := by
  simp [Candidate.before]

/-- Of two candidates of different roads, one ranks before the other. -/
theorem Candidate.before_of_not {a b : Candidate} (h : a.before b = false) (hne : a.road ≠ b.road) : b.before a = true := by
  have h' : ¬ (a.before b = true) := by simp [h]
  rw [Candidate.before_iff] at h' ⊢
  omega

theorem Candidate.before_trans {a b c : Candidate} (h : a.before b = true) (h' : b.before c = true) : a.before c = true := by
  rw [Candidate.before_iff] at h h' ⊢
  omega

/-- A candidate of a road that the list does not name keeps the list ranked. -/
theorem rankIn_pairwise {c : Candidate} {l : List Candidate} (h : l.Pairwise fun a b => a.before b = true)
    (hne : ∀ d ∈ l, c.road ≠ d.road) : (rankIn c l).Pairwise fun a b => a.before b = true := by
  induction l with
  | nil => simp [rankIn]
  | cons d l ih =>
    obtain ⟨hd, hl⟩ := List.pairwise_cons.mp h
    unfold rankIn
    split
    · next hcd =>
      refine List.pairwise_cons.mpr ⟨fun x hx => ?_, h⟩
      rcases List.mem_cons.mp hx with rfl | hx
      · exact hcd
      · exact Candidate.before_trans hcd (hd x hx)
    · next hcd =>
      refine List.pairwise_cons.mpr ⟨fun x hx => ?_, ih hl fun y hy => hne y (List.mem_cons_of_mem _ hy)⟩
      rcases mem_rankIn.mp hx with rfl | hx
      · exact Candidate.before_of_not (by simpa using hcd) (hne d List.mem_cons_self)
      · exact hd x hx

/-- Candidates of different roads are ranked whatever the order in which they come. -/
theorem foldl_rankIn_pairwise {cs l : List Candidate} (h : l.Pairwise fun a b => a.before b = true)
    (hcs : cs.Pairwise fun a b => a.road ≠ b.road) (hne : ∀ c ∈ cs, ∀ d ∈ l, c.road ≠ d.road) :
    (cs.foldl (fun l c => rankIn c l) l).Pairwise fun a b => a.before b = true := by
  induction cs generalizing l with
  | nil => exact h
  | cons c cs ih =>
    obtain ⟨hc, hrest⟩ := List.pairwise_cons.mp hcs
    refine ih (rankIn_pairwise h (hne c List.mem_cons_self)) hrest fun x hx d hd => ?_
    rcases mem_rankIn.mp hd with rfl | hd
    · exact (hc x hx).symm
    · exact hne x (List.mem_cons_of_mem _ hx) d hd

/-- A candidate has the number of the road it was judged for. -/
theorem Plant.judgeRoad_road {env : Env} {p : Plant} {t : RegisterEntry} {n : Nat} {c : Candidate}
    (h : Plant.judgeRoad env p t n = .ok c) : c.road = n := by
  obtain ⟨d, r, pass, hc⟩ := Plant.roadPasses_of_judgeRoad h
  exact (candidateOf_eq_some hc).2.1.trans (findBy_key _ pass.present)

/-- An allocation is ranked. -/
theorem Plant.allocate_pairwise (env : Env) (p : Plant) (t : RegisterEntry) :
    (Plant.allocate env p t).Pairwise fun a b => a.before b = true := by
  refine foldl_rankIn_pairwise .nil ?_ (by simp)
  refine List.pairwise_filterMap.mpr ?_
  have hnumbers : roadNumbers.Pairwise (· ≠ ·) := by decide
  refine hnumbers.imp fun hne x hx y hy => ?_
  rw [Plant.judgeRoad_road (eligible_eq_some.mp hx), Plant.judgeRoad_road (eligible_eq_some.mp hy)]
  exact hne

theorem mem_roadNumbers {n : Nat} (h1 : 1 ≤ n) (h16 : n ≤ 16) : n ∈ roadNumbers := by
  simp only [roadNumbers, List.mem_cons, List.not_mem_nil, or_false]
  omega

/-- What an allocation tells does not depend on the sending halves. -/
theorem State.dispatch_queryFields (s : State) (port : Port) (kind tag : Byte) (env : Env) (t : RegisterEntry) :
    Plant.queryFields env (s.dispatch port kind tag).plant t = Plant.queryFields env s.plant t := by
  obtain ⟨a, b, h⟩ := State.dispatch_plant s port kind tag
  rw [h]; rfl

/-- ALLOCATE QUERY tells the allocation of its subject. -/
theorem exec_allocateQuery {s : State} {port : Port} {tag : Byte} {subject : Subject} {e : RegisterEntry}
    (hears : s.hears port .allocateQuery) (hheld : s.store.held = true)
    (he : (s.dispatch port TelegramKind.allocateQuery.code tag).querySubject subject = .ok e) :
    exec (.allocateQuery port tag subject) s =
      .next (s.answered port TelegramKind.allocateQuery.code tag (.doneWith (Plant.queryFields s.env s.plant e))) := by
  refine congrArg Host.Outcome.next (State.takeTelegram_of_hears hears ?_ (by simp))
  rw [judge_of_held (by simpa using hheld), he, State.dispatch_env]
  dsimp only
  rw [State.dispatch_queryFields]

/-- Settles O34: candidates are inserted in rank, and each is of a road of its own. -/
theorem allocateQueryRanks : Obligations.AllocateQueryRanks := by
  unfold Obligations.AllocateQueryRanks
  intro s port tag e hears hheld ranked told
  refine ⟨(Plant.allocate_pairwise s.env s.plant e).imp Candidate.before_iff.mp, fun c hc => ?_, fun n c hc h1 h16 => ?_,
    fun n h1 h9999 htram => ?_, fun a rest ha he => ?_⟩
  · obtain ⟨n, -, hj⟩ := Plant.mem_allocate.mp hc
    rwa [Plant.judgeRoad_road hj]
  · exact Plant.mem_allocate.mpr ⟨n, mem_roadNumbers h1 h16, hc⟩
  · refine exec_allocateQuery hears hheld ?_
    simp [State.querySubject, tramInRange, inRange, h1, h9999, htram]
  · refine exec_allocateQuery hears hheld ?_
    simp [State.querySubject, ha, he]

end Sys2Proof.Machine
end

section
/-! SUPPORT. The telegrams that write one table of the yard in force on a quiet plant, or the release permit (chapters 2, 5, 10 and
11). -/

namespace Sys2Proof.Machine

open Sys2Proof

/-! ## A telegram that acts by an event -/

/-- A telegram that is accepted, and whose event leaves a quiet plant. -/
theorem State.takeTelegram_event_quiet {s : State} {port : Port} {k : TelegramKind} (h : s.hears port k) {tag : Byte}
    {verdict : State → Answer} {f : Env → Plant → Plant} {a : Answer} {p : Plant}
    (ha : verdict (s.dispatch port k.code tag) = a) (hr : a.outcome ≠ .refused)
    (hp : f s.env (s.answered port k.code tag a).plant = p) (hq : p.quiet s.env) :
    s.takeTelegram k port tag verdict (fun t => t.event f) =
      { s.answered port k.code tag a with plant := p.unmarked } := by
  rw [State.takeTelegram_of_hears h ha hr, State.event_of_quiet (p := p) (by simpa using hp) (by simpa using hq)]

/-! ## The release permit (O26) -/

/-- On the real yard the part's own time is the duration. -/
@[simp] theorem Plant.ownTime_real (p : Plant) (ms : Nat) : p.ownTime .real ms = ms := rfl

@[simp] theorem Plant.base_real (p : Plant) : p.base .real = p.now := rfl

theorem Plant.advanceTo_real (p : Plant) (due : Nat) : p.advanceTo .real due = p.advance (due - p.now) := rfl

/-- Settles O26: the telegram writes the permit and the lapse clears it; neither makes a scan or a round. -/
theorem releasePermitOpensAndLapses : Obligations.ReleasePermitOpensAndLapses := by
  unfold Obligations.ReleasePermitOpensAndLapses
  refine fun s tag => ⟨fun hears => ?_, fun due hdue => ?_⟩
  · refine congrArg Host.Outcome.next ((State.takeTelegram_of_hears hears (a := .done) rfl (by simp)).trans ?_)
    simp only [State.mapPlant, State.answered_now, Config.permitLapse]
  · show Host.Outcome.next (s.mapPlant _) = _
    simp only [State.mapPlant, hdue, Plant.advanceTo_real]

/-! ## CLEAR FAULT (O32) -/

/-- What a fault's condition is does not depend on the sending halves. -/
theorem State.dispatch_conditionGone (s : State) (port : Port) (kind tag : Byte) (env : Env) (r : FaultRecord) :
    Plant.conditionGone env (s.dispatch port kind tag).plant r = Plant.conditionGone env s.plant r := by
  cases port <;> rfl

/-- Settles O32: the record found is cleared in place, and a quiet plant stays quiet. -/
theorem clearFaultClears : Obligations.ClearFaultClears := by
  unfold Obligations.ClearFaultClears
  intro s port tag n r hport hr hopen hgone hquiet u
  refine congrArg Host.Outcome.next ((State.takeTelegram_event_quiet (State.hears_of_takenFrozen hport rfl) (a := .done) ?_
    (by simp) rfl ((Plant.Cascade.refl _).clearFault.quiet (State.answered_quiet hquiet ..))).trans ?_)
  · simp [clearFaultAnswer, hr, State.dispatch_conditionGone, hgone]
  · have hplant : u.plant.clearFault n =
        ((u.plant.mapYard s.plant.active fun y =>
          { y with
            faults :=
              { y.faults with
                records := updBy FaultRecord.number n (fun x => { x with cleared := true }) y.faults.records
                full := false } }).report s.plant.active (.fault { r with cleared := true } true none)).askRound
          s.plant.active := by
      have hfind : findBy FaultRecord.number n u.plant.current.faults.records = some r := by simpa [u] using hr
      have hactive : u.plant.active = s.plant.active := by simp [u]
      simp only [Plant.clearFault, hfind, hopen, hactive, clearRecord]
      rfl
    rw [hplant, Plant.askRound_unmarked]

/-! ## Injections (O48) -/

/-- REHEARSAL ACT of a key that the layout holds, of the right form, during a session. -/
theorem actAnswer_done {s : State} {present right : Bool} (hp : present = true) (hr : right = true)
    (hs : s.plant.session.isSome = true) : actAnswer s present right = .done := by
  cases hs' : s.plant.session with
  | none => simp [hs'] at hs
  | some c => simp [actAnswer, hp, hr, hs']

/-- A telegram that is accepted, and whose event leaves a plant with nothing to be made. -/
theorem State.takeTelegram_event_settled {s : State} {port : Port} {k : TelegramKind} (h : s.hears port k) {tag : Byte}
    {verdict : State → Answer} {f : Env → Plant → Plant} {a : Answer} {p : Plant}
    (ha : verdict (s.dispatch port k.code tag) = a) (hr : a.outcome ≠ .refused)
    (hp : f s.env (s.answered port k.code tag a).plant = p) (hq : p.settledAlready) :
    s.takeTelegram k port tag verdict (fun t => t.event f) = { s.answered port k.code tag a with plant := p } := by
  rw [State.takeTelegram_of_hears h ha hr, State.event_of_settled (p := p) (by simpa using hp) hq]

theorem Plant.mapSession_of_some {p : Plant} {c : Session} (h : p.session = some c) (f : Session → Session) :
    p.mapSession f = { p with session := some (f c) } := by simp [Plant.mapSession, h]

theorem addOnce_eq (n : Nat) (l : List Nat) : addOnce n l = if n ∈ l then l else l ++ [n] := by simp [addOnce]

/-- Settles O48: each injection writes one field of the session. -/
theorem injectionsStandAndEnd : Obligations.InjectionsStandAndEnd := by
  unfold Obligations.InjectionsStandAndEnd
  intro s port tag c hears hc hsettled u gives
  have hu : u.plant.session = some c := by simpa [u] using hc
  have hidle : ∀ x : Option Session, ({ u.plant with session := x } : Plant).settledAlready := fun x => by
    simpa [Plant.settledAlready, u] using hsettled
  have key {i : Instr} {c' : Session} {present right : State → Bool} {f : Session → Session} {g : Env → Plant → Plant}
      (hi : exec i s = .next (s.takeTelegram .rehearsalAct port tag (fun t => actAnswer t (present t) (right t))
        fun t => t.event g))
      (hp : present (s.dispatch port TelegramKind.rehearsalAct.code tag) = true)
      (hr : right (s.dispatch port TelegramKind.rehearsalAct.code tag) = true) (hg : ∀ env p, g env p = p.mapSession f)
      (hf : f c = c') : gives i c' := by
    refine hi.trans (congrArg Host.Outcome.next (State.takeTelegram_event_settled hears
      (actAnswer_done hp hr (by simp [hc])) (by simp) ?_ (hidle (some c'))))
    rw [hg, Plant.mapSession_of_some hu, hf]
  have hpoint (n : Nat) (hn : (s.store.layout.point? n).isSome = true) :
      (s.dispatch port TelegramKind.rehearsalAct.code tag).keyPresent (.point n) = true := by
    obtain ⟨d, hd⟩ := Option.isSome_iff_exists.mp hn
    simp [State.keyPresent, Layout.record?, hd]
  refine ⟨fun n hn => ⟨?_, ?_, ?_, ?_⟩, ?_, ?_⟩
  · exact key rfl (hpoint n hn) rfl (fun _ _ => rfl) (by simp only [addOnce_eq])
  · exact key rfl (hpoint n hn) rfl (fun _ _ => rfl) rfl
  · exact key rfl (hpoint n hn) rfl (fun _ _ => rfl) (by simp only [addOnce_eq])
  · exact key rfl (hpoint n hn) rfl (fun _ _ => rfl) rfl
  · exact key rfl rfl rfl (fun _ _ => rfl) rfl
  · exact key rfl rfl rfl (fun _ _ => rfl) rfl

/-! ## POINT USE (O29) -/

/-- What POINT USE makes of a point of the real yard. -/
theorem Plant.setPointUse_real {p : Plant} {n : Nat} {x : Point} (out : Bool) (hs : p.session = none)
    (hx : p.yard.point? n = some x) :
    let q := (p.mapPoint .real n fun y => { y with outOfUse := out }).report .real (.pointUse n out)
    (p.setPointUse n out).unmarked =
      { q.unmarked with
        keptOutOfUse := if x.outOfUse = out then p.keptOutOfUse else p.keptOutOfUse.write q.yard.outOfUse } := by
  intro q
  have hkept : q.keptOutOfUse = p.keptOutOfUse := by simp [q]
  have hpoint : p.current.point? n = some x := by rwa [Plant.current_of_none hs]
  simp only [Plant.setPointUse, hpoint, Plant.active_of_none hs]
  by_cases hout : x.outOfUse = out
  · rw [if_pos hout, if_pos hout, ← hkept]
    rfl
  · rw [if_neg hout, if_neg hout, ← hkept]
    cases out
    · simp only [if_pos, Bool.false_eq_true, if_false, Plant.askRound_unmarked, Plant.askScan_unmarked]
      rfl
    · simp only [if_pos, Plant.askRound_unmarked]
      rfl

/-- Settles O29: the conditions are those of a free point, and the flag is written in place. -/
theorem pointUseWritesFlag : Obligations.PointUseWritesFlag := by
  unfold Obligations.PointUseWritesFlag
  intro s tag n x out hears hheld hs hquiet hx hfree u q
  have hfound : s.plant.current.point? n = some x := by rwa [Plant.current_of_none hs]
  have heffect := Plant.setPointUse_real (p := u.plant) out (by simpa [u] using hs) (by simpa [u] using hx)
  have hq : (u.plant.setPointUse n out).quiet s.env :=
    (Plant.Cascade.refl _).setPointUse.quiet (State.answered_quiet hquiet ..)
  have hkept : u.plant.keptOutOfUse = s.plant.keptOutOfUse := by simp [u]
  rw [hkept] at heffect
  cases out with
  | true =>
    obtain ⟨hthrow, hclaim⟩ := hfree rfl
    refine congrArg Host.Outcome.next ((State.takeTelegram_event_quiet hears (a := .done) ?_ (by simp) rfl hq).trans ?_)
    · simp [pointUseConditions, hheld, hfound, Point.throwing, hthrow, hclaim]
    · rw [heffect]
  | false =>
    refine congrArg Host.Outcome.next ((State.takeTelegram_event_quiet hears (a := .done) ?_ (by simp) rfl hq).trans ?_)
    · simp [pointUseConditions, hheld, hfound]
    · rw [heffect]

/-! ## THROW POINT (O28) -/

/-- On the real yard DRIVE goes to the point's link when it is UP. -/
theorem Plant.sendDrive_real {env : Env} {p : Plant} {n link : Nat} (hl : env.layout.linkOf (.point n) = some link)
    (hup : p.linkUp link = true) (pos : Position) (b : Bool) :
    Plant.sendDrive env p .real n pos b = p.send link (.drive n pos) := by
  simp [Plant.sendDrive, hl, Plant.sendUp, hup]

theorem Plant.elementUp_real {env : Env} {p : Plant} {e : FaultElement} {link : Nat} (hl : env.layout.linkOf e = some link) :
    p.elementUp env .real e = p.linkUp link := by
  simp [Plant.elementUp, hl, Plant.linkUpFor]

/-- What THROW POINT answers for a free point that does not lie in the target: whether its section and its link let it drive. -/
theorem throwPointAnswer_of_free {s : State} {n : Nat} {target : Position} {x : Point} (hm : s.plant.mode = .manual)
    (hheld : s.store.held = true) (hhold : s.plant.hold = none) (hs : s.plant.session = none)
    (hx : s.plant.yard.point? n = some x) (hstate : x.state = .failed ∨ x.state = target.opposite.state)
    (huse : x.outOfUse = false) (hclaim : x.claim = none) (hlocks : x.locks = []) (hthrow : x.throw = none) :
    throwPointAnswer .desk n target s =
      judge [(!Plant.pointClear s.env s.plant .real n, .state), (!s.plant.elementUp s.env .real (.point n), .state)]
        .accepted := by
  have hfound : s.plant.current.point? n = some x := by rwa [Plant.current_of_none hs]
  have hunknown : x.state ≠ .unknown := by
    rcases hstate with h | h <;> rw [h]
    · exact nofun
    · cases target <;> exact nofun
  have hlies : x.lies target = false := by
    rcases hstate with h | h <;> rw [Point.lies, h] <;> cases target <;> rfl
  simp [throwPointAnswer, hm, hheld, Plant.holding, hhold, hfound, hunknown, hlies, huse, hclaim, hlocks, Point.throwing,
    hthrow, Plant.active_of_none hs]

/-- Settles O28: a section that is not CLEAR, or whose link is not UP, refuses the drive; else the throw begins. -/
theorem throwPointDrives : Obligations.ThrowPointDrives := by
  unfold Obligations.ThrowPointDrives
  intro s tag n link target x hears hm hheld hhold hs hx hstate huse hclaim hlocks hthrow
  have hanswer := throwPointAnswer_of_free (s := s.dispatch .desk TelegramKind.throwPoint.code tag) (by simpa using hm)
    (by simpa using hheld) (by simpa using hhold) (by simpa using hs) (by simpa using hx) hstate huse hclaim hlocks hthrow
  have hclear : Plant.pointClear s.env (s.dispatch .desk TelegramKind.throwPoint.code tag).plant .real n =
    Plant.pointClear s.env s.plant .real n := rfl
  have hup : (s.dispatch .desk TelegramKind.throwPoint.code tag).plant.elementUp s.env .real (.point n) =
    s.plant.elementUp s.env .real (.point n) := rfl
  rw [State.dispatch_env, hclear, hup] at hanswer
  refine ⟨fun d hd hblocked => ?_, ?_⟩
  · refine congrArg Host.Outcome.next (State.takeTelegram_refused_of_hears hears (a := .refused .state) ?_ rfl)
    have hnot : Plant.pointClear s.env s.plant .real n = false := by
      have hd' : s.env.layout.point? n = some d := hd
      rw [Plant.pointClear, hd', Option.any_some, Plant.trackClear]
      rcases hblocked with h | h
      · simp [Yard.trackClear, h]
      · simp [h]
    rw [hanswer, hnot]
    rfl
  · intro hpoint hlink hlinkUp hqueue u th
    have hu : u.plant.session = none := by simpa [u] using hs
    have hlies : (u.plant.current.point? n).any (fun y => y.lies target) = false := by
      have hfound : u.plant.current.point? n = some x := by simpa [u, Plant.current_of_none hs] using hx
      rw [hfound, Option.any_some]
      rcases hstate with h | h <;> rw [Point.lies, h] <;> cases target <;> rfl
    have hquiet : u.plant.quiet s.env := ⟨by simpa [u] using hqueue, by simp [Plant.automatic, u, hm]⟩
    have hbegin : Plant.beginThrow s.env u.plant .real n target .desk =
        ((u.plant.mapPoint .real n fun y => { y with state := .moving, attempts := 0, throw := some th }).send link
          (.drive n target)).report .real (.throwStarted n target .desk) := by
      have hdrive := Plant.sendDrive_real (p := u.plant.mapPoint .real n fun y =>
        { y with state := .moving, attempts := 0, throw := some th }) hlink hlinkUp target false
      exact congrArg (fun q => q.report .real (.throwStarted n target .desk)) hdrive
    refine congrArg Host.Outcome.next ((State.takeTelegram_event_quiet hears (a := .accepted)
      (p := Plant.beginThrow s.env u.plant .real n target .desk) ?_ (by simp) ?_
      ((Plant.Cascade.refl _).beginThrow.quiet hquiet)).trans ?_)
    · rw [hanswer, hpoint, Plant.elementUp_real hlink, hlinkUp]
      rfl
    · rw [if_neg (by simpa [u] using hlies), Plant.active_of_none hu]
    · rw [hbegin]

end Sys2Proof.Machine
end

section
/-! SUPPORT. What the rules of the run-out list change: its entries, but for tram and departure, of one side, reports, and the count
of missed departures of a session (R140, R146, R149). -/

namespace Sys2Proof.Machine

open Sys2Proof

/-- A session but for its copies and its count of missed departures. -/
def Session.bare (c : Session) : Session := { c with copy := .empty, missed := 0 }

/-- The trams of a run-out list, each with its departure. -/
def Yard.planned (y : Yard) : List (Nat × Option Nat) := y.runOut.map fun e => (e.tram, e.departure)

/-- What the rules of the run-out list of a side change of a plant. -/
structure Plant.RunOutOnly (sd : Side) (p q : Plant) : Prop where
  rest : q = { p with planOut := q.planOut, deskOut := q.deskOut, yard := q.yard, session := q.session, wantRound := q.wantRound }
  yard : q.yardOf sd = { p.yardOf sd with runOut := (q.yardOf sd).runOut }
  planned : (q.yardOf sd).planned = (p.yardOf sd).planned
  real : sd = .real → q.session = p.session
  copy : sd = .copy → p.session.isSome = true → q.yard = p.yard
  session : q.session.map Session.bare = p.session.map Session.bare

theorem Plant.RunOutOnly.refl (sd : Side) (p : Plant) : Plant.RunOutOnly sd p p :=
  ⟨rfl, rfl, rfl, fun _ => rfl, fun _ _ => rfl, rfl⟩

section
variable {env : Env} {p q r : Plant} {sd : Side}

theorem Plant.RunOutOnly.isSome (h : p.RunOutOnly sd q) : q.session.isSome = p.session.isSome := by
  simpa using congrArg Option.isSome h.session

theorem Plant.RunOutOnly.trans (h : p.RunOutOnly sd q) (h' : q.RunOutOnly sd r) : p.RunOutOnly sd r where
  rest := h'.rest.trans (congrArg (fun z : Plant =>
    { z with planOut := r.planOut, deskOut := r.deskOut, yard := r.yard, session := r.session, wantRound := r.wantRound }) h.rest)
  yard := h'.yard.trans (congrArg (fun z : Yard => { z with runOut := (r.yardOf sd).runOut }) h.yard)
  planned := h'.planned.trans h.planned
  real hs := (h'.real hs).trans (h.real hs)
  copy hs hp := (h'.copy hs (h.isSome.trans hp)).trans (h.copy hs hp)
  session := h'.session.trans h.session

theorem Plant.RunOutOnly.active (h : p.RunOutOnly sd q) : q.active = p.active := by
  simp only [Plant.active, h.isSome]

theorem Plant.RunOutOnly.ite {c : Prop} [Decidable c] (h : p.RunOutOnly sd q) (h' : p.RunOutOnly sd r) :
    p.RunOutOnly sd (if c then q else r) := by split <;> assumption

theorem Plant.RunOutOnly.foldl {α : Type} {f : Plant → α → Plant} (hf : ∀ r x, p.RunOutOnly sd r → p.RunOutOnly sd (f r x))
    (l : List α) (h : p.RunOutOnly sd q) : p.RunOutOnly sd (l.foldl f q) := by
  induction l generalizing q with
  | nil => exact h
  | cons x l ih => exact ih (hf q x h)

/-! ## The changes that the rules are made of -/

theorem Plant.RunOutOnly.report {sd' : Side} {b : ReportBody} (h : p.RunOutOnly sd q) : p.RunOutOnly sd (q.report sd' b) :=
  h.trans ⟨rfl, by rw [Plant.report_yardOf], by rw [Plant.report_yardOf], fun _ => by simp, fun _ _ => by simp, by simp⟩

theorem Plant.RunOutOnly.askRound {sd' : Side} (h : p.RunOutOnly sd q) : p.RunOutOnly sd (q.askRound sd') := by
  refine h.trans ⟨?_, by rw [Plant.askRound_yardOf], by rw [Plant.askRound_yardOf], fun _ => by simp, fun _ _ => by simp, by simp⟩
  unfold Plant.askRound
  split <;> rfl

theorem updBy_map_of_eq {α β : Type} {key : α → Nat} {g : α → β} {f : α → α} (hf : ∀ x, g (f x) = g x) (n : Nat) (l : List α) :
    (updBy key n f l).map g = l.map g := by
  simp only [updBy, List.map_map]
  refine List.map_congr_left fun x _ => ?_
  simp only [Function.comp_apply]
  split
  · exact hf x
  · rfl

theorem Plant.RunOutOnly.mapRunOut {t : Nat} {f : RunOut → RunOut} (h : p.RunOutOnly sd q)
    (hf : ∀ e, ((f e).tram, (f e).departure) = (e.tram, e.departure)) : p.RunOutOnly sd (q.mapRunOut sd t f) := by
  refine h.trans ⟨?_, ?_, ?_, ?_, ?_, ?_⟩
  · cases sd with
    | real => rfl
    | copy => cases hs : q.session <;> simp [Plant.mapRunOut, Plant.mapYard, Plant.setYard, hs]
  · rw [Plant.mapRunOut, Plant.yardOf_mapYard_self]
  · rw [Plant.mapRunOut, Plant.yardOf_mapYard_self]
    exact updBy_map_of_eq hf _ _
  · rintro rfl; rfl
  · rintro rfl hs
    obtain ⟨c, hc⟩ := Option.isSome_iff_exists.mp hs
    rw [Plant.mapRunOut, Plant.mapYard_copy hc]
  · cases sd with
    | real => rfl
    | copy =>
      cases hs : q.session with
      | none => simp [Plant.mapRunOut, Plant.mapYard, Plant.setYard, hs]
      | some c => rw [Plant.mapRunOut, Plant.mapYard_copy hs]; rfl

/-- A count of missed departures belongs to a session. -/
theorem Plant.RunOutOnly.mapMissed {n : Nat} (h : p.RunOutOnly .copy q) :
    p.RunOutOnly .copy (q.mapSession fun c => { c with missed := c.missed + n }) := by
  have hyard := Plant.mapSession_yardOf q (f := fun c => { c with missed := c.missed + n }) (fun _ => rfl) .copy
  refine h.trans ⟨rfl, by rw [hyard], by rw [hyard], nofun, fun _ _ => rfl, ?_⟩
  simp only [Plant.mapSession, Option.map_map]
  rfl

/-! ## The rules -/

theorem Plant.RunOutOnly.setRunOutState {t : Nat} {st : RunOutState} (h : p.RunOutOnly sd q) :
    p.RunOutOnly sd (q.setRunOutState sd t st) := by
  unfold Plant.setRunOutState
  split
  · exact h
  · refine .ite h (.report ?_)
    have hstate := h.mapRunOut (t := t) (f := fun x => { x with state := st }) fun _ => rfl
    cases sd with
    | real => simpa using hstate
    | copy => exact .ite hstate.mapMissed hstate

theorem Plant.RunOutOnly.placeEntry {t : Nat} (h : p.RunOutOnly sd q) : p.RunOutOnly sd (Plant.placeEntry env q sd t) := by
  unfold Plant.placeEntry
  dsimp only
  split
  · exact h
  · exact h.setRunOutState

theorem Plant.RunOutOnly.placeAll (h : p.RunOutOnly sd q) : p.RunOutOnly sd (Plant.placeAll env q sd) :=
  .foldl (fun _ _ h => .ite h.placeEntry h) _ h

theorem Plant.RunOutOnly.handReadiness {t : Nat} {x : Readiness} (h : p.RunOutOnly sd q) :
    p.RunOutOnly sd (q.handReadiness sd t x) := by
  unfold Plant.handReadiness
  dsimp only
  have hmap := h.mapRunOut (t := t) (f := fun e => { e with readiness := some x }) fun _ => rfl
  split
  · exact .askRound (.ite hmap.setRunOutState hmap)
  · exact hmap.askRound

theorem Plant.RunOutOnly.workReadiness {all : Bool} (h : p.RunOutOnly sd q) : p.RunOutOnly sd (q.workReadiness sd all) :=
  .foldl (fun _ _ h => .ite h.handReadiness h) _ h

theorem Plant.RunOutOnly.passBerthChange (h : p.RunOutOnly sd q) : p.RunOutOnly sd (q.passBerthChange sd) :=
  h.workReadiness.askRound

theorem Plant.RunOutOnly.noteStabled {t : Nat} (h : p.RunOutOnly sd q) : p.RunOutOnly sd (Plant.noteStabled env q sd t) := by
  unfold Plant.noteStabled
  split
  · exact .ite h.placeEntry h
  · exact h

theorem Plant.RunOutOnly.noteDeparting {t : Nat} (h : p.RunOutOnly sd q) : p.RunOutOnly sd (q.noteDeparting sd t) := by
  unfold Plant.noteDeparting
  split
  · exact .ite h h.setRunOutState
  · exact h

theorem Plant.RunOutOnly.noteGone {t : Nat} (h : p.RunOutOnly sd q) : p.RunOutOnly sd (q.noteGone sd t) := by
  unfold Plant.noteGone
  split
  · exact .ite h h.setRunOutState
  · exact h

theorem Plant.RunOutOnly.departureFate {t n : Nat} {f : Fate} (h : p.RunOutOnly sd q) :
    p.RunOutOnly sd (Plant.departureFate env q sd t n f) := by
  have hmap := h.mapRunOut (t := t) (f := fun x => { x with route := none }) fun _ => rfl
  unfold Plant.departureFate
  split
  · exact h
  · refine .ite h ?_
    dsimp only
    split
    · exact h
    · exact hmap
    · exact .ite hmap hmap.setRunOutState
    · exact .ite hmap.placeEntry hmap

/-! ## What it says of the yard in force -/

theorem Plant.RunOutOnly.current (h : p.RunOutOnly p.active q) :
    q.current = { p.current with runOut := q.current.runOut } := by
  have hq : q.current = q.yardOf p.active := by rw [Plant.current, h.active]
  rw [hq]
  exact h.yard

/-- During a session nothing of the real yard is touched, when the yard in force is. -/
theorem Plant.RunOutOnly.realYard (h : p.RunOutOnly p.active q) (hs : p.session.isSome = true) : q.yard = p.yard :=
  h.copy (by simp [Plant.active, hs]) hs

/-- The trams of the list stay. -/
theorem Plant.RunOutOnly.trams (h : p.RunOutOnly sd q) :
    (q.yardOf sd).runOut.map RunOut.tram = (p.yardOf sd).runOut.map RunOut.tram := by
  have := congrArg (List.map Prod.fst) h.planned
  simpa [Yard.planned, Function.comp_def] using this

theorem Plant.RunOutOnly.currentTrams (h : p.RunOutOnly p.active q) :
    q.current.runOut.map RunOut.tram = p.current.runOut.map RunOut.tram := by
  have hq : q.current = q.yardOf p.active := by rw [Plant.current, h.active]
  rw [hq]
  exact h.trams

/-- Beyond reports and the tables, the plant stays. -/
theorem Plant.RunOutOnly.tablesOnly (h : p.RunOutOnly sd q) : p.tablesOnly q.unmarked :=
  congrArg (fun z : Plant => z.unmarked) h.rest

theorem Plant.tablesOnly_trans (h : p.tablesOnly q.unmarked) (h' : q.tablesOnly r.unmarked) : p.tablesOnly r.unmarked :=
  h'.trans (congrArg (fun z : Plant =>
    { z with planOut := r.planOut, deskOut := r.deskOut, yard := r.yard, session := r.session }) h)

theorem Plant.mapYard_tablesOnly (p : Plant) (sd : Side) (f : Yard → Yard) : p.tablesOnly (p.mapYard sd f).unmarked := by
  cases sd with
  | real => rfl
  | copy => cases hs : p.session <;> simp [Plant.mapYard, Plant.setYard, hs, Plant.tablesOnly, Plant.unmarked]

/-- A change of the yard in force touches nothing of the real yard during a session. -/
theorem Plant.mapYard_active_yard (p : Plant) (f : Yard → Yard) (hs : p.session.isSome = true) :
    (p.mapYard p.active f).yard = p.yard := by
  obtain ⟨c, hc⟩ := Option.isSome_iff_exists.mp hs
  rw [Plant.active_of_some hc, Plant.mapYard_copy hc]

theorem Plant.mapYard_isSome (p : Plant) (sd : Side) (f : Yard → Yard) :
    (p.mapYard sd f).session.isSome = p.session.isSome := by
  cases sd with
  | real => rfl
  | copy => cases hs : p.session <;> simp [Plant.mapYard, Plant.setYard, hs]

end

/-! ## SET CLOCK (O18) -/

/-- Settles O18: the clock is written, and the placing of the list follows. -/
theorem setClockWritesTheClock : Obligations.SetClockWritesTheClock := by
  unfold Obligations.SetClockWritesTheClock
  intro s port tag minute second hears hminute hsecond hquiet
  have hp : (s.answered port TelegramKind.setClock.code tag .done).plant.quiet s.env := State.answered_quiet hquiet ..
  refine ⟨_, congrArg Host.Outcome.next (State.takeTelegram_event_quiet hears (a := .done) ?_ (by simp) rfl
    ((Plant.Cascade.refl _).setClock.quiet hp)), rfl, ?_⟩
  · simp [Config.lastMinute, Nat.not_lt.mpr hminute, Nat.not_lt.mpr hsecond]
  generalize hu : (s.answered port TelegramKind.setClock.code tag .done).plant = p
  have hcurrent : s.plant.current = p.current := by simp [← hu]
  have hsession : s.plant.session = p.session := by simp [← hu]
  have hyard : s.plant.yard = p.yard := by simp [← hu]
  let q := p.mapYard p.active fun y => { y with clock := ⟨true, minute, second, 0⟩ }
  have hq : q.RunOutOnly q.active (Plant.setClock s.env p minute second) := by
    have hactive : q.active = p.active := Plant.mapYard_active ..
    rw [hactive]
    exact .ite (Plant.RunOutOnly.refl p.active q).report.placeAll (Plant.RunOutOnly.refl p.active q).report.placeAll.askRound
  have hqc : q.current = { p.current with clock := ⟨true, minute, second, 0⟩ } := Plant.mapYard_current ..
  refine ⟨Plant.tablesOnly_trans (Plant.mapYard_tablesOnly ..) hq.tablesOnly, ?_, ?_, fun hs => ?_⟩
  · rw [Plant.unmarked_current, hq.current, hqc, hcurrent]
  · rw [Plant.unmarked_current, hcurrent, hq.currentTrams, hqc]
  · have hs' : p.session.isSome = true := hsession ▸ hs
    rw [Plant.unmarked_yard, hyard, hq.realYard ((Plant.mapYard_isSome ..).trans hs'), Plant.mapYard_active_yard _ _ hs']

/-! ## RUN-OUT CLEAR (O23) -/

/-- Settles O23: the filter takes the named trams, and the readiness worked after it keeps the rest. -/
theorem runOutClearRemoves : Obligations.RunOutClearRemoves := by
  unfold Obligations.RunOutClearRemoves
  intro s tag names hears hheld hcount hquiet u
  have hp : u.plant.quiet s.env := State.answered_quiet hquiet ..
  let q := u.plant.mapYard u.plant.active fun y => { y with runOut := y.runOut.filter fun e => !namesTram names e.tram }
  have hq : q.RunOutOnly q.active (q.workReadiness u.plant.active false) := by
    have hactive : q.active = u.plant.active := Plant.mapYard_active ..
    rw [hactive]
    exact (Plant.RunOutOnly.refl _ q).workReadiness
  have hqc : q.current = { s.plant.current with runOut := s.plant.current.runOut.filter fun e => !namesTram names e.tram } := by
    have hcurrent : s.plant.current = u.plant.current := by simp [u]
    rw [hcurrent]
    exact Plant.mapYard_current ..
  refine ⟨_, congrArg Host.Outcome.next (State.takeTelegram_event_quiet hears (a := .done) (p := q.workReadiness u.plant.active false)
    ?_ (by simp) rfl ((Plant.Cascade.refl _).mapYard.workReadiness.quiet hp)), rfl,
    Plant.tablesOnly_trans (Plant.mapYard_tablesOnly ..) hq.tablesOnly, ?_, ?_⟩
  · have hnames : tramNamesCountOk 16 names = true := by
      cases names with
      | all => rfl
      | list ns => simpa [tramNamesCountOk, countOk] using hcount ns rfl
    simp [hnames, hheld]
  · rw [Plant.unmarked_current, hq.current, hqc]
  · rw [Plant.unmarked_current, hq.currentTrams, hqc, List.filter_map]
    rfl

end Sys2Proof.Machine
end

section
/-! SUPPORT. An entry of the run-out list followed through placing and readiness, and RUN-OUT PLAN (R140, R145 to R147). -/

namespace Sys2Proof.Machine

open Sys2Proof

/-! ## The list of a side -/

theorem Yard.runOut?_def (y : Yard) (t : Nat) : y.runOut? t = findBy RunOut.tram t y.runOut := rfl

theorem Plant.mapRunOut_runOut (p : Plant) (sd : Side) (t : Nat) (f : RunOut → RunOut) :
    ((p.mapRunOut sd t f).yardOf sd).runOut = updBy RunOut.tram t f (p.yardOf sd).runOut := by
  rw [Plant.mapRunOut, Plant.yardOf_mapYard_self]

/-- The count of missed trams is not in a yard. -/
theorem Plant.missed_yardOf (q : Plant) (sd : Side) (st : RunOutState) :
    (if sd = .copy && st == .missed then q.mapSession fun c => { c with missed := c.missed + 1 } else q).yardOf sd =
      q.yardOf sd := by
  split
  · exact Plant.mapSession_yardOf (f := fun c => { c with missed := c.missed + 1 }) q (fun _ => rfl) sd
  · rfl

/-- What setting the state of a tram's entry makes of the list. -/
theorem Plant.setRunOutState_runOut (p : Plant) (sd : Side) (t : Nat) (st : RunOutState) :
    ((p.setRunOutState sd t st).yardOf sd).runOut = (p.yardOf sd).runOut ∨
      ((p.setRunOutState sd t st).yardOf sd).runOut =
        updBy RunOut.tram t (fun x => { x with state := st }) (p.yardOf sd).runOut := by
  unfold Plant.setRunOutState
  split
  · exact .inl rfl
  · split
    · exact .inl rfl
    · right
      simp only [Plant.report_yardOf, Plant.missed_yardOf]
      exact Plant.mapRunOut_runOut ..

/-- An entry whose state is set has that state, and is else as it was. -/
theorem Plant.setRunOutState_runOut? (p : Plant) (sd : Side) (t : Nat) (st : RunOutState) :
    ((p.setRunOutState sd t st).yardOf sd).runOut? t =
      ((p.yardOf sd).runOut? t).map fun x => { x with state := st } := by
  cases he : (p.yardOf sd).runOut? t with
  | none => simp [Plant.setRunOutState, he]
  | some e =>
    by_cases hst : e.state = st
    · subst hst
      simp [Plant.setRunOutState, he]
    · simp only [Plant.setRunOutState, he, if_neg hst, Plant.report_yardOf, Plant.missed_yardOf, Yard.runOut?_def,
        Plant.mapRunOut_runOut]
      rw [findBy_updBy_self _ _ _ _ (by simp)]
      rw [Yard.runOut?_def] at he
      rw [he]

theorem updBy_runOut?_ne {t m : Nat} {f : RunOut → RunOut} (hf : ∀ x, (f x).tram = x.tram) (h : m ≠ t) (l : List RunOut) :
    findBy RunOut.tram m (updBy RunOut.tram t f l) = findBy RunOut.tram m l :=
  findBy_updBy_ne _ _ _ (fun x hx => (hf x).trans hx) h

/-- The entries of other trams stay. -/
theorem Plant.setRunOutState_runOut?_ne (p : Plant) (sd : Side) {t m : Nat} (st : RunOutState) (h : m ≠ t) :
    ((p.setRunOutState sd t st).yardOf sd).runOut? m = (p.yardOf sd).runOut? m := by
  rw [Yard.runOut?_def, Yard.runOut?_def]
  rcases Plant.setRunOutState_runOut p sd t st with hl | hl <;> rw [hl]
  exact updBy_runOut?_ne (f := fun x => { x with state := st }) (fun _ => rfl) h _

/-- A state that is set leaves tram, departure and readiness of every entry. -/
theorem Plant.mem_setRunOutState {p : Plant} {sd : Side} {t : Nat} {st : RunOutState} {e : RunOut}
    (h : e ∈ ((p.setRunOutState sd t st).yardOf sd).runOut) :
    ∃ e' ∈ (p.yardOf sd).runOut, e'.tram = e.tram ∧ e'.departure = e.departure ∧ e'.readiness = e.readiness := by
  rcases Plant.setRunOutState_runOut p sd t st with hl | hl <;> rw [hl] at h
  · exact ⟨e, h, rfl, rfl, rfl⟩
  · obtain ⟨x, hx, rfl⟩ := List.mem_map.mp h
    refine ⟨x, hx, ?_⟩
    split <;> exact ⟨rfl, rfl, rfl⟩

/-! ## Readiness -/

theorem Yard.readinessOf_congr {y y' : Yard} (h : y'.roads = y.roads) : y'.readinessOf = y.readinessOf := by
  funext t d
  simp only [Yard.readinessOf, Yard.roadOfTram, h]

theorem Plant.RunOutOnly.readinessOf {sd : Side} {p q : Plant} (h : p.RunOutOnly sd q) :
    (q.yardOf sd).readinessOf = (p.yardOf sd).readinessOf :=
  Yard.readinessOf_congr (by rw [h.yard])

/-- A readiness that is handed to a tram's entry leaves the entries of other trams. -/
theorem Plant.handReadiness_runOut?_ne (p : Plant) (sd : Side) {t m : Nat} (r : Readiness) (h : m ≠ t) :
    ((p.handReadiness sd t r).yardOf sd).runOut? m = (p.yardOf sd).runOut? m := by
  have hmap : ((p.mapRunOut sd t fun e => { e with readiness := some r }).yardOf sd).runOut? m = (p.yardOf sd).runOut? m := by
    rw [Yard.runOut?_def, Plant.mapRunOut_runOut]
    exact updBy_runOut?_ne (f := fun e => { e with readiness := some r }) (fun _ => rfl) h _
  unfold Plant.handReadiness
  dsimp only
  rw [Plant.askRound_yardOf]
  split
  · split
    · rw [Plant.setRunOutState_runOut?_ne _ _ _ h, hmap]
    · exact hmap
  · exact hmap

/-- A tram whose entries have the readiness that the record gives is passed over. -/
theorem Plant.workReadiness_runOut? {p : Plant} {sd : Side} {t : Nat}
    (h : ∀ e ∈ (p.yardOf sd).runOut, e.tram = t → e.readiness = some ((p.yardOf sd).readinessOf t e.departure)) :
    ((p.workReadiness sd false).yardOf sd).runOut? t = (p.yardOf sd).runOut? t := by
  have hfold : ∀ (l : List RunOut) (q : Plant), p.RunOutOnly sd q →
      (∀ e ∈ l, e.tram = t → e.readiness = some ((p.yardOf sd).readinessOf t e.departure)) →
      ((l.foldl (fun q e =>
        let r := (q.yardOf sd).readinessOf e.tram e.departure
        if false || e.readiness != some r then q.handReadiness sd e.tram r else q) q).yardOf sd).runOut? t =
        (q.yardOf sd).runOut? t := by
    intro l
    induction l with
    | nil => exact fun _ _ _ => rfl
    | cons e l ih =>
      intro q hq hl
      rw [List.foldl_cons, ih _ (.ite hq.handReadiness hq) fun x hx => hl x (List.mem_cons_of_mem _ hx)]
      by_cases het : e.tram = t
      · have := hl e List.mem_cons_self het
        simp [het, hq.readinessOf, this]
      · split
        · exact Plant.handReadiness_runOut?_ne _ _ _ (Ne.symm het)
        · rfl
  exact hfold _ p (.refl sd p) h

/-! ## The place of a new entry -/

theorem mem_insertRunOut {e x : RunOut} {l : List RunOut} : x ∈ insertRunOut e l ↔ x = e ∨ x ∈ l := by
  induction l with
  | nil => simp [insertRunOut]
  | cons y l ih =>
    unfold insertRunOut
    split
    · simp
    · rw [List.mem_cons, ih, List.mem_cons]
      exact or_left_comm

theorem insertRunOut_length (e : RunOut) (l : List RunOut) : (insertRunOut e l).length = l.length + 1 := by
  induction l with
  | nil => rfl
  | cons y l ih =>
    unfold insertRunOut
    split <;> simp [ih]

theorem findBy_insertRunOut_ne {e : RunOut} {m : Nat} (h : m ≠ e.tram) (l : List RunOut) :
    findBy RunOut.tram m (insertRunOut e l) = findBy RunOut.tram m l := by
  induction l with
  | nil => simp [insertRunOut, findBy_cons, Ne.symm h]
  | cons y l ih =>
    unfold insertRunOut
    split
    · simp [findBy_cons, Ne.symm h]
    · simp only [findBy_cons, ih]

theorem findBy_insertRunOut_self {e : RunOut} {l : List RunOut} (h : findBy RunOut.tram e.tram l = none) :
    findBy RunOut.tram e.tram (insertRunOut e l) = some e := by
  induction l with
  | nil => simp [insertRunOut, findBy_cons]
  | cons y l ih =>
    rw [findBy_cons] at h
    split at h
    · cases h
    · next hy =>
      unfold insertRunOut
      split
      · simp [findBy_cons]
      · simp [findBy_cons, hy, ih h]

/-- The departure of a tram is read from the trams and departures of the list. -/
theorem Yard.departure_of_planned (y : Yard) (n : Nat) :
    (y.runOut? n).map RunOut.departure = (y.planned.find? fun x => x.1 == n).map Prod.snd := by
  rw [Yard.planned, List.find?_map, Option.map_map]
  rfl

/-! ## RUN-OUT PLAN (O22) -/

/-- The entry that RUN-OUT PLAN adds for a tram, before it is placed. -/
def newRunOut (y : Yard) (tram dep : Nat) : RunOut :=
  ⟨tram, departureOf dep, departureClamped dep, .waiting, some (y.readinessOf tram (departureOf dep)), none⟩

/-- The plant with the new entry of RUN-OUT PLAN inserted. -/
def Plant.withRunOut (p : Plant) (tram dep : Nat) : Plant :=
  p.mapYard p.active fun y => { y with runOut := insertRunOut (newRunOut y tram dep) y.runOut }

theorem Plant.planPair_of_absent {env : Env} {p : Plant} {tram dep : Nat} (h : p.current.runOut? tram = none) :
    Plant.planPair env p (tram, dep) = (Plant.placeEntry env (p.withRunOut tram dep) p.active tram).askRound p.active := by
  simp only [Plant.planPair, h]
  rfl

theorem Plant.withRunOut_yardOf (p : Plant) (tram dep : Nat) :
    (p.withRunOut tram dep).yardOf p.active =
      { p.current with runOut := insertRunOut (newRunOut p.current tram dep) p.current.runOut } :=
  Plant.yardOf_mapYard_self ..

/-- The new entry is placed by its window and its first readiness. -/
theorem Plant.placed_runOut? {env : Env} {p : Plant} {tram dep : Nat} (h : p.current.runOut? tram = none) :
    ((Plant.placeEntry env (p.withRunOut tram dep) p.active tram).yardOf p.active).runOut? tram =
      some { newRunOut p.current tram dep with
        state := placedState env.params p.current.clock (departureOf dep)
          (p.current.readinessOf tram (departureOf dep)).kind } := by
  have hnew : ((p.withRunOut tram dep).yardOf p.active).runOut? tram = some (newRunOut p.current tram dep) := by
    rw [Plant.withRunOut_yardOf]
    exact findBy_insertRunOut_self (e := newRunOut p.current tram dep) h
  unfold Plant.placeEntry
  simp only [hnew, Plant.setRunOutState_runOut?]
  rw [Plant.withRunOut_yardOf]
  rfl

/-- Each entry of the tram has its first readiness. -/
theorem Plant.placed_readiness {env : Env} {p : Plant} {tram dep : Nat} (h : p.current.runOut? tram = none) :
    ∀ e ∈ ((Plant.placeEntry env (p.withRunOut tram dep) p.active tram).yardOf p.active).runOut, e.tram = tram →
      e.readiness =
        some (((Plant.placeEntry env (p.withRunOut tram dep) p.active tram).yardOf p.active).readinessOf tram e.departure) := by
  intro e he het
  have hplace : (p.withRunOut tram dep).RunOutOnly p.active (Plant.placeEntry env (p.withRunOut tram dep) p.active tram) :=
    (Plant.RunOutOnly.refl _ _).placeEntry
  have hroads : ((p.withRunOut tram dep).yardOf p.active).readinessOf = p.current.readinessOf :=
    Yard.readinessOf_congr (by rw [Plant.withRunOut_yardOf])
  rw [hplace.readinessOf, hroads]
  have hfrom : ∃ e' ∈ ((p.withRunOut tram dep).yardOf p.active).runOut,
      e'.tram = e.tram ∧ e'.departure = e.departure ∧ e'.readiness = e.readiness := by
    unfold Plant.placeEntry at he
    dsimp only at he
    split at he
    · exact ⟨e, he, rfl, rfl, rfl⟩
    · exact Plant.mem_setRunOutState he
  obtain ⟨e', he', ht, hd, hr⟩ := hfrom
  rw [Plant.withRunOut_yardOf] at he'
  rcases mem_insertRunOut.mp he' with rfl | he'
  · rw [← hd, ← hr]
    rfl
  · exact absurd (ht.trans het) ((findBy_eq_none _).mp h e' he')

/-- Settles O22: the entry is inserted, placed, and passed over when the readiness of the list is worked. -/
theorem runOutPlanAddsEntry : Obligations.RunOutPlanAddsEntry := by
  unfold Obligations.RunOutPlanAddsEntry
  intro s tag tram dep hears hheld h1 h9999 habsent hlen hquiet u d ready
  have hp : u.plant.quiet s.env := State.answered_quiet hquiet ..
  have hcurrent : s.plant.current = u.plant.current := by simp [u]
  rw [hcurrent] at habsent hlen
  let q := u.plant.withRunOut tram dep
  let q1 := Plant.placeEntry s.env q u.plant.active tram
  let q2 := (q1.askRound u.plant.active).workReadiness u.plant.active false
  have hq : q.RunOutOnly u.plant.active q2 := (Plant.RunOutOnly.refl _ q).placeEntry.askRound.workReadiness
  have hactive : q.active = u.plant.active := Plant.mapYard_active ..
  have hyard : q2.current = q2.yardOf u.plant.active := by rw [Plant.current, hq.active, hactive]
  have hqyard := Plant.withRunOut_yardOf u.plant tram dep
  have hplanned : (q2.yardOf u.plant.active).planned = (q.yardOf u.plant.active).planned := hq.planned
  refine ⟨_, congrArg Host.Outcome.next (State.takeTelegram_event_quiet hears (p := q2) ?_ ?_ ?_ ?_), rfl, ?_, ?_, ?_,
    fun n hn => ?_, ?_⟩
  · have hfresh : s.plant.current.runOut? tram = none := hcurrent ▸ habsent
    have hroom : s.plant.current.runOut.length < 64 := hcurrent ▸ hlen
    simp [runOutPlanAnswer, countOk, hheld, tramInRange, inRange, h1, h9999, noRepeat, hfresh, Config.runOutCapacity,
      Nat.not_lt.mpr hroom, Answer.clamped]
  · dsimp only
    split <;> exact nofun
  · show ((Plant.planPair s.env u.plant (tram, dep)).workReadiness u.plant.active false) = q2
    rw [Plant.planPair_of_absent habsent]
  · exact ((Plant.Cascade.refl u.plant).mapYard.placeEntry.askRound.workReadiness).quiet hp
  · exact Plant.tablesOnly_trans (Plant.mapYard_tablesOnly ..) hq.tablesOnly
  · rw [Plant.unmarked_current, hyard, hcurrent]
    exact hq.yard.trans (congrArg (fun y : Yard => { y with runOut := (q2.yardOf u.plant.active).runOut }) hqyard)
  · rw [Plant.unmarked_current, hyard, hcurrent]
    refine (Plant.workReadiness_runOut? ?_).trans ?_
    · rw [Plant.askRound_yardOf]
      exact Plant.placed_readiness habsent
    · rw [Plant.askRound_yardOf]
      have hd : departureOf dep = d := rfl
      refine (Plant.placed_runOut? habsent).trans ?_
      rw [newRunOut, hd]
      rfl
  · rw [Plant.unmarked_current, hyard, hcurrent, Yard.departure_of_planned, hplanned, ← Yard.departure_of_planned, hqyard]
    exact congrArg (Option.map RunOut.departure) (findBy_insertRunOut_ne hn _)
  · rw [Plant.unmarked_current, hyard, hcurrent]
    have := congrArg List.length hplanned
    simp only [Yard.planned, List.length_map] at this
    rw [this, hqyard]
    exact insertRunOut_length ..

end Sys2Proof.Machine
end

section
/-! SUPPORT. The two resets (0.8, R8, R40, R44, R76, R125, R126, R155, R167, R183, R184). -/

namespace Sys2Proof.Machine

open Sys2Proof

/-! ## Reports that a reset may place -/

/-- A report that may be placed changes nothing beyond the queues of reports. -/
theorem Plant.reportIf_rest (p : Plant) (lost : Bool) (b : ReportBody) :
    p.reportIf lost b = { p with planOut := (p.reportIf lost b).planOut, deskOut := (p.reportIf lost b).deskOut } := by
  cases lost <;> rfl

/-- Settles O59: beyond the reports of lost stores, a cold reset is the part as `Plant.coldReset` enters it. -/
theorem coldResetStarts : Obligations.ColdResetStarts := by
  unfold Obligations.ColdResetStarts
  intro s c
  refine ⟨s.coldReset c, rfl, ?_⟩
  unfold State.coldReset
  dsimp only [State.mapPlant]
  rw [Plant.reportIf_rest, Plant.reportIf_rest, Plant.reportIf_rest, Plant.reportIf_rest]
  refine ⟨rfl, rfl, rfl, rfl, rfl, rfl, rfl, rfl, rfl, ?_, ?_, ?_, ?_, ?_, ?_, ?_, rfl, rfl, rfl, rfl, rfl, rfl, rfl, rfl, rfl,
    rfl, rfl, rfl, ?_⟩
  all_goals
    simp [Plant.coldReset, Yard.cold, loadRoads, freshLinks, Point.fresh, Track.fresh, Signal.fresh, State.env]

/-! ## Reports alone -/

/-- Beyond the queues of reports, a plant is as another. -/
def Plant.ReportsOnly (p q : Plant) : Prop := q = { p with planOut := q.planOut, deskOut := q.deskOut }

section
variable {env : Env} {p q r : Plant}

theorem Plant.ReportsOnly.refl (p : Plant) : p.ReportsOnly p := rfl

theorem Plant.ReportsOnly.trans (h : p.ReportsOnly q) (h' : q.ReportsOnly r) : p.ReportsOnly r :=
  Eq.trans h' (congrArg (fun z : Plant => { z with planOut := r.planOut, deskOut := r.deskOut }) h)

theorem Plant.ReportsOnly.report {sd : Side} {b : ReportBody} (h : p.ReportsOnly q) : p.ReportsOnly (q.report sd b) :=
  h.trans rfl

theorem Plant.ReportsOnly.ite {c : Prop} [Decidable c] (h : p.ReportsOnly q) (h' : p.ReportsOnly r) :
    p.ReportsOnly (if c then q else r) := by split <;> assumption

theorem Plant.ReportsOnly.foldl {α : Type} {f : Plant → α → Plant} (hf : ∀ r x, p.ReportsOnly r → p.ReportsOnly (f r x))
    (l : List α) (h : p.ReportsOnly q) : p.ReportsOnly (l.foldl f q) := by
  induction l generalizing q with
  | nil => exact h
  | cons x l ih => exact ih (hf q x h)

theorem Plant.ReportsOnly.yard (h : p.ReportsOnly q) : q.yard = p.yard := by rw [h]

theorem Plant.ReportsOnly.session (h : p.ReportsOnly q) : q.session = p.session := by rw [h]

theorem Plant.ReportsOnly.yardOf (h : p.ReportsOnly q) (sd : Side) : q.yardOf sd = p.yardOf sd :=
  Plant.yardOf_congr h.yard h.session sd

theorem Plant.ReportsOnly.runOutOnly {sd : Side} (h : p.ReportsOnly q) : p.RunOutOnly sd q where
  rest := by rw [h]
  yard := by rw [h.yardOf]
  planned := by rw [h.yardOf]
  real _ := h.session
  copy _ _ := h.yard
  session := by rw [h.session]

end

/-! ## Warm reset -/

/-- The reports of a warm reset, its run-out list and the berth roads that it shakes: the plant from which only the run-out list
changes. -/
theorem Plant.warmReports_runOutOnly (env : Env) (p before : Plant) :
    ∃ q r : Plant, p.ReportsOnly q ∧ r.RunOutOnly .real (Plant.warmReports env p before) ∧
      (r = q ∧ (∀ x ∈ p.yard.roads, x.verified = true → x.warm.verified = true) ∨
        r = q.setRoads .real (p.yard.roads.map Road.warm)) := by
  let trained := p.reportTrained before.links
  let q := if trained.mode = before.mode then trained else trained.report .real (.controlMode trained.mode .reset)
  have htrained : p.ReportsOnly trained := .foldl (fun _ _ h => h.report) _ (.refl p)
  have hq : p.ReportsOnly q := .ite htrained htrained.report
  have hroads : q.yard.roads = p.yard.roads := congrArg Yard.roads hq.yard
  let shaken := (q.yard.roads.filter fun r => r.verified && !r.warm.verified).map Road.berth
  refine ⟨q, if shaken.isEmpty then q else q.setRoads .real (q.yard.roads.map Road.warm), hq, ?_, ?_⟩
  · exact .workReadiness (.foldl (fun _ _ h => h.placeEntry) _ (.foldl (fun _ _ h => h.report) _ (.refl _ _)))
  · by_cases hs : shaken.isEmpty = true
    · refine .inl ⟨if_pos hs, fun x hx hv => ?_⟩
      rw [List.isEmpty_iff, List.map_eq_nil_iff, List.filter_eq_nil_iff] at hs
      simpa [hv] using hs x (hroads ▸ hx)
    · exact .inr ((if_neg hs).trans (by rw [hroads]))

theorem Road.warm_verified {r : Road} (h : ∃ e ∈ r.entries, e.state ≠ .stabled) : r.warm.verified = false := by
  have hany : (r.entries.any fun e => e.state != .stabled) = true := by simpa using h
  rw [Road.warm, if_pos hany]

theorem Road.warm_entries (r : Road) : (r.warm.berth, r.warm.entries) = (r.berth, r.entries) := by
  unfold Road.warm
  split <;> rfl

/-- What the reports of a warm reset leave of a plant. -/
structure Plant.Warmed (p q : Plant) : Prop where
  rest : q = { p with
    planOut := q.planOut, deskOut := q.deskOut, yard := q.yard, session := q.session, keptRoads := q.keptRoads,
    wantRound := q.wantRound }
  session : q.session = p.session
  yard : q.yard = { p.yard with roads := q.yard.roads, runOut := q.yard.runOut }
  entries : q.yard.roads.map (fun r => (r.berth, r.entries)) = p.yard.roads.map fun r => (r.berth, r.entries)
  shaken : ∀ r ∈ q.yard.roads, (∃ e ∈ r.entries, e.state ≠ .stabled) → r.verified = false

theorem Plant.Warmed.runOutOnly {p q r : Plant} (h : p.Warmed q) (h' : q.RunOutOnly .real r) : p.Warmed r := by
  have hyard : r.yard = { q.yard with runOut := r.yard.runOut } := h'.yard
  have hroads : r.yard.roads = q.yard.roads := by rw [hyard]
  have hkept : r.keptRoads = q.keptRoads := by rw [h'.rest]
  refine ⟨?_, (h'.real rfl).trans h.session, ?_, by rw [hroads, h.entries], by rw [hroads]; exact h.shaken⟩
  · rw [hkept]
    exact h'.rest.trans (congrArg (fun z : Plant =>
      { z with planOut := r.planOut, deskOut := r.deskOut, yard := r.yard, session := r.session, wantRound := r.wantRound })
      h.rest)
  · rw [hyard, h.yard]

/-- Beyond reports, a warm reset's last part changes the verification of the berth roads and the run-out list. -/
theorem Plant.warmReports_warmed (env : Env) (p before : Plant) : p.Warmed (Plant.warmReports env p before) := by
  obtain ⟨q, r, hq, hr, hsame | hset⟩ := Plant.warmReports_runOutOnly env p before
  · obtain ⟨rfl, hshaken⟩ := hsame
    refine Plant.Warmed.runOutOnly ⟨by rw [hq], hq.session, by rw [hq.yard], by rw [hq.yard], ?_⟩ hr
    intro x hx hany
    cases hv : x.verified with
    | false => rfl
    | true =>
      have hwarm := hshaken x (hq.yard ▸ hx) hv
      rw [Road.warm_verified hany] at hwarm
      cases hwarm
  · have hyard : r.yard = { q.yard with roads := p.yard.roads.map Road.warm } := by rw [hset]; rfl
    refine Plant.Warmed.runOutOnly ⟨by rw [hset, hq]; rfl, by rw [hset]; exact hq.session, by rw [hyard, hq.yard], ?_, ?_⟩ hr
    · rw [hyard]
      exact List.map_map.trans (List.map_congr_left fun x _ => x.warm_entries)
    · intro x hx hany
      rw [hyard] at hx
      obtain ⟨x, -, rfl⟩ := List.mem_map.mp hx
      exact Road.warm_verified ((Prod.mk.inj x.warm_entries).2 ▸ hany)

/-- The plant of a warm reset before the reports of it (0.8). -/
def Plant.warmStart (env : Env) (p : Plant) : Plant :=
  let q := { (if p.session.isSome then p.sendAllUp .releaseSafe else p) with session := none }.storeFreeze.1
  Plant.startHold env { q with
    planOut := .reset, deskOut := .reset, links := freshLinks q.now, linkSent := q.linkSent ++ trainingRequests,
    yard := q.yard.warm, slots := freeSlots, queue := [], mode := modeOf env.options, permit := none,
    silence := silenceOf env.options q.now, noBerthTram := none, wantScan := false, wantRound := false }

theorem Plant.warmReset_eq (env : Env) (p : Plant) : Plant.warmReset env p = Plant.warmReports env (Plant.warmStart env p) p :=
  rfl

/-- Outside a session, the record of a freeze goes to the real yard's fault list. -/
theorem Plant.storeFreeze_real {p : Plant} (h : p.session = none) :
    ∃ f, p.storeFreeze.1 = { p with yard := { p.yard with faults := f }, freeze := none } := by
  unfold Plant.storeFreeze
  split
  · next hf => exact ⟨p.yard.faults, by rw [← hf]⟩
  · simp only [Plant.active_of_none h]
    exact ⟨_, rfl⟩

/-- A frame that is sent on every UP link. -/
theorem Plant.sendAllUp_eq (p : Plant) (f : LinkFrame) :
    p.sendAllUp f = { p with
      links := (p.sendAllUp f).links
      linkSent := p.linkSent ++ (p.links.filter fun l => l.state == .up).map fun l => (l.number, f) } := by
  unfold Plant.sendAllUp
  generalize p.links.filter (fun l => l.state == .up) = l
  induction l generalizing p with
  | nil => simp
  | cons x l ih =>
    rw [List.foldl_cons, ih]
    simp [Plant.send]

theorem Plant.warmStart_eq (env : Env) (p : Plant) :
    ∃ f sent, Plant.warmStart env p =
      { p with
        planOut := .reset, deskOut := .reset, links := freshLinks p.now, linkSent := sent,
        yard := { p.yard.warm with faults := f }, session := none, freeze := none, slots := freeSlots, queue := [],
        mode := modeOf env.options, permit := none, silence := silenceOf env.options p.now, noBerthTram := none,
        hold := some (p.now + 1000 * env.options.hold), wantScan := false, wantRound := false } := by
  obtain ⟨q, hq, links, sent, hsent⟩ : ∃ q : Plant, q = (if p.session.isSome then p.sendAllUp .releaseSafe else p) ∧
      ∃ links sent, q = { p with links := links, linkSent := sent } := by
    refine ⟨_, rfl, ?_⟩
    split
    · exact ⟨_, _, Plant.sendAllUp_eq ..⟩
    · exact ⟨_, _, rfl⟩
  obtain ⟨f, hf⟩ := Plant.storeFreeze_real (p := { q with session := none }) rfl
  refine ⟨f, sent ++ trainingRequests, ?_⟩
  unfold Plant.warmStart
  simp only [← hq, hf, Plant.startHold]
  rw [hsent]
  rfl

/-- A plant with an empty queue and the restart hold running has nothing to scan, and the sequencer rests (R75, R99, R150). -/
theorem Plant.quiet_of_hold {env : Env} {p : Plant} (hq : p.queue = []) (hh : p.hold.isSome = true) : p.quiet env :=
  ⟨hq, by simp [Plant.automatic, Plant.holding, hh]⟩

/-- What a warm reset makes of the part, whichever its cause. -/
theorem State.warmReset_spec (s : State) (cause : ResetCause) :
    ∃ f sent q, (∃ env : Env, env.options = s.settings.stored.options ∧
      Plant.Warmed
        { s.plant with
          planOut := .reset, deskOut := .reset, links := freshLinks s.plant.now, linkSent := sent,
          yard := { s.plant.yard.warm with faults := f }, session := none, freeze := none, slots := freeSlots, queue := [],
          mode := modeOf env.options, permit := none, silence := silenceOf env.options s.plant.now, noBerthTram := none,
          hold := some (s.plant.now + 1000 * env.options.hold), wantScan := false, wantRound := false } q) ∧
      s.warmReset cause =
        { s with
          store := { s.store with staging := none }, settings := s.settings.afterReset, planIn := .reset, deskIn := .reset,
          resetCause := cause, resetDue := false, plant := q.unmarked } := by
  let t : State :=
    { s with
      store := { s.store with staging := none }, settings := s.settings.afterReset, planIn := .reset, deskIn := .reset,
      resetCause := cause, resetDue := false }
  obtain ⟨f, sent, hstart⟩ := Plant.warmStart_eq t.env s.plant
  have hwarm : (Plant.warmStart t.env s.plant).Warmed (Plant.warmReset t.env s.plant) := Plant.warmReports_warmed ..
  rw [hstart] at hwarm
  refine ⟨f, sent, _, ⟨t.env, rfl, hwarm⟩, State.event_of_quiet (s := t) rfl ?_⟩
  exact Plant.quiet_of_hold (by rw [hwarm.rest]) (by rw [hwarm.rest]; rfl)

/-- Settles O60. -/
theorem warmResetStarts : Obligations.WarmResetStarts := by
  unfold Obligations.WarmResetStarts
  intro s c cause hc
  obtain ⟨f, sent, q, ⟨env, henv, hq⟩, hs⟩ := s.warmReset_spec cause
  have hexec : exec c s = .next (s.warmReset cause) := by
    rcases hc with ⟨rfl, rfl⟩ | ⟨rfl, rfl, hdue⟩
    · rfl
    · exact congrArg Host.Outcome.next (if_pos hdue)
  refine ⟨_, hexec, ?_⟩
  rw [hs]
  have hyard := hq.yard
  have hrest := hq.rest
  refine ⟨rfl, rfl, rfl, rfl, rfl, rfl, rfl, rfl, ?_, ?_, ?_, hq.shaken, ?_, hq.entries, ?_, ?_, ?_, ?_, ?_, ?_, ?_, ?_, ?_, ?_⟩
  · show ∀ x ∈ q.yard.points, _
    rw [hyard]
    simp [Yard.warm, Point.warm]
  · show ∀ x ∈ q.yard.tracks, _
    rw [hyard]
    simp [Yard.warm, Track.fresh]
  · show ∀ x ∈ q.yard.signals, _
    rw [hyard]
    simp [Yard.warm, Signal.fresh]
  · show q.yard.points.map _ = _
    rw [hyard]
    simp [Yard.warm, Point.warm]
  · show ∀ x ∈ q.yard.arrivals, _
    rw [hyard]
    simp [Yard.warm]
  · show q.yard.clock = _
    rw [hyard]
    rfl
  · exact congrArg Plant.slots hrest
  · exact congrArg Plant.queue hrest
  · exact hq.session
  · exact congrArg Plant.freeze hrest
  · exact congrArg Plant.permit hrest
  · exact (congrArg Plant.hold hrest).trans (by rw [henv]; rfl)
  · exact (congrArg Plant.mode hrest).trans (by rw [henv])
  · show ∀ l ∈ q.links, _
    rw [hrest]
    simp [freshLinks]

end Sys2Proof.Machine
end

section
/-! SUPPORT. What the rules of the stabling record change of a plant: the roads, the arrival queue, the expectation list and the
run-out list of one side (R113 to R121, R123 to R127). -/

namespace Sys2Proof.Machine

open Sys2Proof

/-- A session but for its copies and its counts. -/
def Session.uncounted (c : Session) : Session := { c with copy := .empty, missed := 0, arrivals := 0, departures := 0 }

/-- What the rules of the stabling record of a side change of a plant. -/
structure Plant.BerthsOnly (sd : Side) (p q : Plant) : Prop where
  rest : q = { p with
    planOut := q.planOut, deskOut := q.deskOut, yard := q.yard, session := q.session, noBerthTram := q.noBerthTram,
    keptRoads := q.keptRoads, wantRound := q.wantRound }
  yard : q.yardOf sd = { p.yardOf sd with
    roads := (q.yardOf sd).roads, arrivals := (q.yardOf sd).arrivals, expectations := (q.yardOf sd).expectations,
    runOut := (q.yardOf sd).runOut }
  real : sd = .real → q.session = p.session
  copy : sd = .copy → p.session.isSome = true → q.yard = p.yard
  session : q.session.map Session.uncounted = p.session.map Session.uncounted

theorem Plant.BerthsOnly.refl (sd : Side) (p : Plant) : Plant.BerthsOnly sd p p :=
  ⟨rfl, rfl, fun _ => rfl, fun _ _ => rfl, rfl⟩

section
variable {env : Env} {p q r : Plant} {sd : Side}

theorem Plant.BerthsOnly.isSome (h : p.BerthsOnly sd q) : q.session.isSome = p.session.isSome := by
  simpa using congrArg Option.isSome h.session

theorem Plant.BerthsOnly.trans (h : p.BerthsOnly sd q) (h' : q.BerthsOnly sd r) : p.BerthsOnly sd r where
  rest := h'.rest.trans (congrArg (fun z : Plant =>
    { z with planOut := r.planOut, deskOut := r.deskOut, yard := r.yard, session := r.session, noBerthTram := r.noBerthTram,
             keptRoads := r.keptRoads, wantRound := r.wantRound }) h.rest)
  yard := h'.yard.trans (congrArg (fun z : Yard =>
    { z with roads := (r.yardOf sd).roads, arrivals := (r.yardOf sd).arrivals, expectations := (r.yardOf sd).expectations,
             runOut := (r.yardOf sd).runOut }) h.yard)
  real hs := (h'.real hs).trans (h.real hs)
  copy hs hp := (h'.copy hs (h.isSome.trans hp)).trans (h.copy hs hp)
  session := h'.session.trans h.session

theorem Plant.RunOutOnly.berthsOnly (h : p.RunOutOnly sd q) : p.BerthsOnly sd q where
  rest := by
    have hkept : q.keptRoads = p.keptRoads := by rw [h.rest]
    have htram : q.noBerthTram = p.noBerthTram := by rw [h.rest]
    rw [hkept, htram]
    exact h.rest
  yard := by
    have hyard := h.yard
    rw [hyard]
  real := h.real
  copy := h.copy
  session := by
    have := congrArg (Option.map Session.uncounted) h.session
    rw [Option.map_map, Option.map_map] at this
    exact this

theorem Plant.BerthsOnly.runOut (h : p.BerthsOnly sd q) (h' : q.RunOutOnly sd r) : p.BerthsOnly sd r := h.trans h'.berthsOnly

theorem Plant.BerthsOnly.active (h : p.BerthsOnly sd q) : q.active = p.active := by simp only [Plant.active, h.isSome]

theorem Plant.BerthsOnly.ite {c : Prop} [Decidable c] (h : p.BerthsOnly sd q) (h' : p.BerthsOnly sd r) :
    p.BerthsOnly sd (if c then q else r) := by split <;> assumption

theorem Plant.BerthsOnly.foldl {α : Type} {f : Plant → α → Plant} (hf : ∀ r x, p.BerthsOnly sd r → p.BerthsOnly sd (f r x))
    (l : List α) (h : p.BerthsOnly sd q) : p.BerthsOnly sd (l.foldl f q) := by
  induction l generalizing q with
  | nil => exact h
  | cons x l ih => exact ih (hf q x h)

/-! ## The changes that the rules are made of -/

/-- A change of the yard that keeps all but the stabling record and the run-out list. -/
theorem Plant.BerthsOnly.mapYard {f : Yard → Yard} (h : p.BerthsOnly sd q)
    (hf : ∀ y, f y = { y with
      roads := (f y).roads, arrivals := (f y).arrivals, expectations := (f y).expectations, runOut := (f y).runOut }) :
    p.BerthsOnly sd (q.mapYard sd f) := by
  refine h.trans ⟨?_, ?_, ?_, ?_, ?_⟩
  · cases sd with
    | real => rfl
    | copy => cases hs : q.session <;> simp [Plant.mapYard, Plant.setYard, hs]
  · rw [Plant.yardOf_mapYard_self]
    exact hf _
  · rintro rfl; rfl
  · rintro rfl hs
    obtain ⟨c, hc⟩ := Option.isSome_iff_exists.mp hs
    rw [Plant.mapYard_copy hc]
  · cases sd with
    | real => rfl
    | copy =>
      cases hs : q.session with
      | none => simp [Plant.mapYard, Plant.setYard, hs]
      | some c => rw [Plant.mapYard_copy hs]; rfl

theorem Plant.BerthsOnly.report {sd' : Side} {b : ReportBody} (h : p.BerthsOnly sd q) : p.BerthsOnly sd (q.report sd' b) :=
  h.runOut (.report (.refl sd q))

theorem Plant.BerthsOnly.askRound {sd' : Side} (h : p.BerthsOnly sd q) : p.BerthsOnly sd (q.askRound sd') :=
  h.runOut (.askRound (.refl sd q))

theorem Plant.BerthsOnly.setRoads {l : List Road} (h : p.BerthsOnly sd q) : p.BerthsOnly sd (q.setRoads sd l) := by
  have hmap := h.mapYard (f := fun y => { y with roads := l }) fun _ => rfl
  unfold Plant.setRoads
  exact .ite (hmap.trans ⟨rfl, rfl, fun _ => rfl, fun _ _ => rfl, rfl⟩) hmap

theorem Plant.BerthsOnly.mapRoad {b : Berth} {f : Road → Road} (h : p.BerthsOnly sd q) :
    p.BerthsOnly sd (q.mapRoad sd b f) := h.setRoads

theorem Plant.BerthsOnly.mapRoads {a b : Berth} {f g : Road → Road} (h : p.BerthsOnly sd q) :
    p.BerthsOnly sd (q.mapRoads sd a f b g) := h.setRoads

theorem Plant.BerthsOnly.setArrivals {l : List Arrival} (h : p.BerthsOnly sd q) : p.BerthsOnly sd (q.setArrivals sd l) := by
  have hmap := h.mapYard (f := fun y => { y with arrivals := l }) fun _ => rfl
  unfold Plant.setArrivals
  exact .ite (hmap.trans ⟨rfl, rfl, fun _ => rfl, fun _ _ => rfl, rfl⟩) hmap

/-- A change of the counts of a session. -/
theorem Plant.BerthsOnly.mapSession {f : Session → Session} (h : p.BerthsOnly .copy q)
    (hf : ∀ c, (f c).uncounted = c.uncounted) (hcopy : ∀ c, (f c).copy = c.copy) : p.BerthsOnly .copy (q.mapSession f) := by
  have hyard := Plant.mapSession_yardOf q (f := f) hcopy .copy
  refine h.trans ⟨rfl, by rw [hyard], nofun, fun _ _ => rfl, ?_⟩
  simp only [Plant.mapSession, Option.map_map]
  exact congrFun (congrArg Option.map (funext hf)) _

/-! ## The rules -/

theorem Plant.BerthsOnly.passBerthChange (h : p.BerthsOnly sd q) : p.BerthsOnly sd (q.passBerthChange sd) :=
  h.runOut (.passBerthChange (.refl sd q))

theorem Plant.BerthsOnly.noteStabled {t : Nat} (h : p.BerthsOnly sd q) : p.BerthsOnly sd (Plant.noteStabled env q sd t) :=
  h.runOut (.noteStabled (.refl sd q))

theorem Plant.BerthsOnly.noteDeparting {t : Nat} (h : p.BerthsOnly sd q) : p.BerthsOnly sd (q.noteDeparting sd t) :=
  h.runOut (.noteDeparting (.refl sd q))

theorem Plant.BerthsOnly.noteGone {t : Nat} (h : p.BerthsOnly sd q) : p.BerthsOnly sd (q.noteGone sd t) :=
  h.runOut (.noteGone (.refl sd q))

theorem Plant.BerthsOnly.departureFate {t n : Nat} {f : Fate} (h : p.BerthsOnly sd q) :
    p.BerthsOnly sd (Plant.departureFate env q sd t n f) := h.runOut (.departureFate (.refl sd q))

theorem Plant.BerthsOnly.clearReservedRoad {b : Berth} (h : p.BerthsOnly sd q) :
    p.BerthsOnly sd (q.clearReservedRoad sd b) := by
  cases b with
  | road n => exact .ite (h.mapYard fun _ => rfl).askRound h
  | headshunt n => exact h

theorem Plant.BerthsOnly.unverify {b : Berth} {c : VerificationCause} (h : p.BerthsOnly sd q) :
    p.BerthsOnly sd (q.unverify sd b c) := by
  unfold Plant.unverify
  split
  · exact .ite h.mapRoad.clearReservedRoad.passBerthChange.report h
  · exact h

theorem Plant.BerthsOnly.unverifyAll {l : List Berth} {c : VerificationCause} (h : p.BerthsOnly sd q) :
    p.BerthsOnly sd (q.unverifyAll sd l c) := .foldl (fun _ _ h => h.unverify) l h

/-! ## Places and reserved roads -/

/-- The berth roads, the expected trams and the trams of the arrival queue of a side stay, and the record kept with them. -/
structure Plant.PlacesKept (sd : Side) (p q : Plant) : Prop where
  roads : (q.yardOf sd).roads = (p.yardOf sd).roads
  expectations : (q.yardOf sd).expectations = (p.yardOf sd).expectations
  arrivals : (q.yardOf sd).arrivals.map Arrival.tram = (p.yardOf sd).arrivals.map Arrival.tram
  kept : q.keptRoads = p.keptRoads

theorem Plant.PlacesKept.refl (sd : Side) (p : Plant) : Plant.PlacesKept sd p p := ⟨rfl, rfl, rfl, rfl⟩

theorem Plant.PlacesKept.trans (h : p.PlacesKept sd q) (h' : q.PlacesKept sd r) : p.PlacesKept sd r :=
  ⟨h'.roads.trans h.roads, h'.expectations.trans h.expectations, h'.arrivals.trans h.arrivals, h'.kept.trans h.kept⟩

theorem Plant.PlacesKept.runOut (h : p.PlacesKept sd q) (h' : q.RunOutOnly sd r) : p.PlacesKept sd r :=
  h.trans ⟨by rw [h'.yard], by rw [h'.yard], by rw [h'.yard], by rw [h'.rest]⟩

theorem Plant.PlacesKept.foldl {α : Type} {f : Plant → α → Plant} (hf : ∀ r x, p.PlacesKept sd r → p.PlacesKept sd (f r x))
    (l : List α) (h : p.PlacesKept sd q) : p.PlacesKept sd (l.foldl f q) := by
  induction l generalizing q with
  | nil => exact h
  | cons x l ih => exact ih (hf q x h)

theorem Plant.PlacesKept.clearReservedRoad {b : Berth} (h : p.PlacesKept sd q) :
    p.PlacesKept sd (q.clearReservedRoad sd b) := by
  cases b with
  | headshunt n => exact h
  | road n =>
    unfold Plant.clearReservedRoad
    dsimp only
    split
    · refine (h.trans ?_).runOut (.askRound (.refl sd _))
      refine ⟨by rw [Plant.yardOf_mapYard_self], by rw [Plant.yardOf_mapYard_self], ?_, by simp⟩
      rw [Plant.yardOf_mapYard_self, List.map_map]
      refine List.map_congr_left fun a _ => ?_
      simp only [Function.comp_apply]
      split <;> rfl
    · exact h

theorem Plant.setArrivals_yardOf (p : Plant) (sd : Side) (l : List Arrival) :
    (p.setArrivals sd l).yardOf sd = { p.yardOf sd with arrivals := l } := by
  have hmap : (p.mapYard sd fun y => { y with arrivals := l }).yardOf sd = { p.yardOf sd with arrivals := l } :=
    Plant.yardOf_mapYard_self ..
  unfold Plant.setArrivals
  dsimp only
  split
  · exact (Plant.yardOf_congr rfl rfl sd).trans hmap
  · exact hmap

theorem Plant.setRoads_yardOf (p : Plant) (sd : Side) (l : List Road) :
    (p.setRoads sd l).yardOf sd = { p.yardOf sd with roads := l } := by
  have hmap : (p.mapYard sd fun y => { y with roads := l }).yardOf sd = { p.yardOf sd with roads := l } :=
    Plant.yardOf_mapYard_self ..
  unfold Plant.setRoads
  dsimp only
  split
  · exact (Plant.yardOf_congr rfl rfl sd).trans hmap
  · exact hmap

theorem Plant.BerthsOnly.current (h : p.BerthsOnly p.active q) : q.current = { p.current with
    roads := q.current.roads, arrivals := q.current.arrivals, expectations := q.current.expectations,
    runOut := q.current.runOut } := by
  have hq : q.current = q.yardOf p.active := by rw [Plant.current, h.active]
  rw [hq]
  exact h.yard

end

/-! ## ROAD CENSUS (O37) -/

/-- The roads of a record after the census of one of them: it holds the trams listed, and the others lose them. -/
def censusRoads (roads : List Road) (b : Berth) (entries : List BerthEntry) (trams : List Nat) : List Road :=
  roads.map fun r => if r.berth == b then { r with entries := entries, verified := true } else r.lose trams

theorem Road.lose_berth (trams : List Nat) (r : Road) : (r.lose trams).berth = r.berth := by
  unfold Road.lose
  split <;> rfl

theorem Road.lose_entries (trams : List Nat) (r : Road) : ∀ e ∈ (r.lose trams).entries, e.tram ∉ trams := by
  unfold Road.lose
  split
  · simp
  · next h => simpa using h

/-- A road found by its berth, in a list whose roads keep their berths. -/
theorem find_berth_map {f : Road → Road} (hf : ∀ r, (f r).berth = r.berth) (b : Berth) (l : List Road) :
    ((l.map f).find? fun r => r.berth == b) = (l.find? fun r => r.berth == b).map f := by
  rw [List.find?_map]
  exact congrArg (Option.map f) (congrArg (List.find? · l) (funext fun r => by simp [hf]))

theorem censusRoads_berth (roads : List Road) (b : Berth) (entries : List BerthEntry) (trams : List Nat) {old : Road}
    (h : (roads.find? fun r => r.berth == b) = some old) :
    ((censusRoads roads b entries trams).find? fun r => r.berth == b) =
      some { old with entries := entries, verified := true } := by
  have hold : (old.berth == b) = true := List.find?_some (p := fun r : Road => r.berth == b) h
  rw [censusRoads, find_berth_map, h, Option.map_some, if_pos hold]
  intro r
  split
  · rfl
  · exact r.lose_berth trams

theorem censusRoads_others {roads : List Road} {b : Berth} {entries : List BerthEntry} {trams : List Nat} :
    ∀ r ∈ censusRoads roads b entries trams, r.berth ≠ b → ∀ e ∈ r.entries, e.tram ∉ trams := by
  intro r hr hb
  obtain ⟨x, -, rfl⟩ := List.mem_map.mp hr
  by_cases hx : (x.berth == b) = true
  · simp only [hx, if_true] at hb
    exact absurd (by simpa using hx) hb
  · simp only [hx]
    exact x.lose_entries trams

/-- The plant in which a census has written the record, before what follows from the change. -/
def Plant.censusTaken (env : Env) (p : Plant) (b : Berth) (trams : List Nat) : Plant :=
  ((p.setArrivals p.active (p.current.arrivals.filter fun a => !trams.contains a.tram)).mapYard p.active fun y =>
    { y with expectations := y.expectations.filter fun x => !trams.contains x.tram }).setRoads p.active
      (censusRoads p.current.roads b (censusEntries env (p.time p.active) trams) trams)

theorem Plant.censusTaken_yard (env : Env) (p : Plant) (b : Berth) (trams : List Nat) :
    (Plant.censusTaken env p b trams).yardOf p.active =
      { p.current with
        roads := censusRoads p.current.roads b (censusEntries env (p.time p.active) trams) trams
        arrivals := p.current.arrivals.filter fun a => !trams.contains a.tram
        expectations := p.current.expectations.filter fun x => !trams.contains x.tram } := by
  rw [Plant.censusTaken, Plant.setRoads_yardOf, Plant.yardOf_mapYard_self, Plant.setArrivals_yardOf]
  rfl

/-- What follows the change of the record by a census keeps the places of the trams. -/
theorem Plant.census_placesKept {env : Env} {p : Plant} {b : Berth} {trams : List Nat} {old : Road}
    (h : p.current.road? b = some old) :
    (Plant.censusTaken env p b trams).PlacesKept p.active (Plant.census env p b trams) := by
  unfold Plant.census
  rw [h]
  dsimp only
  refine .foldl (fun _ _ h => h.runOut (.report (.refl _ _))) _ ?_
  refine .runOut ?_ (.report (.report (.foldl (fun _ _ h => h.noteStabled) _ (.passBerthChange (.refl _ _)))))
  exact .foldl (fun _ _ h => h.clearReservedRoad) _ (.refl _ _)

theorem Plant.census_berthsOnly (env : Env) (p : Plant) (b : Berth) (trams : List Nat) :
    p.BerthsOnly p.active (Plant.census env p b trams) := by
  unfold Plant.census
  split
  · exact .refl _ _
  · refine .foldl (fun _ _ h => h.report) _ (.report (.report (.foldl (fun _ _ h => h.noteStabled) _ (.passBerthChange ?_))))
    exact .foldl (fun _ _ h => h.clearReservedRoad) _
      (((Plant.BerthsOnly.refl _ p).setArrivals.mapYard fun _ => rfl).setRoads)

@[simp] theorem State.dispatch_slotNames (s : State) (port : Port) (kind tag : Byte) (env : Env) (b : Berth) :
    (s.dispatch port kind tag).plant.slotNames env b = s.plant.slotNames env b := by cases port <;> rfl

@[simp] theorem State.dispatch_queueNames (s : State) (port : Port) (kind tag : Byte) (env : Env) (b : Berth) :
    (s.dispatch port kind tag).plant.queueNames env b = s.plant.queueNames env b := by cases port <;> rfl

@[simp] theorem State.dispatch_tramCarried (s : State) (port : Port) (kind tag : Byte) :
    (s.dispatch port kind tag).plant.tramCarried = s.plant.tramCarried := by cases port <;> rfl

/-- Settles O37: the census writes the record, and what follows keeps the places. -/
theorem roadCensusWritesTheRoad : Obligations.RoadCensusWritesTheRoad := by
  unfold Obligations.RoadCensusWritesTheRoad
  intro s port tag b trams old hears hpermit hheld hroad hrange hcap hnodup hnames hcarried hfits hquiet u
  have hp : u.plant.quiet s.env := State.answered_quiet hquiet ..
  have hcurrent : s.plant.current = u.plant.current := by simp [u]
  have hactive : s.plant.active = u.plant.active := by simp [u]
  have htime : s.plant.time s.plant.active = u.plant.time u.plant.active := by
    rw [hactive]
    exact congrArg (fun y : Yard => y.clock.time) (Plant.yardOf_congr (by simp [u]) (by simp [u]) _)
  have hroad' : u.plant.current.road? b = some old := hcurrent ▸ hroad
  let q := Plant.census s.env u.plant b trams
  have hq : u.plant.BerthsOnly u.plant.active q := Plant.census_berthsOnly ..
  have hkept := Plant.census_placesKept (env := s.env) (trams := trams) hroad'
  have hwritten := Plant.censusTaken_yard s.env u.plant b trams
  have hyard : q.current = q.yardOf u.plant.active := by rw [Plant.current, hq.active]
  have hroads : q.current.roads =
      censusRoads u.plant.current.roads b (censusEntries s.env (u.plant.time u.plant.active) trams) trams := by
    rw [hyard, hkept.roads, hwritten]
  have hexpected : q.current.expectations = u.plant.current.expectations.filter fun x => !trams.contains x.tram := by
    rw [hyard, hkept.expectations, hwritten]
  have harrivals : q.current.arrivals.map Arrival.tram =
      (u.plant.current.arrivals.filter fun a => !trams.contains a.tram).map Arrival.tram := by
    rw [hyard, hkept.arrivals, hwritten]
  refine ⟨_, congrArg Host.Outcome.next (State.takeTelegram_event_quiet hears (a := .done) (p := q) ?_ (by simp) rfl
    ((Plant.Cascade.refl _).census.quiet hp)), rfl, ?_, ?_, ?_, ?_, ?_, fun hs => ?_⟩
  · have hqueue : s.plant.queueNames s.env b = false := by simp [Plant.queueNames, hquiet.1]
    have hall : trams.all tramInRange = true := by
      simpa [tramInRange, inRange] using hrange
    have hnone : trams.any s.plant.tramCarried = false := by simpa using hcarried
    simp [roadCensusAnswer, hpermit, hheld, hroad, hall, noRepeat_of_nodup hnodup, Nat.not_lt.mpr hcap, hnames, hqueue, hnone,
      hfits]
  · rw [Plant.unmarked_current, htime]
    show q.current.roads.find? (fun r => r.berth == b) = _
    rw [hroads]
    exact censusRoads_berth _ _ _ _ hroad'
  · rw [Plant.unmarked_current, hroads]
    exact censusRoads_others
  · rw [Plant.unmarked_current]
    intro a ha
    have : a.tram ∈ q.current.arrivals.map Arrival.tram := List.mem_map_of_mem ha
    rw [harrivals] at this
    obtain ⟨x, hx, hxa⟩ := List.mem_map.mp this
    rw [← hxa]
    simpa using (List.mem_filter.mp hx).2
  · rw [Plant.unmarked_current, hexpected]
    intro x hx
    simpa using (List.mem_filter.mp hx).2
  · rw [Plant.unmarked_current, hcurrent]
    exact hq.current
  · have hs' : u.plant.session = none := by simp [u, hs]
    have hreal : u.plant.active = .real := Plant.active_of_none hs'
    have hyardReal : q.unmarked.yard = q.current := by
      rw [hyard, hreal]
      rfl
    have htaken : (Plant.censusTaken s.env u.plant b trams).keptRoads.latest =
        some (censusRoads u.plant.current.roads b (censusEntries s.env (u.plant.time u.plant.active) trams) trams) := by
      rw [Plant.censusTaken, hreal]
      rfl
    rw [hyardReal, hroads, ← htaken]
    exact congrArg Store.latest hkept.kept

/-! ## ROAD CLOSE and ROAD OPEN (O38) -/

/-- What follows a change of a road's setting keeps the places of the trams. -/
theorem Plant.setService_placesKept {p : Plant} {b : Berth} {closed : Bool} {old : Road} (h : p.current.road? b = some old) :
    old.closed = closed ∧ p.setService b closed = p ∨
      (p.mapRoad p.active b fun r => { r with closed := closed }).PlacesKept p.active (p.setService b closed) := by
  unfold Plant.setService
  rw [h]
  dsimp only
  split
  · next hsame => exact .inl ⟨hsame, rfl⟩
  · right
    refine .runOut (.runOut ?_ (.passBerthChange (.refl _ _))) (.report (.refl _ _))
    split
    · exact .clearReservedRoad (.refl _ _)
    · exact .refl _ _

theorem Plant.setService_berthsOnly (p : Plant) (b : Berth) (closed : Bool) : p.BerthsOnly p.active (p.setService b closed) := by
  unfold Plant.setService
  split
  · exact .refl _ _
  · have hroad : p.BerthsOnly p.active (p.mapRoad p.active b fun r => { r with closed := closed }) := .mapRoad (.refl _ _)
    exact .ite (.refl _ _) (.report (.passBerthChange (.ite hroad.clearReservedRoad hroad)))

/-- A road whose record is rewritten, and every other road as it was. -/
theorem find_berth_rewrite {f : Road → Road} (hf : ∀ r, (f r).berth = r.berth) (b b' : Berth) (l : List Road) :
    ((l.map fun r => if r.berth == b then f r else r).find? fun r => r.berth == b') =
      if b' = b then (l.find? fun r => r.berth == b').map f else l.find? fun r => r.berth == b' := by
  rw [find_berth_map fun r => by split <;> simp [hf]]
  cases h : l.find? fun r => r.berth == b' with
  | none => simp
  | some r =>
    have hr : r.berth = b' := by simpa using List.find?_some h
    by_cases hb : b' = b <;> simp [hr, hb]

/-- What setting the service of a road makes of the berth roads. -/
theorem Plant.setService_road? {p : Plant} {b : Berth} {closed : Bool} {old : Road} (h : p.current.road? b = some old)
    (b' : Berth) :
    (p.setService b closed).current.road? b' =
      if b' = b then some { old with closed := closed } else p.current.road? b' := by
  have hyard : (p.setService b closed).current = (p.setService b closed).yardOf p.active := by
    rw [Plant.current, (p.setService_berthsOnly b closed).active]
  rcases Plant.setService_placesKept (closed := closed) h with ⟨hsame, hid⟩ | hkept
  · rw [hid]
    split
    · next hb => subst hb; rw [h, ← hsame]
    · rfl
  · rw [hyard]
    show ((p.setService b closed).yardOf p.active).roads.find? (fun r => r.berth == b') = _
    rw [hkept.roads, Plant.mapRoad, Plant.setRoads_yardOf]
    refine (find_berth_rewrite (f := fun r => { r with closed := closed }) (fun _ => rfl) b b' _).trans ?_
    by_cases hb : b' = b
    · subst hb
      rw [if_pos rfl, if_pos rfl]
      exact congrArg (Option.map fun r : Road => { r with closed := closed }) h
    · rw [if_neg hb, if_neg hb]
      rfl

theorem Plant.setService_expectations {p : Plant} {b : Berth} {closed : Bool} {old : Road} (h : p.current.road? b = some old) :
    (p.setService b closed).current.expectations = p.current.expectations := by
  have hyard : (p.setService b closed).current = (p.setService b closed).yardOf p.active := by
    rw [Plant.current, (p.setService_berthsOnly b closed).active]
  rcases Plant.setService_placesKept (closed := closed) h with ⟨-, hid⟩ | hkept
  · rw [hid]
  · rw [hyard, hkept.expectations, Plant.mapRoad, Plant.setRoads_yardOf]
    rfl

/-- Settles O38. -/
theorem roadServiceWritesSetting : Obligations.RoadServiceWritesSetting := by
  unfold Obligations.RoadServiceWritesSetting
  intro s port tag b old closed hears hheld hroad hquiet u
  have hp : u.plant.quiet s.env := State.answered_quiet hquiet ..
  have hcurrent : s.plant.current = u.plant.current := by simp [u]
  have hanswer : roadServiceAnswer b (s.dispatch port TelegramKind.roadCloseOpen.code tag) = .done := by
    simp [roadServiceAnswer, hheld, hroad]
  have hevent := State.takeTelegram_event_quiet hears (tag := tag) (verdict := roadServiceAnswer b) (a := .done) hanswer
    (by simp) (f := fun _ p => p.setService b closed) (p := u.plant.setService b closed) rfl
    ((Plant.Cascade.refl _).setService.quiet hp)
  have hexec : exec (if closed then .roadClose port tag b else .roadOpen port tag b) s =
      .next { u with plant := (u.plant.setService b closed).unmarked } := by
    cases closed <;> exact congrArg Host.Outcome.next hevent
  have hroad' : u.plant.current.road? b = some old := hcurrent ▸ hroad
  refine ⟨_, hexec, rfl, ?_, fun b' hb => ?_, ?_⟩
  · rw [Plant.unmarked_current, Plant.setService_road? hroad', if_pos rfl]
  · rw [Plant.unmarked_current, Plant.setService_road? hroad', if_neg hb, hcurrent]
  · rw [Plant.unmarked_current, hcurrent]
    exact (u.plant.setService_berthsOnly b closed).current.trans (by rw [Plant.setService_expectations hroad'])

end Sys2Proof.Machine
end

section
/-! SUPPORT. Field reports that are taken, and the gate reads that move a tram (R120, R121, R178). -/

namespace Sys2Proof.Machine

open Sys2Proof

/-! ## Reports on the field links -/

theorem Plant.mapLink_link? (p : Plant) (n : Nat) {f : Link → Link} (hf : ∀ l, (f l).number = l.number) (m : Nat) :
    (p.mapLink n f).link? m = (p.link? m).map fun l => if m = n then f l else l := by
  by_cases hm : m = n
  · subst hm
    simp only [if_true]
    exact findBy_updBy_self _ _ _ _ (fun l h => (hf l).trans h)
  · simp only [if_neg hm, Option.map_id']
    exact findBy_updBy_ne _ _ _ (fun l h => (hf l).trans h) hm

@[simp] theorem Plant.goodFrame_linkUp (p : Plant) (n m : Nat) : (p.goodFrame n).linkUp m = p.linkUp m := by
  simp only [Plant.linkUp, Plant.goodFrame, Plant.mapLink_link? p n (f := fun l => { l with bad := 0, lastGood := p.now }) (fun _ => rfl)]
  cases p.link? m with
  | none => rfl
  | some l => by_cases h : m = n <;> simp [h]

/-- A report from an element's own link, which is UP, takes effect (log 10). -/
theorem Plant.fieldReport_taken {env : Env} {p : Plant} {link : Nat} {e : FaultElement} (f : Plant → Plant)
    (hup : p.linkUp link = true) (hlink : env.layout.linkOf e = some link) :
    Plant.fieldReport env p link e f = f (p.goodFrame link) := by
  simp [Plant.fieldReport, Plant.reportTaken, hup, hlink]

/-! ## A tram that stands nowhere (O39) -/

/-- A tram stands nowhere in the record of a yard. -/
structure Yard.Absent (y : Yard) (n : Nat) : Prop where
  arrivals : ∀ x ∈ y.arrivals, x.tram ≠ n
  expectations : ∀ x ∈ y.expectations, x.tram ≠ n
  roads : y.roadOfTram n = none

/-- The arrival that a tram becomes at the inbound reader (R120). -/
def Env.newArrival (env : Env) (n : Nat) : Arrival :=
  ⟨n, (env.dataOf n).length, (env.dataOf n).cls, (env.dataOf n).departure, (env.tram? n).isSome, none⟩

/-- The arrival queue of a side after an absent tram has been read at the inbound reader (R120). -/
def Plant.readArrivals (env : Env) (p : Plant) (sd : Side) (n : Nat) : List Arrival :=
  if Plant.arrivalCount env p sd < 6 then (p.yardOf sd).arrivals ++ [env.newArrival n] else (p.yardOf sd).arrivals

/-- The plant whose reader of a gate has noted a read. -/
def Plant.noteRead (p : Plant) (sd : Side) (gate : Nat) (r : GateRead) : Plant :=
  p.mapYard sd fun y =>
    { y with readers := updBy Reader.gate gate (fun x => { x with lastRead := some r, time := y.clock.time }) y.readers }

theorem Plant.noteRead_yardOf (p : Plant) (sd : Side) (gate : Nat) (r : GateRead) :
    (p.noteRead sd gate r).yardOf sd = { p.yardOf sd with
      readers := updBy Reader.gate gate (fun x => { x with lastRead := some r, time := (p.yardOf sd).clock.time })
        (p.yardOf sd).readers } := Plant.yardOf_mapYard_self ..

/-- The count of the arrival queue is read from the slots and the stabling record. -/
theorem Plant.arrivalCount_congr {env : Env} {p q : Plant} {sd : Side} (hslots : q.slots = p.slots) (hactive : q.active = p.active)
    (harrivals : (q.yardOf sd).arrivals = (p.yardOf sd).arrivals) (hroads : (q.yardOf sd).roads = (p.yardOf sd).roads) :
    Plant.arrivalCount env q sd = Plant.arrivalCount env p sd := by
  have hroad : (q.yardOf sd).road? = (p.yardOf sd).road? := by
    funext b
    simp only [Yard.road?, hroads]
  simp only [Plant.arrivalCount, Plant.arrivingSlots, Plant.usedFor, Plant.used, Yard.slotArriving, hslots, hactive, harrivals,
    hroad]

/-- No slot brings a tram that stands on no berth road. -/
theorem Plant.arrivingSlots_absent {env : Env} {p : Plant} {sd : Side} {n : Nat} (h : (p.yardOf sd).roadOfTram n = none) :
    ((Plant.arrivingSlots env p sd).any fun sl => sl.tram == some n) = false := by
  rw [List.any_eq_false]
  intro sl hsl htram
  have harriving := (List.mem_filter.mp hsl).2
  have ht : sl.tram = some n := by simpa using htram
  simp only [Yard.slotArriving, ht, Bool.and_eq_true] at harriving
  obtain ⟨-, harriving⟩ := harriving
  split at harriving
  · next t htt =>
    cases htt
    obtain ⟨d, hd, hholds⟩ := (Option.any_eq_true ..).mp harriving
    obtain ⟨b, -, hroad⟩ := Option.bind_eq_some_iff.mp hd
    have hmem : d ∈ (p.yardOf sd).roads := List.mem_of_find?_eq_some hroad
    have hnone := List.find?_eq_none.mp h d hmem
    obtain ⟨e, he, heq⟩ := List.any_eq_true.mp hholds
    exact hnone (List.any_eq_true.mpr ⟨e, he, (Bool.and_eq_true_iff.mp heq).1⟩)
  · cases harriving

/-- An absent tram that is read joins the queue, or is not queued when the queue is full. -/
theorem Plant.inboundTram_absent {env : Env} {p : Plant} {sd : Side} {n : Nat} (h : (p.yardOf sd).Absent n) :
    (p.setArrivals sd (Plant.readArrivals env p sd n)).RunOutOnly sd (Plant.inboundTram env p sd n) ∨
      Plant.readArrivals env p sd n = (p.yardOf sd).arrivals ∧ p.RunOutOnly sd (Plant.inboundTram env p sd n) := by
  have hqueued : ((p.yardOf sd).arrivals.any fun a => a.tram == n) = false := by
    simpa [List.any_eq_false] using h.arrivals
  have hexpected : (p.yardOf sd).expectations.find? (fun x => x.tram == n) = none := by
    simpa using h.expectations
  simp only [Plant.inboundTram, hqueued, Plant.arrivingSlots_absent h.roads, hexpected, h.roads, Bool.false_eq_true, if_false]
  split
  · next hfull =>
    exact .inr ⟨if_neg (Nat.not_lt.mpr hfull), .report (.refl _ _)⟩
  · next hroom =>
    left
    have hread : Plant.readArrivals env p sd n = (p.yardOf sd).arrivals ++ [env.newArrival n] := if_pos (Nat.lt_of_not_le hroom)
    rw [hread]
    unfold Plant.queueArrival
    exact .report (.ite (.passBerthChange (.refl _ _)) (.report (.passBerthChange (.refl _ _))))

/-- The yard of a side in which an absent tram has been read at the inbound reader: the reader, the queue and the run-out list. -/
theorem Plant.takeRead_absent {env : Env} {p : Plant} {sd : Side} {n : Nat} (h : (p.yardOf sd).Absent n)
    (hn : tramInRange n = true) :
    (p.noteRead sd 1 (.tram n)).BerthsOnly sd (Plant.takeRead env p sd 1 (.tram n)) ∧
      (Plant.takeRead env p sd 1 (.tram n)).yardOf sd = { p.yardOf sd with
        readers := ((p.noteRead sd 1 (.tram n)).yardOf sd).readers
        arrivals := Plant.readArrivals env p sd n
        runOut := ((Plant.takeRead env p sd 1 (.tram n)).yardOf sd).runOut } := by
  let q := p.noteRead sd 1 (.tram n)
  have hq : q.yardOf sd = { p.yardOf sd with readers := (q.yardOf sd).readers } := by
    rw [Plant.noteRead_yardOf]
  have htake : Plant.takeRead env p sd 1 (.tram n) = Plant.inboundTram env q sd n := by
    have htaken : (GateRead.tram n).taken = .tram n := by simp [GateRead.taken, hn]
    simp only [Plant.takeRead, htaken, if_true]
    rfl
  have habsent : (q.yardOf sd).Absent n := by
    rw [hq]
    exact ⟨h.arrivals, h.expectations, h.roads⟩
  have hread : Plant.readArrivals env q sd n = Plant.readArrivals env p sd n := by
    have hcount : Plant.arrivalCount env q sd = Plant.arrivalCount env p sd :=
      Plant.arrivalCount_congr (by simp [q, Plant.noteRead]) (by simp [q, Plant.noteRead]) (by rw [hq]) (by rw [hq])
    rw [Plant.readArrivals, Plant.readArrivals, hcount, hq]
  rw [htake]
  rcases Plant.inboundTram_absent (env := env) habsent with hrun | ⟨hsame, hrun⟩
  · refine ⟨(Plant.BerthsOnly.refl sd q).setArrivals.runOut hrun, ?_⟩
    have hyard := hrun.yard
    rw [Plant.setArrivals_yardOf, hread, hq] at hyard
    exact hyard
  · refine ⟨hrun.berthsOnly, ?_⟩
    have hyard := hrun.yard
    rw [hread, hq] at hsame
    rw [hq] at hyard
    rw [hsame]
    exact hyard

/-- A matched read at the outbound gate takes the first expected tram from the list (R121). -/
theorem Plant.takeRead_matched {env : Env} {p : Plant} {sd : Side} {n : Nat} {x : Expectation} {rest : List Expectation}
    (hx : (p.yardOf sd).expectations = x :: rest) (hn : tramInRange n = true) (hxn : x.tram = n) :
    Plant.takeRead env p sd 2 (.tram n) =
      ((p.noteRead sd 2 (.tram n)).mapYard sd fun y => { y with expectations := rest }).report sd
        (.gateRead 2 (.tram n) .matched (some n) (some (.expected x.berth))) := by
  have htaken : (GateRead.tram n).taken = .tram n := by simp [GateRead.taken, hn]
  have hnoted : ((p.noteRead sd 2 (.tram n)).yardOf sd).expectations = x :: rest := by
    rw [Plant.noteRead_yardOf]
    exact hx
  have houtbound : (p.noteRead sd 2 (.tram n)).outboundRead sd (.tram n) =
      ((p.noteRead sd 2 (.tram n)).mapYard sd fun y => { y with expectations := rest }).report sd
        (.gateRead 2 (.tram n) .matched (some n) (some (.expected x.berth))) := by
    unfold Plant.outboundRead
    simp only [hnoted, if_pos hxn.symm]
  rw [← houtbound]
  simp only [Plant.takeRead, htaken]
  rfl

@[simp] theorem Plant.noteRead_slots (p : Plant) (sd : Side) (g : Nat) (r : GateRead) : (p.noteRead sd g r).slots = p.slots := by
  simp [Plant.noteRead]

theorem Plant.goodFrame_quiet {env : Env} {p : Plant} (h : p.quiet env) (n : Nat) : (p.goodFrame n).quiet env :=
  Plant.quiet_congr h rfl rfl rfl rfl rfl

/-- Settles O39: a field read is taken on the real yard, an arrival of the rehearsal on the copies, by one rule. -/
theorem gateReadsMoveTrams : Obligations.GateReadsMoveTrams := by
  unfold Obligations.GateReadsMoveTrams
  intro s n h1 h9999 hquiet d a absent queue
  have hn : tramInRange n = true := by simp [tramInRange, inRange, h1, h9999]
  refine ⟨fun link hup hlink hnone => ?_, fun link x rest hup hlink hx hxn => ?_, fun c port tag hears hc hfail hnone => ?_⟩
  · let p := s.plant.goodFrame link
    let q := Plant.takeRead s.env p .real 1 (.tram n)
    have habsent : (p.yardOf .real).Absent n := ⟨hnone.1, hnone.2.1, hnone.2.2⟩
    obtain ⟨hberths, hyard⟩ := Plant.takeRead_absent (env := s.env) habsent hn
    have hq : Plant.quiet s.env q := (Plant.Cascade.refl p).takeRead.quiet (Plant.goodFrame_quiet hquiet link)
    have hreaders : q.yard.readers = ((p.noteRead .real 1 (.tram n)).yardOf .real).readers := by
      show (q.yardOf .real).readers = _
      rw [hyard]
    refine ⟨_, congrArg Host.Outcome.next (State.event_of_quiet (Plant.fieldReport_taken _ hup hlink) hq), rfl, ?_, ?_, ?_⟩
    · intro r hr
      show findBy Reader.gate 1 q.yard.readers = _
      rw [hreaders, Plant.noteRead_yardOf]
      refine (findBy_updBy_self Reader.gate 1 (fun x : Reader => { x with lastRead := some (.tram n), time := s.plant.yard.clock.time })
        s.plant.yard.readers fun _ h => h).trans ?_
      exact congrArg (Option.map _) hr
    · exact hyard.trans (by rw [← hreaders]; rfl)
    · exact (congrArg Plant.slots hberths.rest).trans (p.noteRead_slots ..)
  · let p := s.plant.goodFrame link
    have hq := Plant.takeRead_matched (env := s.env) (p := p) (sd := .real) hx hn hxn
    have hquiet' : Plant.quiet s.env (Plant.takeRead s.env p .real 2 (.tram n)) :=
      (Plant.Cascade.refl p).takeRead.quiet (Plant.goodFrame_quiet hquiet link)
    refine ⟨_, congrArg Host.Outcome.next (State.event_of_quiet (Plant.fieldReport_taken _ hup hlink) hquiet'), rfl, ?_, ?_⟩
    · simp only [Plant.unmarked_yard]
      show (Plant.takeRead s.env p .real 2 (.tram n)).yard = _
      rw [hq]
      rfl
    · show (Plant.takeRead s.env p .real 2 (.tram n)).slots = _
      rw [hq]
      rfl
  · let u := s.answered port TelegramKind.rehearsalAct.code tag .done
    let p := u.plant.mapSession fun c => { c with readFail := false }
    let q := Plant.takeRead s.env p .copy 1 (.tram n)
    have hu : u.plant.session = some c := by simp [u, hc]
    have hcopy : p.yardOf .copy = s.plant.yardOf .copy :=
      (Plant.mapSession_yardOf u.plant (f := fun c => { c with readFail := false }) (fun _ => rfl) .copy).trans (by simp [u])
    have hsession : p.session = some { c with readFail := false } := by simp [p, hu, Plant.mapSession]
    have hsim : Plant.simRead s.env u.plant 1 (some n) = q := by
      simp [Plant.simRead, hu, hfail, q, p]
    have habsent : (p.yardOf .copy).Absent n := by
      rw [hcopy]
      exact ⟨hnone.1, hnone.2.1, hnone.2.2⟩
    obtain ⟨hberths, hyard⟩ := Plant.takeRead_absent (env := s.env) habsent hn
    have hp : u.plant.quiet s.env := State.answered_quiet hquiet ..
    obtain ⟨c', hc'⟩ : ∃ c', q.session = some c' := Option.isSome_iff_exists.mp (by
      rw [hberths.isSome, Plant.noteRead, Plant.mapYard_isSome, hsession]
      rfl)
    have hcq : q.yardOf .copy = c'.copy := Plant.yardOf_copy hc'
    have hcs : s.plant.yardOf .copy = c.copy := Plant.yardOf_copy hc
    have hreaders : c'.copy.readers = ((p.noteRead .copy 1 (.tram n)).yardOf .copy).readers := by
      rw [← hcq, hyard]
    have hcount : Plant.readArrivals s.env p .copy n = queue .copy := by
      have : Plant.arrivalCount s.env p .copy = Plant.arrivalCount s.env s.plant .copy :=
        Plant.arrivalCount_congr (by simp [p, u]) (by simp only [Plant.active, hsession, hc]; rfl) (by rw [hcopy]) (by rw [hcopy])
      rw [Plant.readArrivals, this, hcopy]
      rfl
    refine ⟨_, c', congrArg Host.Outcome.next (State.takeTelegram_event_quiet hears (a := .done) (p := q) ?_ (by simp) hsim
      (hsim ▸ (Plant.Cascade.refl _).simRead.quiet hp)), rfl, hc', ?_, ?_, ?_⟩
    · exact actAnswer_done hn rfl (by simp [hc])
    · have hrun : c'.copy.runOut = ((Plant.takeRead s.env p .copy 1 (.tram n)).yardOf .copy).runOut := by rw [← hcq]
      exact hcq.symm.trans (hyard.trans (by rw [hcopy, hcs, hcount, hreaders, hrun]))
    · exact (hberths.copy rfl (by rw [Plant.noteRead, Plant.mapYard_isSome, hsession]; rfl)).trans (by
        rw [Plant.noteRead, Plant.mapYard_copy hsession]
        simp [p, u])
    · exact (congrArg Plant.slots hberths.rest).trans ((p.noteRead_slots ..).trans (by simp [p, u]))

end Sys2Proof.Machine
end

section
/-! SUPPORT. Requests that leave the queue, the control mode, and the beginning and the end of a rehearsal session (R101 to R106,
R172, R176). -/

namespace Sys2Proof.Machine

open Sys2Proof

/-! ## Requests that leave the queue -/

/-- What a request's leaving changes of a plant. -/
structure Plant.Dropping (p q : Plant) : Prop where
  rest : q = { p with
    planOut := q.planOut, deskOut := q.deskOut, yard := q.yard, session := q.session, queue := q.queue, wantScan := q.wantScan,
    wantRound := q.wantRound }
  current : q.current = { p.current with arrivals := q.current.arrivals, runOut := q.current.runOut }
  copy : p.session.isSome = true → q.yard = p.yard
  session : q.session.map Session.bare = p.session.map Session.bare

theorem Plant.Dropping.refl (p : Plant) : p.Dropping p := ⟨rfl, rfl, fun _ => rfl, rfl⟩

section
variable {env : Env} {p q r : Plant}

theorem Plant.Dropping.isSome (h : p.Dropping q) : q.session.isSome = p.session.isSome := by
  simpa using congrArg Option.isSome h.session

theorem Plant.Dropping.active (h : p.Dropping q) : q.active = p.active := by simp only [Plant.active, h.isSome]

theorem Plant.Dropping.trans (h : p.Dropping q) (h' : q.Dropping r) : p.Dropping r where
  rest := h'.rest.trans (congrArg (fun z : Plant =>
    { z with planOut := r.planOut, deskOut := r.deskOut, yard := r.yard, session := r.session, queue := r.queue,
             wantScan := r.wantScan, wantRound := r.wantRound }) h.rest)
  current := h'.current.trans (congrArg (fun z : Yard => { z with arrivals := r.current.arrivals, runOut := r.current.runOut })
    h.current)
  copy hs := (h'.copy (h.isSome.trans hs)).trans (h.copy hs)
  session := h'.session.trans h.session

theorem Plant.Dropping.ite {c : Prop} [Decidable c] (h : p.Dropping q) (h' : p.Dropping r) :
    p.Dropping (if c then q else r) := by split <;> assumption

theorem Plant.Dropping.foldl {α : Type} {f : Plant → α → Plant} (hf : ∀ r x, p.Dropping r → p.Dropping (f r x))
    (l : List α) (h : p.Dropping q) : p.Dropping (l.foldl f q) := by
  induction l generalizing q with
  | nil => exact h
  | cons x l ih => exact ih (hf q x h)

theorem Plant.RunOutOnly.dropping (h : p.RunOutOnly p.active q) : p.Dropping q where
  rest := by
    have hq : q.queue = p.queue := by rw [h.rest]
    have hs : q.wantScan = p.wantScan := by rw [h.rest]
    rw [hq, hs]
    exact h.rest
  current := by
    rw [h.current]
  copy := h.realYard
  session := h.session

theorem Plant.Dropping.runOut {sd : Side} (h : p.Dropping q) (h' : q.RunOutOnly sd r) (hsd : sd = p.active) : p.Dropping r :=
  h.trans (Plant.RunOutOnly.dropping (by rw [h.active, ← hsd]; exact h'))

theorem Plant.Dropping.clearReservation {t : Nat} {sd : Side} (h : p.Dropping q) (hsd : sd = p.active) :
    p.Dropping (q.clearReservation sd t) := by
  have hactive : sd = q.active := hsd.trans h.active.symm
  subst hactive
  refine h.trans ⟨?_, ?_, ?_, ?_⟩
  · unfold Plant.clearReservation
    cases hs : q.session <;> simp [Plant.mapYard, Plant.setYard, Plant.active, hs]
  · rw [Plant.clearReservation, Plant.mapYard_current]
  · exact fun hs => Plant.mapYard_active_yard _ _ hs
  · unfold Plant.clearReservation
    cases hs : q.session with
    | none => simp [Plant.mapYard, Plant.setYard, Plant.active, hs]
    | some c =>
      rw [Plant.active_of_some hs, Plant.mapYard_copy hs]
      rfl

theorem Plant.Dropping.handFate {sd : Side} {o : Option Origin} {n : Nat} {t : Option Nat} {f : Fate} (h : p.Dropping q)
    (hsd : sd = p.active) : p.Dropping (Plant.handFate env q sd o n t f) := by
  unfold Plant.handFate
  split
  · refine .runOut ?_ (.askRound (.refl sd _)) hsd
    split
    · exact h
    · split
      · exact .ite h (h.clearReservation hsd)
      · exact h.runOut (.departureFate (.refl sd q)) hsd
  · exact h

theorem Plant.Dropping.report {sd : Side} {b : ReportBody} (h : p.Dropping q) : p.Dropping (q.report sd b) :=
  h.runOut (.report (.refl p.active q)) rfl

theorem Plant.Dropping.askScan {sd : Side} (h : p.Dropping q) : p.Dropping (q.askScan sd) := by
  refine h.trans ⟨?_, by rw [Plant.askScan_current], fun _ => by simp, by simp⟩
  unfold Plant.askScan
  split <;> rfl

theorem Plant.Dropping.filterQueue {t : Request → Bool} (h : p.Dropping q) :
    p.Dropping ({ q with queue := q.queue.filter t } : Plant) :=
  h.trans ⟨rfl, Plant.current_congr rfl rfl, fun _ => rfl, rfl⟩

theorem Plant.Dropping.dropRequest {x : Request} {d : DropReason} {f : Fate} (h : p.Dropping q) :
    p.Dropping (Plant.dropRequest env q x d f) :=
  .askScan (h.filterQueue.report.handFate h.active)

theorem Plant.Dropping.dropWhere {t : Request → Bool} {d : DropReason} {f : Fate} (h : p.Dropping q) :
    p.Dropping (Plant.dropWhere env q t d f) := .foldl (fun _ _ h => h.dropRequest) _ h

/-! ## The queue after requests have left it -/

theorem Plant.handFate_queue (env : Env) (p : Plant) (sd : Side) (o : Option Origin) (n : Nat) (t : Option Nat) (f : Fate) :
    (Plant.handFate env p sd o n t f).queue = p.queue := by
  unfold Plant.handFate
  split
  · rw [Plant.askRound_queue]
    split
    · rfl
    · split
      · split
        · rfl
        · exact Plant.mapYard_queue ..
      · rw [((Plant.RunOutOnly.refl sd p).departureFate).rest]
  · rfl

theorem Plant.dropRequest_queue (env : Env) (p : Plant) (x : Request) (d : DropReason) (f : Fate) :
    (Plant.dropRequest env p x d f).queue = p.queue.filter fun y => y.route != x.route := by
  rw [Plant.dropRequest, Plant.askScan_queue, Plant.handFate_queue, Plant.report_queue]

/-- Requests that are dropped one after another leave the queue. -/
theorem Plant.dropRequests_queue (d : DropReason) (f : Fate) (l : List Request) (p : Plant) :
    (l.foldl (fun q x => Plant.dropRequest env q x d f) p).queue = p.queue.filter fun y => l.all fun x => y.route != x.route := by
  induction l generalizing p with
  | nil => exact (List.filter_eq_self.mpr fun _ _ => rfl).symm
  | cons x l ih =>
    rw [List.foldl_cons, ih, Plant.dropRequest_queue, List.filter_filter]
    refine List.filter_congr fun y _ => ?_
    rw [List.all_cons, Bool.and_comm]

/-- When every request is dropped, the queue is empty. -/
theorem Plant.dropWhere_queue {t : Request → Bool} (ht : ∀ x ∈ p.queue, t x = true) (d : DropReason) (f : Fate) :
    (Plant.dropWhere env p t d f).queue = [] := by
  rw [Plant.dropWhere, Plant.dropRequests_queue, List.filter_eq_nil_iff]
  intro y hy hall
  have := List.all_eq_true.mp hall y (List.mem_filter.mpr ⟨hy, ht y hy⟩)
  simp at this

/-- A request that is not the sequencer's leaves the queue with its report alone. -/
theorem Plant.dropRequest_of_origin {x : Request} (hx : x.origin ≠ .automatic) (d : DropReason) (f : Fate) :
    Plant.dropRequest env p x d f =
      (({ p with queue := p.queue.filter fun y => y.route != x.route } : Plant).report p.active
        (.requestDropped none x.route x.origin x.tram x.bypass d none)).askScan p.active := by
  have hfate : ∀ q sd, Plant.handFate env q sd (some x.origin) x.route x.tram f = q := fun q sd => if_neg (by simpa using hx)
  unfold Plant.dropRequest
  dsimp only
  rw [hfate]
  rfl

/-- Requests that are not the sequencer's leave the queue with reports alone. -/
theorem Plant.dropWhere_of_origin {t : Request → Bool} (ht : ∀ x ∈ p.queue, x.origin ≠ .automatic) (d : DropReason) (f : Fate) :
    Plant.dropWhere env p t d f = { p with
      planOut := (Plant.dropWhere env p t d f).planOut, deskOut := (Plant.dropWhere env p t d f).deskOut,
      queue := (Plant.dropWhere env p t d f).queue, wantScan := (Plant.dropWhere env p t d f).wantScan } := by
  have hall : ∀ l : List Request, (∀ x ∈ l, x.origin ≠ .automatic) → ∀ q : Plant,
      ∃ a b c w, l.foldl (fun q x => Plant.dropRequest env q x d f) q =
        { q with planOut := a, deskOut := b, queue := c, wantScan := w } := by
    intro l
    induction l with
    | nil => exact fun _ q => ⟨_, _, _, _, rfl⟩
    | cons x l ih =>
      intro hl q
      rw [List.foldl_cons, Plant.dropRequest_of_origin (hl x List.mem_cons_self)]
      obtain ⟨a, b, c, w, hq⟩ := ih (fun y hy => hl y (List.mem_cons_of_mem _ hy))
        ((({ q with queue := q.queue.filter fun y => y.route != x.route } : Plant).report q.active
          (.requestDropped none x.route x.origin x.tram x.bypass d none)).askScan q.active)
      refine ⟨a, b, c, w, hq.trans ?_⟩
      unfold Plant.askScan
      split <;> rfl
  obtain ⟨a, b, c, w, hq⟩ := hall (p.queue.filter t) (fun x hx => ht x (List.mem_filter.mp hx).1) p
  rw [Plant.dropWhere, hq]

end

/-! ## TAKE CONTROL and RETURN CONTROL (O19) -/

theorem judge_not_plan_desk : judge [((Port.desk == .plan), Reason.notAuthority)] .done = .done := rfl

/-- A change of the control mode in which every request is withdrawn, none of them the sequencer's. -/
theorem Plant.controlChanged {env : Env} {p : Plant} {t : Request → Bool} {c : ModeCause} (m : Mode)
    (ht : ∀ x ∈ p.queue, t x = true) (ho : ∀ x ∈ p.queue, x.origin ≠ .automatic) :
    ∃ a b w, (Plant.dropWhere env { p with mode := m } t .withdrawn .withdrawn).setMode m c =
      { p with mode := m, queue := [], planOut := a, deskOut := b, wantScan := w } := by
  have hdrop := Plant.dropWhere_of_origin (env := env) (p := { p with mode := m }) (t := t) ho .withdrawn .withdrawn
  rw [Plant.dropWhere_queue (p := { p with mode := m }) ht] at hdrop
  rw [hdrop]
  exact ⟨_, _, _, rfl⟩

/-- Settles O19: the requests withdrawn are all there are, and none is the sequencer's. -/
theorem controlModeTelegrams : Obligations.ControlModeTelegrams := by
  unfold Obligations.ControlModeTelegrams
  intro s tag
  refine ⟨fun hport hqueue => ?_, fun hears hqueue hrest => ?_⟩
  · let u := s.answered .desk TelegramKind.takeControl.code tag .done
    have hu : u.plant.queue = s.plant.queue := by simp [u]
    obtain ⟨a, b, w, hq⟩ := Plant.controlChanged (env := s.env) (p := u.plant) (t := fun r => r.origin != .desk)
      (c := .takeControl) .manual (fun x hx => by simp [hqueue x (hu ▸ hx)]) (fun x hx => by simp [hqueue x (hu ▸ hx)])
    refine ⟨_, congrArg Host.Outcome.next (State.takeTelegram_event_quiet (State.hears_of_takenFrozen hport rfl) (a := .done)
      judge_not_plan_desk (by simp) rfl ?_), rfl, ?_⟩
    · show Plant.quiet s.env (Plant.askScan _ _)
      rw [hq]
      exact ⟨by simp, by simp [Plant.automatic]⟩
    · show (Plant.askScan _ _).unmarked = _
      rw [Plant.askScan_unmarked, hq]
      rfl
  · let u := s.answered .desk TelegramKind.returnControl.code tag .done
    have hu : u.plant.queue = s.plant.queue := by simp [u]
    have hhold : u.plant.hold = s.plant.hold := by simp [u]
    have hsilence : u.plant.silence = s.plant.silence := by simp [u]
    obtain ⟨a, b, w, hq⟩ := Plant.controlChanged (env := s.env) (p := u.plant) (t := fun r => r.origin == .desk)
      (c := .returnControl) .automatic (fun x hx => by simp [hqueue x (hu ▸ hx)]) (fun x hx => by simp [hqueue x (hu ▸ hx)])
    refine ⟨_, congrArg Host.Outcome.next (State.takeTelegram_event_quiet hears (a := .done)
      judge_not_plan_desk (by simp) rfl ?_), rfl, ?_⟩
    · show Plant.quiet s.env (Plant.askRound (Plant.askScan _ _) _)
      rw [hq]
      refine ⟨by simp, ?_⟩
      have hrest' : u.plant.hold.isSome = true ∨ u.plant.silence.silent = true ∨ s.env.held = false := by
        rw [hhold, hsilence]
        exact hrest
      rcases hrest' with h | h | h <;> simp [Plant.automatic, Plant.holding, h]
    · show (Plant.askRound (Plant.askScan _ _) _).unmarked = _
      rw [Plant.askRound_unmarked, Plant.askScan_unmarked, hq]
      rfl

/-! ## REHEARSAL BEGIN (O46) -/

@[simp] theorem State.dispatch_quiescent (s : State) (port : Port) (kind tag : Byte) :
    (s.dispatch port kind tag).plant.quiescent = s.plant.quiescent := by cases port <;> rfl

theorem Plant.quiescent_queue {p : Plant} (h : p.quiescent = true) : p.queue = [] := by
  simp only [Plant.quiescent, Bool.and_eq_true] at h
  exact List.isEmpty_iff.mp h.1.2

theorem Plant.quiet_of_manual {env : Env} {p : Plant} (hq : p.queue = []) (hm : p.mode = .manual) : p.quiet env :=
  ⟨hq, by simp [Plant.automatic, hm]⟩

/-- In the copies of the tables nothing is UNKNOWN (R172). -/
theorem Yard.copy_points_known (y : Yard) : ∀ x ∈ y.copy.points, x.state ≠ .unknown := by
  intro x hx
  obtain ⟨z, -, rfl⟩ := List.mem_map.mp hx
  unfold Point.copy
  split
  · simp
  · next h => exact h

theorem Yard.copy_tracks_known (y : Yard) : ∀ x ∈ y.copy.tracks, x.state ≠ .unknown := by
  intro x hx
  obtain ⟨z, -, rfl⟩ := List.mem_map.mp hx
  unfold Track.copy
  split
  · simp
  · next h => exact h

theorem Yard.copy_signals_known (y : Yard) : ∀ g ∈ y.copy.signals, g.reported.isSome = true ∧ g.lamp.isSome = true := by
  intro x hx
  obtain ⟨z, -, rfl⟩ := List.mem_map.mp hx
  unfold Signal.copy
  split
  · simp
  · next h => simpa [Option.isSome_iff_ne_none] using h

/-- What beginning a session makes of a plant. -/
theorem Plant.beginSession_spec (p : Plant) (rate : Nat) :
    ∃ q : Plant, q = { p.sendAllUp .holdSafe with session := some (Session.start rate p.yard) } ∧
      q.RunOutOnly .copy (p.beginSession rate) := by
  refine ⟨_, rfl, ?_⟩
  have hyard : (p.sendAllUp .holdSafe).yard = p.yard := by rw [Plant.sendAllUp_eq]
  unfold Plant.beginSession
  dsimp only
  rw [hyard]
  exact .workReadiness (.report (.refl _ _))

/-- Settles O46: after the frames and the copies, only the run-out list of the copies is worked. -/
theorem rehearsalBeginCopies : Obligations.RehearsalBeginCopies := by
  unfold Obligations.RehearsalBeginCopies
  intro s tag rate hears hheld hsession hmode hhold hquiescent hrate
  let u := s.answered .desk TelegramKind.rehearsalBegin.code tag .done
  obtain ⟨q, hq, hrun⟩ := u.plant.beginSession_spec rate
  rw [Plant.sendAllUp_eq] at hq
  have hanswer : rehearsalBeginAnswer .desk rate (s.dispatch .desk TelegramKind.rehearsalBegin.code tag) = .done := by
    rcases hrate with rfl | rfl <;> simp [rehearsalBeginAnswer, hheld, hsession, hmode, hhold, Plant.holding, hquiescent]
  obtain ⟨c, hc⟩ : ∃ c, (u.plant.beginSession rate).session = some c :=
    Option.isSome_iff_exists.mp (by rw [hrun.isSome, hq]; rfl)
  have hbare : c.bare = (Session.start rate u.plant.yard).bare := by
    have := hrun.session
    rw [hc, hq] at this
    exact Option.some.inj this
  have hyard : u.plant.yard = s.plant.yard := by simp [u]
  have hcopy : c.copy = { s.plant.yard.copy with runOut := c.copy.runOut } := by
    have := hrun.yard
    rw [Plant.yardOf_copy hc, hq, Plant.yardOf_copy rfl, hyard] at this
    exact this
  have hqueue : (u.plant.beginSession rate).queue = [] := by
    rw [hrun.rest, hq]
    exact (by simp [u] : u.plant.queue = s.plant.queue).trans (Plant.quiescent_queue hquiescent)
  have hmanual : (u.plant.beginSession rate).mode = .manual := by
    rw [hrun.rest, hq]
    exact (by simp [u] : u.plant.mode = s.plant.mode).trans hmode
  refine ⟨_, c, congrArg Host.Outcome.next (State.takeTelegram_event_quiet hears (a := .done) hanswer (by simp) rfl
    (Plant.quiet_of_manual hqueue hmanual)), rfl, hc, congrArg Session.rate hbare, congrArg Session.base hbare,
    congrArg Session.drives hbare, congrArg Session.runs hbare, hcopy, ?_, ?_, ?_, ?_, hqueue, ?_, ?_⟩
  · rw [hcopy]
    exact Yard.copy_points_known _
  · rw [hcopy]
    exact Yard.copy_tracks_known _
  · rw [hcopy]
    exact Yard.copy_signals_known _
  · exact (hrun.copy rfl (by rw [hq]; rfl)).trans (by rw [hq]; exact hyard)
  · show (u.plant.beginSession rate).slots = _
    rw [hrun.rest, hq]
    simp [u]
  · show (u.plant.beginSession rate).linkSent = _
    rw [hrun.rest, hq]
    simp [u]

/-! ## REHEARSAL END (O47) -/

theorem Plant.endSlots_dropping (env : Env) (p : Plant) :
    ({ p with slots := freeSlots } : Plant).Dropping (Plant.endSlots env p) := .dropWhere (.refl _)

theorem Plant.endSlots_queue (env : Env) (p : Plant) : (Plant.endSlots env p).queue = [] :=
  Plant.dropWhere_queue (p := { p with slots := freeSlots }) (fun _ _ => rfl) ..

/-- With no request in the queue, only the slots are freed. -/
theorem Plant.endSlots_of_empty (env : Env) {p : Plant} (h : p.queue = []) :
    Plant.endSlots env p = { p with slots := freeSlots } := by
  simp [Plant.endSlots, Plant.dropWhere, h]

/-- The session whose counts the summary gives: its slots freed and its queue emptied. -/
theorem Plant.endSlots_session {env : Env} {p : Plant} {c : Session} (h : p.session = some c) :
    ∃ c', (Plant.endSlots env p).session = some c' ∧ c'.bare = c.bare ∧ c'.copy.clock = c.copy.clock ∧
      (p.queue = [] → c' = c) := by
  have hdrop := Plant.endSlots_dropping env p
  obtain ⟨c', hc'⟩ : ∃ c', (Plant.endSlots env p).session = some c' :=
    Option.isSome_iff_exists.mp (hdrop.isSome.trans (by rw [h]; rfl))
  refine ⟨c', hc', ?_, ?_, fun hq => ?_⟩
  · have := hdrop.session
    rw [hc', h] at this
    exact Option.some.inj this
  · have hc := hdrop.current
    rw [Plant.current_of_some hc', Plant.current_of_some (p := { p with slots := freeSlots }) h] at hc
    rw [hc]
  · rw [Plant.endSlots_of_empty env hq] at hc'
    exact Option.some.inj (hc'.symm.trans h)

@[simp] theorem Plant.sendAllUp_yard (p : Plant) (f : LinkFrame) : (p.sendAllUp f).yard = p.yard :=
  (congrArg Plant.yard (p.sendAllUp_eq f) :)
@[simp] theorem Plant.sendAllUp_session (p : Plant) (f : LinkFrame) : (p.sendAllUp f).session = p.session :=
  (congrArg Plant.session (p.sendAllUp_eq f) :)
@[simp] theorem Plant.sendAllUp_slots (p : Plant) (f : LinkFrame) : (p.sendAllUp f).slots = p.slots :=
  (congrArg Plant.slots (p.sendAllUp_eq f) :)
@[simp] theorem Plant.sendAllUp_queue (p : Plant) (f : LinkFrame) : (p.sendAllUp f).queue = p.queue :=
  (congrArg Plant.queue (p.sendAllUp_eq f) :)
theorem Plant.sendAllUp_linkSent (p : Plant) (f : LinkFrame) :
    (p.sendAllUp f).linkSent = p.linkSent ++ (p.links.filter fun l => l.state == .up).map fun l => (l.number, f) :=
  (congrArg Plant.linkSent (p.sendAllUp_eq f) :)

/-- What ending a session makes of a plant: the slots freed and the queue emptied, the frames sent, the mode MANUAL; then the
run-out list is worked. -/
theorem Plant.endSession_spec {env : Env} {p : Plant} (h : p.session.isSome = true) :
    ∃ q : Plant, q.RunOutOnly .real (Plant.endSession env p) ∧ q.session = none ∧ q.slots = freeSlots ∧ q.queue = [] ∧
      q.mode = .manual ∧ q.yard = p.yard ∧
      q.linkSent = p.linkSent ++ (p.links.filter fun l => l.state == .up).map fun l => (l.number, .releaseSafe) := by
  have hdrop := Plant.endSlots_dropping env p
  let ended : Plant := { Plant.endSlots env p with session := none }
  have hslots : ended.slots = freeSlots := (congrArg Plant.slots hdrop.rest :)
  have hqueue : ended.queue = [] := Plant.endSlots_queue env p
  have hyard : ended.yard = p.yard := hdrop.copy h
  have hlinks : ended.links = p.links := (congrArg Plant.links hdrop.rest :)
  have hsent : ended.linkSent = p.linkSent := (congrArg Plant.linkSent hdrop.rest :)
  let sent := (ended.sendAllUp .releaseSafe).setMode .manual .sessionEnd
  have hsentYard : sent.yard = p.yard := by
    simpa [sent, Plant.setMode] using hyard
  refine ⟨sent.setArrivals .real sent.yard.arrivals, .workReadiness (.refl _ _), ?_, ?_, ?_, ?_, ?_, ?_⟩
  · have hsession : sent.session = none := by
      simp [sent, Plant.setMode, ended]
    rw [← hsession]
    exact (Plant.BerthsOnly.setArrivals (.refl .real sent)).real rfl
  · simpa [sent, Plant.setMode] using hslots
  · simpa [sent, Plant.setMode] using hqueue
  · simp only [Plant.setArrivals_mode, sent, Plant.setMode, Plant.report_mode]
  · exact (Plant.setArrivals_yardOf sent .real _).trans hsentYard
  · simp [sent, Plant.setMode, Plant.sendAllUp_linkSent, hsent, hlinks]

/-- Settles O47. -/
theorem rehearsalEndDiscards : Obligations.RehearsalEndDiscards := by
  unfold Obligations.RehearsalEndDiscards
  intro s tag c hears hc k
  let d := s.dispatch .desk k tag
  have hdc : d.plant.session = some c := by simp [d, hc]
  obtain ⟨c', hc', hbare, hclock, hempty⟩ := Plant.endSlots_session (env := s.env) hdc
  let x := c'.summary
  have hx : Plant.endSummary s.env d.plant = some x := by simp [Plant.endSummary, hc', x]
  let u := s.answered .desk k tag (.doneWith (.summary x))
  obtain ⟨q, hrun, hsession, hslots, hqueue, hmode, hyard, hsent⟩ :=
    Plant.endSession_spec (env := s.env) (p := u.plant) (by simp [u, hc])
  generalize hz : Plant.endSession s.env u.plant = z at hrun
  have hrest := hrun.rest
  refine ⟨_, x, hx, congrArg Host.Outcome.next (State.takeTelegram_event_quiet hears (a := .doneWith (.summary x)) (p := z) ?_
    (by simp [Answer.doneWith]) hz ?_), rfl, (congrArg Session.departures hbare :),
    (congrArg Session.arrivals hbare :), (congrArg Session.faults hbare :), hclock, fun hq => ?_, ?_, ?_, ?_, ?_, ?_, ?_⟩
  · have hd : (s.dispatch .desk k tag).env = s.env := by simp
    show judge _ (match Plant.endSummary (s.dispatch .desk k tag).env d.plant with
      | some x => Answer.doneWith (.summary x)
      | none => .refused .state) = _
    rw [hd, hx]
    rfl
  · exact Plant.quiet_of_manual (by rw [hrest]; exact hqueue) (by rw [hrest]; exact hmode)
  · have hsame : c' = c := hempty hq
    exact ⟨by rw [← hsame]; rfl, by rw [← hsame]; rfl⟩
  · exact (hrun.real rfl).trans hsession
  · exact (congrArg Plant.slots hrest).trans hslots
  · exact (congrArg Plant.queue hrest).trans hqueue
  · exact (congrArg Plant.mode hrest).trans hmode
  · have := hrun.yard
    rw [show q.yardOf .real = s.plant.yard from hyard.trans (by simp [u])] at this
    exact this
  · exact (congrArg Plant.linkSent hrest).trans (hsent.trans (by simp [u]))

end Sys2Proof.Machine
end

section
/-! SUPPORT. The clocks at a minute change, and the part's own timers (R75, R101, R144, R150, R151, R173). -/

namespace Sys2Proof.Machine

open Sys2Proof

/-! ## The next minute of a clock -/

/-- A clock that is brought to its next minute, and at most a minute past it. -/
theorem Clock.nextMinute_advance {c : Clock} {k : Nat} (hset : c.set = true) (hm : c.minute < 2159)
    (hsec : c.second * 1000 + c.past < 60000) (hk : c.toNextMinute ≤ k) (hk' : k < c.toNextMinute + 60000) :
    (c.advance k).nextMinute = ⟨true, c.minute + 1, (k - c.toNextMinute) / 1000, (k - c.toNextMinute) % 1000⟩ := by
  have hto : c.toNextMinute = 60000 - (c.second * 1000 + c.past) := rfl
  have hadvance : c.advance k = { c with second := 59, past := c.second * 1000 + c.past + k - 59000 } := by
    have hover : ¬ c.second * 1000 + c.past + k < 60000 := by omega
    simp only [Clock.advance, if_pos hset, if_neg hover, Config.lastMinute]
    exact if_pos hm
  rw [hadvance, Clock.nextMinute]
  have hpast : c.second * 1000 + c.past + k - 59000 - 1000 = k - c.toNextMinute := by omega
  have hunder : k - c.toNextMinute < 60000 := by omega
  simp [Clock.advance, hset, hpast, hunder]

theorem Plant.RunOutOnly.quiet {env : Env} {sd : Side} {p q : Plant} (h : p.RunOutOnly sd q) (hp : p.quiet env) : q.quiet env := by
  have hrest := h.rest
  exact Plant.quiet_congr hp (congrArg Plant.queue hrest :) (congrArg Plant.mode hrest :) (congrArg Plant.freeze hrest :)
    (congrArg Plant.hold hrest :) (congrArg Plant.silence hrest :)

/-- The plant whose clock of a side has been brought to its next minute, before the list is placed. -/
def Plant.atNextMinute (p : Plant) (sd : Side) : Plant :=
  (p.advance (p.ownTime sd (p.yardOf sd).clock.toNextMinute)).mapYard sd fun y => { y with clock := y.clock.nextMinute }

theorem Plant.minuteChange_runOutOnly {env : Env} {p : Plant} {sd : Side} (hside : p.hasSide sd = true)
    (hcounts : (p.yardOf sd).clock.counts = true) : (p.atNextMinute sd).RunOutOnly sd (Plant.minuteChange env p sd) := by
  unfold Plant.minuteChange
  dsimp only
  rw [if_pos (by rw [hside, hcounts]; rfl)]
  exact (Plant.RunOutOnly.refl _ _).placeAll.askRound

theorem Plant.atNextMinute_quiet {env : Env} {p : Plant} (h : p.quiet env) (sd : Side) : (p.atNextMinute sd).quiet env :=
  Plant.quiet_congr h (by simp [Plant.atNextMinute, Plant.advance]) (by simp [Plant.atNextMinute, Plant.advance])
    (by simp [Plant.atNextMinute, Plant.advance]) (by simp [Plant.atNextMinute, Plant.advance])
    (by simp [Plant.atNextMinute, Plant.advance])

/-- Settles O58: the session's rate rounds the time up to at most nine milliseconds of the copies. -/
theorem copyClockReachesMinute : Obligations.CopyClockReachesMinute := by
  unfold Obligations.CopyClockReachesMinute
  intro s c m sec past hc h1 h10 hclock hm hsec hpast hquiet
  have hcopy : s.plant.yardOf .copy = c.copy := Plant.yardOf_copy hc
  have hto : c.copy.clock.toNextMinute = 60000 - (sec * 1000 + past) := by rw [hclock]; rfl
  let k := (c.copy.clock.toNextMinute + (c.rate - 1)) / c.rate
  have hk1 : c.copy.clock.toNextMinute ≤ c.rate * k := by
    have := Nat.div_add_mod (c.copy.clock.toNextMinute + (c.rate - 1)) c.rate
    have := Nat.mod_lt (c.copy.clock.toNextMinute + (c.rate - 1)) h1
    show _ ≤ c.rate * (_ / c.rate)
    omega
  have hk2 : c.rate * k < c.copy.clock.toNextMinute + 10 := by
    have := Nat.mul_div_le (c.copy.clock.toNextMinute + (c.rate - 1)) c.rate
    show c.rate * (_ / c.rate) < _
    omega
  let clock := (c.copy.clock.advance (c.rate * k)).nextMinute
  have hnext : clock = ⟨true, m + 1, (c.rate * k - c.copy.clock.toNextMinute) / 1000,
      (c.rate * k - c.copy.clock.toNextMinute) % 1000⟩ := by
    have := Clock.nextMinute_advance (c := c.copy.clock) (k := c.rate * k) (by rw [hclock]) (by rw [hclock]; exact hm)
      (by rw [hclock]; dsimp only; omega) hk1 (by omega)
    exact this.trans (by rw [show c.copy.clock.minute = m by rw [hclock]])
  let q := s.plant.atNextMinute .copy
  have hown : s.plant.ownTime .copy c.copy.clock.toNextMinute = k := by
    simp only [Plant.ownTime, hc, if_neg (Nat.ne_of_gt h1)]
    rfl
  have hq : q = { s.plant with
      now := s.plant.now + k
      yard := { s.plant.yard with clock := s.plant.yard.clock.advance k }
      session := some { c with base := c.base + c.rate * k, copy := { c.copy with clock := clock } } } := by
    show s.plant.atNextMinute .copy = _
    rw [Plant.atNextMinute, hcopy, hown, Plant.advance, hc]
    rfl
  have hrun : q.RunOutOnly .copy (Plant.minuteChange s.env s.plant .copy) :=
    Plant.minuteChange_runOutOnly (by simp [Plant.hasSide, hc]) (by
      rw [hcopy, hclock]
      simp [Clock.counts, Config.lastMinute, hm])
  have hrest := hrun.rest
  obtain ⟨c', hc'⟩ : ∃ c', (Plant.minuteChange s.env s.plant .copy).session = some c' :=
    Option.isSome_iff_exists.mp (by rw [hrun.isSome, hq]; rfl)
  have hbare : c'.base = c.base + c.rate * k := by
    have := hrun.session
    rw [hc', hq] at this
    exact congrArg Session.base (Option.some.inj this)
  have hyard : c'.copy = { c.copy with clock := clock, runOut := c'.copy.runOut } := by
    have := hrun.yard
    rw [Plant.yardOf_copy hc', hq, Plant.yardOf_copy rfl] at this
    exact this
  have hclock' : c'.copy.clock = clock := by rw [hyard]
  have hnow : (Plant.minuteChange s.env s.plant .copy).now = s.plant.now + k := (congrArg Plant.now hrest).trans (by rw [hq])
  refine ⟨_, c', congrArg Host.Outcome.next (State.event_of_quiet rfl (hrun.quiet (Plant.atNextMinute_quiet hquiet .copy))), rfl,
    hc', ?_, ?_, ?_, ?_, ?_, ?_, ?_⟩
  · rw [hclock', hnext]
  · rw [hclock', hnext]
  · rw [hclock', hnext]
    exact Nat.div_eq_of_lt (by omega)
  · rw [hclock', hnext]
    show _ % 1000 < 10
    rw [Nat.mod_eq_of_lt] <;> omega
  · rw [hbare]
    show _ = c.base + c.rate * ((Plant.minuteChange s.env s.plant .copy).now - s.plant.now)
    rw [hnow, Nat.add_sub_cancel_left]
  · rw [hclock']
    exact hyard
  · have hreal : (Plant.minuteChange s.env s.plant .copy).yard = q.yard := hrun.copy rfl (by rw [hq]; rfl)
    show (Plant.minuteChange s.env s.plant .copy).yard = { s.plant.yard with
      clock := (Plant.minuteChange s.env s.plant .copy).yard.clock }
    rw [hreal, hq]

/-! ## What the take test and the refusal of a request read -/

/-- Two plants that the take test cannot tell apart: their elements, berth roads, slots and links are the same, and the head of
their arrival queues gives the same answer. -/
structure Plant.SameTake (p q : Plant) : Prop where
  freeze : q.freeze = p.freeze
  hold : q.hold = p.hold
  slots : q.slots = p.slots
  links : q.links = p.links
  session : q.session.isSome = p.session.isSome
  points : q.current.points = p.current.points
  tracks : q.current.tracks = p.current.tracks
  roads : q.current.roads = p.current.roads
  head : q.headAnswer = p.headAnswer

section
variable {p q : Plant}

theorem Plant.SameTake.active (h : p.SameTake q) : q.active = p.active := by simp only [Plant.active, h.session]

theorem Plant.SameTake.road? (h : p.SameTake q) : q.current.road? = p.current.road? := by
  funext b
  simp only [Yard.road?, h.roads]

theorem Plant.SameTake.linkUpFor (h : p.SameTake q) : q.linkUpFor q.active = p.linkUpFor p.active := by
  rw [h.active]
  funext n
  unfold Plant.linkUpFor
  simp only [Plant.linkUp, Plant.link?, h.links, h.session]

theorem Plant.SameTake.berthAnswerFor (h : p.SameTake q) (env : Env) : Plant.berthAnswerFor env q = Plant.berthAnswerFor env p := by
  funext r atTake given
  have hnames : q.slotNames env = p.slotNames env := by
    funext b
    simp only [Plant.slotNames, Plant.used, h.slots]
  have hfits : q.current.fits env = p.current.fits env := by
    funext b len
    simp only [Yard.fits, h.road?]
  have hdest : Plant.destinationAnswer env q = Plant.destinationAnswer env p := by
    funext dest b e
    simp only [Plant.destinationAnswer, h.road?, hnames, hfits]
  have horigin : q.originAnswer = p.originAnswer := by
    funext b
    simp only [Plant.originAnswer, h.road?]
  simp only [Plant.berthAnswerFor, Plant.berthAnswer, h.head, hdest, horigin]

theorem Plant.SameTake.trackClear (h : p.SameTake q) (env : Env) :
    Plant.trackClear env q q.active = Plant.trackClear env p p.active := by
  funext n
  have htracks : (q.yardOf q.active).trackClear n = (p.yardOf p.active).trackClear n := by
    show q.current.trackClear n = p.current.trackClear n
    simp only [Yard.trackClear, Yard.trackState, Yard.track?, h.tracks]
  simp only [Plant.trackClear, htracks, Plant.elementUp, h.linkUpFor]

theorem Plant.SameTake.pointReady (h : p.SameTake q) (env : Env) : Plant.pointReady env q = Plant.pointReady env p := by
  funext x
  simp only [Plant.pointReady, Yard.point?, h.points, Plant.pointLies, Plant.movable, Plant.pointClear, h.trackClear,
    Plant.elementUp, h.linkUpFor]

theorem Plant.SameTake.takeTest (h : p.SameTake q) (env : Env) : Plant.takeTest env q = Plant.takeTest env p := by
  funext r t
  simp only [Plant.takeTest, Plant.frozen, Plant.holding, h.freeze, h.hold, h.slots, Plant.used, h.trackClear, h.pointReady,
    h.berthAnswerFor]
  rfl

theorem Plant.SameTake.requestRefusal (h : p.SameTake q) (hqueue : q.queue = p.queue) (env : Env) :
    Plant.requestRefusal env q = Plant.requestRefusal env p := by
  funext a n t
  simp only [Plant.requestRefusal, Plant.frozen, Plant.holding, h.freeze, h.hold, Plant.routeHeld, Plant.slotOfRoute, h.slots,
    Plant.used, hqueue, h.berthAnswerFor]
  rfl

end

/-! ## A scan and a round that follow an event -/

/-- With an empty queue the scan does nothing, and the round that was asked for is made; when it asks for nothing, that is all. -/
theorem Plant.settled_of_round (env : Env) {p q : Plant} (hqueue : p.queue = []) (hround : p.wantRound = true)
    (hq : Plant.round env { p with wantScan := false, wantRound := false } = q) (hdone : q.settledAlready) :
    Plant.settled env p = q := by
  have hstep : ∀ k, ∀ r : Plant, r.wantScan = false → r.wantRound = true →
      Plant.round env { r with wantRound := false } = q → Plant.settle env (k + 1) r = q := by
    intro k r hs hr hrq
    rw [Plant.settle, if_neg (by simp [hs]), if_pos hr, hrq, Plant.settle_of_settled env _ hdone]
  have hall : ∀ k, Plant.settle env (k + 2) p = q := by
    intro k
    cases hs : p.wantScan with
    | false => exact hstep (k + 1) p hs hround (by rw [← hq, ← hs])
    | true =>
      have hscan : Plant.scan env { p with wantScan := false } = { p with wantScan := false } := Plant.scan_of_empty env hqueue
      rw [Plant.settle, if_pos hs, hscan]
      exact hstep k _ rfl hround hq
  exact hall 398

/-- The one request of the queue, which has to wait and has not been bypassed, stays in a scan (R98, R99). -/
theorem Plant.scan_of_waiting {env : Env} {p : Plant} {x : Request} {r : RouteRecord} (hqueue : p.queue = [x])
    (hbypass : ¬env.params.bypassLimit ≤ x.bypass) (hroute : env.layout.route? x.route = some r)
    (hwait : Plant.takeTest env p r x.tram = .wait) : Plant.scan env p = p := by
  have hfind : p.request? x.route = some x := by simp [Plant.request?, hqueue, findBy_cons]
  have hpromote : Plant.promote env p x.route = p := by
    simp [Plant.promote, hfind, hbypass]
  have holder : (p.olderThan x.route).filter (fun y => env.conflict y.route x.route) = [] := by
    simp [Plant.olderThan, hqueue]
  have hoffer : Plant.offer env p x.route = p := by
    simp only [Plant.offer, hfind, hroute, holder, hwait, List.any_nil, Bool.false_eq_true, if_false]
  have hrest : (p.queue.map Request.route).foldl (fun q n => Plant.promote env q n) p = p := by
    rw [hqueue]
    exact hpromote
  unfold Plant.scan
  dsimp only
  rw [hrest, hqueue]
  exact hoffer

/-! ## The part's other timers (O57) -/

theorem Plant.advance_quiet {env : Env} {p : Plant} (h : p.quiet env) (ms : Nat) : (p.advance ms).quiet env :=
  Plant.quiet_congr h rfl rfl rfl rfl rfl

/-- An expired request that is not the sequencer's (R101). -/
theorem State.requestExpiry_of_one {s : State} {r : Request} (hqueue : s.plant.queue = [r]) (hstopped : r.stopped = none)
    (horigin : r.origin ≠ .automatic) (hauto : Plant.automatic s.env s.plant = false) (hsession : s.plant.session = none) :
    exec (.requestExpiry r.route) s = .next
      { s with
        plant := (({ s.plant.advance (r.expiry - s.plant.now) with queue := [] } : Plant).report .real
          (.requestDropped none r.route r.origin r.tram r.bypass .expired none)).unmarked } := by
  have hactive : s.plant.active = .real := Plant.active_of_none hsession
  have hfind : s.plant.request? r.route = some r := by simp [Plant.request?, hqueue, findBy_cons]
  have hexpiry : r.expiry? = some r.expiry := by simp [Request.expiry?, hstopped]
  let p := s.plant.advance (r.expiry - s.plant.now)
  have hpactive : p.active = .real := Plant.active_of_none (by simp [p, Plant.advance, hsession])
  have hfilter : p.queue.filter (fun y => y.route != r.route) = [] := by
    show s.plant.queue.filter _ = []
    simp [hqueue]
  have hdrop := Plant.dropRequest_of_origin (env := s.env) (p := p) horigin .expired .expired
  rw [hfilter, hpactive] at hdrop
  refine congrArg Host.Outcome.next ((State.event_of_quiet (p := Plant.dropRequest s.env p r .expired .expired) ?_ ?_).trans ?_)
  · simp only [hfind, hexpiry, hactive, Plant.advanceTo_real]
    rfl
  · rw [hdrop]
    refine ⟨by simp, ?_⟩
    have hreal : Plant.automatic s.env p = false := hauto
    simpa [Plant.automatic, Plant.frozen, Plant.holding] using hreal
  · rw [hdrop, Plant.askScan_unmarked]

/-- The hold's end in MANUAL (R75). -/
theorem State.restartHoldEnd_manual {s : State} {due : Nat} (hhold : s.plant.hold = some due) (hqueue : s.plant.queue = [])
    (hmode : s.plant.mode = .manual) :
    exec .restartHoldEnd s = .next
      { s with
        plant := (({ s.plant.advance (due - s.plant.now) with hold := none } : Plant).report .real .holdEnded).unmarked } := by
  let p : Plant := ({ s.plant.advance (due - s.plant.now) with hold := none } : Plant).report .real .holdEnded
  refine congrArg Host.Outcome.next ((State.event_of_quiet (p := (p.askScan p.active).askRound p.active) ?_
    (Plant.quiet_of_manual ?_ ?_)).trans ?_)
  · simp only [hhold, Plant.advanceTo_real]
    rfl
  · simp [p, Plant.advance, hqueue]
  · simp [p, Plant.advance, hmode]
  · rw [Plant.askRound_unmarked, Plant.askScan_unmarked]

/-- The plan port's silence (R154). -/
theorem State.planSilenceTimeout_of {s : State} (hlimit : s.plant.silence.limit.isSome = true)
    (hsilent : s.plant.silence.silent = false) :
    let p := s.plant.advance (s.plant.silence.deadline - s.plant.now)
    exec .planSilenceTimeout s = .next
      { s with
        plant := ({ p with silence := { p.silence with silent := true } } : Plant).reportOn .desk false .planSilent } := by
  intro p
  have hdue : (s.plant.silence.limit.isSome && !s.plant.silence.silent) = true := by simp [hlimit, hsilent]
  refine congrArg Host.Outcome.next ?_
  simp only [State.mapPlant, if_pos hdue, Plant.advanceTo_real]
  rfl

/-- The real clock's minute change (R144, R146). -/
theorem State.minuteChange_real {s : State} {m sec past : Nat} (hclock : s.plant.yard.clock = ⟨true, m, sec, past⟩) (hm : m < 2159)
    (hsec : sec < 60) (hpast : past < 1000) (hquiet : s.plant.quiet s.env) :
    ∃ t, exec (.minuteChange .real) s = .next t ∧ s.plantOnly t ∧ t.plant.yard.clock = ⟨true, m + 1, 0, 0⟩ ∧
      t.plant.now = s.plant.now + (60000 - (1000 * sec + past)) ∧
      t.plant.yard = { s.plant.yard with clock := ⟨true, m + 1, 0, 0⟩, runOut := t.plant.yard.runOut } ∧
      t.plant.yard.runOut.map RunOut.tram = s.plant.yard.runOut.map RunOut.tram := by
  have hto : s.plant.yard.clock.toNextMinute = 60000 - (sec * 1000 + past) := by rw [hclock]; rfl
  have hnext : (s.plant.yard.clock.advance s.plant.yard.clock.toNextMinute).nextMinute = ⟨true, m + 1, 0, 0⟩ := by
    have := Clock.nextMinute_advance (c := s.plant.yard.clock) (k := s.plant.yard.clock.toNextMinute) (by rw [hclock])
      (by rw [hclock]; exact hm) (by rw [hclock]; dsimp only; omega) (Nat.le_refl _) (by omega)
    exact this.trans (by rw [Nat.sub_self, show s.plant.yard.clock.minute = m by rw [hclock]])
  let q := s.plant.atNextMinute .real
  have hqyard : q.yard = { s.plant.yard with clock := ⟨true, m + 1, 0, 0⟩ } := by
    rw [← hnext]
    rfl
  have hrun : q.RunOutOnly .real (Plant.minuteChange s.env s.plant .real) :=
    Plant.minuteChange_runOutOnly rfl (by
      show s.plant.yard.clock.counts = true
      rw [hclock]
      simp [Clock.counts, Config.lastMinute, hm])
  have hyard : (Plant.minuteChange s.env s.plant .real).yard = { q.yard with
      runOut := (Plant.minuteChange s.env s.plant .real).yard.runOut } := hrun.yard
  refine ⟨_, congrArg Host.Outcome.next (State.event_of_quiet rfl (hrun.quiet (Plant.atNextMinute_quiet hquiet .real))), rfl, ?_,
    ?_, ?_, ?_⟩
  · rw [Plant.unmarked_yard, hyard, hqyard]
  · refine (congrArg Plant.now hrun.rest).trans ?_
    show s.plant.now + s.plant.yard.clock.toNextMinute = _
    rw [hto, Nat.mul_comm]
  · rw [Plant.unmarked_yard]
    exact hyard.trans (by rw [hqyard])
  · refine hrun.trams.trans ?_
    show q.yard.runOut.map RunOut.tram = _
    rw [hqyard]

/-- The time that passes, where no session stands and the clock is UNSET. -/
theorem Plant.advance_of_unset {p : Plant} (hsession : p.session = none) (hclock : p.yard.clock.set = false) (ms : Nat) :
    p.advance ms = { p with now := p.now + ms } := by
  have hsame : p.yard.clock.advance ms = p.yard.clock := by simp [Clock.advance, hclock]
  simp only [Plant.advance, hsame, hsession, Option.map_none]

/-- The round in which the head of the arrival queue reserves a road, and its request waits (R151). -/
theorem Plant.round_of_arrival {env : Env} {p : Plant} {a : Arrival} {rest : List Arrival} {c : Candidate} {more : List Candidate}
    {r : RouteRecord} (hauto : Plant.automatic env p = true) (hsession : p.session = none) (hclock : p.yard.clock.set = false)
    (hqueue : p.queue = []) (hbypass : 1 ≤ env.params.bypassLimit) (harrivals : p.yard.arrivals = a :: rest)
    (hreserved : a.reserved = none) (hcarried : p.tramCarried a.tram = false)
    (hrank : Plant.allocate env p ⟨a.tram, a.length, a.cls, a.departure⟩ = c :: more)
    (hroute : Yard.unbarredRoute env p.yard .g1 (.berth (.road c.road)) = some r) (hr : env.layout.route? r.number = some r)
    (hallowed : Plant.requestRefusal env p true r.number (some a.tram) = none)
    (hwait : Plant.takeTest env p r (some a.tram) = .wait) :
    ∃ A B, Plant.round env p = { p with
      noBerthTram := none, planOut := A, deskOut := B
      yard := { p.yard with arrivals := p.yard.arrivals.map fun b =>
        if b.tram = a.tram then { b with reserved := some c.road } else b }
      queue := [{ route := r.number, origin := .automatic, tram := some a.tram, queuedAt := p.now, queuedTime := none,
                  expiry := p.now + 1000 * env.params.requestExpiry, stopped := none, bypass := 0, held := false }] } := by
  have hcurrent : p.current = p.yard := Plant.current_of_none hsession
  let q : Plant := { p with
    noBerthTram := none
    yard := { p.yard with arrivals := p.yard.arrivals.map fun b =>
      if b.tram = a.tram then { b with reserved := some c.road } else b } }
  have hq : ({ p with noBerthTram := none } : Plant).reserveRoad a.tram c.road = q := by
    have hactive : ({ p with noBerthTram := none } : Plant).active = .real := Plant.active_of_none hsession
    rw [Plant.reserveRoad, hactive]
    simp only [beq_iff_eq]
    rfl
  have hqactive : q.active = .real := Plant.active_of_none hsession
  have hsame : ∀ z : Plant, z.freeze = p.freeze → z.hold = p.hold → z.slots = p.slots → z.links = p.links →
      z.session = p.session → z.yard = q.yard → p.SameTake z := by
    intro z hf hh hs hl hz hy
    have hzc : z.current = q.yard := (Plant.current_of_none (hz.trans hsession)).trans hy
    refine ⟨hf, hh, hs, hl, by rw [hz], by rw [hzc, hcurrent], by rw [hzc, hcurrent], by rw [hzc, hcurrent], ?_⟩
    simp only [Plant.headAnswer, hzc, hcurrent, q, harrivals, List.map_cons, if_true]
  have hmode : (q.mode == .automatic) = true := by
    have : (p.mode == .automatic) = true := by
      simp only [Plant.automatic, Bool.and_eq_true] at hauto
      exact hauto.1.1.1.1
    exact this
  have hrefusal : Plant.requestRefusal env q (q.mode == .automatic) r.number (some a.tram) = none := by
    rw [hmode, (hsame q rfl rfl rfl rfl rfl rfl).requestRefusal rfl, hallowed]
  let x : Request := {
    route := r.number, origin := .automatic, tram := some a.tram, queuedAt := p.now, queuedTime := none,
    expiry := p.now + 1000 * env.params.requestExpiry, stopped := none, bypass := 0, held := false }
  have hx : Plant.newRequest env q r.number .automatic (some a.tram) = x := by
    simp only [Plant.newRequest, hqactive]
    have htime : q.time .real = none := if_neg (by rw [show (q.yardOf .real).clock = p.yard.clock from rfl, hclock]; simp)
    rw [htime]
    rfl
  have hqueued : Plant.enqueue env q r.number .automatic (some a.tram) =
      ({ q with queue := [x] } : Plant).report .real (.requestQueued r.number .automatic (some a.tram) 1 p.now none) := by
    have hempty : q.queue = [] := hqueue
    simp only [Plant.enqueue, hx, hempty, List.nil_append]
    rw [show ({ q with queue := [x] } : Plant).active = .real from hqactive]
    rfl
  have hscan : Plant.scan env (Plant.enqueue env q r.number .automatic (some a.tram)) =
      Plant.enqueue env q r.number .automatic (some a.tram) := by
    rw [hqueued]
    refine Plant.scan_of_waiting (x := x) (r := r) (by simp) (by show ¬ _ ≤ 0; omega) hr ?_
    rw [(hsame _ (by simp [q]) (by simp [q]) (by simp [q]) (by simp [q]) (by simp [q]) (by simp [q])).takeTest]
    exact hwait
  have hstep : Plant.arrivalStep env p =
      (Plant.enqueue env q r.number .automatic (some a.tram)).report .real
        (.arrivalAllocated a.tram (.road c.road) (some c.score) (some c.mark)) := by
    have hpending : (a.reserved.isSome || p.tramCarried a.tram) = false := by rw [hreserved, hcarried]; rfl
    simp only [Plant.arrivalStep, hcurrent, harrivals, hpending, Bool.false_eq_true, if_false, hrank, hroute, hq]
    simp only [Plant.requestArrival, hrefusal, hscan, hqactive]
  have hpass : ∀ z : Plant, z.session = none → z.yard = q.yard → Plant.departurePass env z = z := by
    intro z hz hy
    have hzc : z.current.clock.set = false := by
      rw [Plant.current_of_none hz, hy]
      exact hclock
    rw [Plant.departurePass, hzc]
    rfl
  have hround : Plant.round env p =
      (({ q with queue := [x] } : Plant).report .real (.requestQueued r.number .automatic (some a.tram) 1 p.now none)).report .real
        (.arrivalAllocated a.tram (.road c.road) (some c.score) (some c.mark)) := by
    rw [Plant.round, if_pos hauto, hstep, hqueued, hpass _ (by simp [q, hsession]) (by simp)]
  exact ⟨_, _, hround⟩

/-- Settles O57, a timer at a time; at the hold's end in AUTOMATIC the round's request waits, so that nothing follows it. -/
theorem partTimersFallDue : Obligations.PartTimersFallDue := by
  unfold Obligations.PartTimersFallDue
  intro s
  refine ⟨fun r due hqueue hdue hstopped horigin hauto hsession => ?_, fun due hhold hqueue hmode => ?_,
    fun due a rest c more r hhold hqueue hmode hheld hfreeze hsession hsilent hclock hbypass harrivals hreserved hcarried hrank
      hroute hr hallowed hwait => ?_, State.planSilenceTimeout_of, fun m sec past => State.minuteChange_real⟩
  · rw [← hdue]
    exact State.requestExpiry_of_one hqueue hstopped horigin hauto hsession
  · exact State.restartHoldEnd_manual hhold hqueue hmode
  · intro now
    have hnow : s.plant.now + (due - s.plant.now) = now := by omega
    have hadvance : s.plant.advance (due - s.plant.now) = { s.plant with now := now } := by
      rw [Plant.advance_of_unset hsession hclock, hnow]
    let ended : Plant := ({ s.plant.advance (due - s.plant.now) with hold := none } : Plant).report .real .holdEnded
    obtain ⟨A, B, hended⟩ : ∃ A B, ended.unmarked = { s.plant with
        now := now, hold := none, planOut := A, deskOut := B, wantScan := false, wantRound := false } := by
      refine ⟨ended.planOut, ended.deskOut, ?_⟩
      simp only [ended, hadvance]
      rfl
    have hsame : ({ s.plant with hold := none } : Plant).SameTake ended.unmarked := by
      rw [hended]
      exact ⟨rfl, rfl, rfl, rfl, rfl, rfl, rfl, rfl, rfl⟩
    have hauto : Plant.automatic s.env ended.unmarked = true := by
      rw [hended]
      have hheld' : s.env.held = true := hheld
      simp [Plant.automatic, Plant.frozen, Plant.holding, hmode, hheld', hfreeze, hsilent]
    obtain ⟨A', B', hround⟩ := Plant.round_of_arrival (p := ended.unmarked) (a := a) (rest := rest) (c := c) (more := more) (r := r)
      hauto (by rw [hended]; exact hsession) (by rw [hended]; exact hclock) (by rw [hended]; exact hqueue) hbypass
      (by rw [hended]; exact harrivals) hreserved (by rw [hended]; exact hcarried) (by rw [hended]; exact hrank)
      (by rw [hended]; exact hroute) hr (by rw [hsame.requestRefusal (by rw [hended])]; exact hallowed)
      (by rw [hsame.takeTest]; exact hwait)
    have hsettled : Plant.settled s.env ((ended.askScan ended.active).askRound ended.active) = Plant.round s.env ended.unmarked := by
      refine Plant.settled_of_round s.env ?_ ?_ ?_ ?_
      · simp [ended, Plant.advance, hqueue]
      · simp [Plant.askRound]
      · exact congrArg (Plant.round s.env) ((Plant.askRound_unmarked ..).trans (Plant.askScan_unmarked ..))
      · rw [hround, hended]
        exact ⟨rfl, rfl⟩
    have hexec : exec .restartHoldEnd s = .next { s with plant := Plant.round s.env ended.unmarked } := by
      refine congrArg Host.Outcome.next ((State.event_of (p := (ended.askScan ended.active).askRound ended.active) ?_).trans ?_)
      · simp only [hhold, Plant.advanceTo_real]
        rfl
      · rw [hsettled]
    refine ⟨_, hexec, rfl, ?_⟩
    dsimp only
    rw [hround, hended, hadvance]
    rfl

end Sys2Proof.Machine
end

section
/-! SUPPORT. The states of the links, and what a commit and an erase make of the part (R15 to R18, Table 11-1). -/

namespace Sys2Proof.Machine

open Sys2Proof

/-! ## The link under a number -/

section
variable {env : Env} {p q r : Plant}

/-- Up to the moment of the last frame sent, what keeps the links keeps the link under a number. -/
theorem Plant.Keeps.link? (h : p.Keeps q) (n : Nat) : (q.link? n).map Link.unsent = (p.link? n).map Link.unsent := by
  have hmap := fun z : Plant => findBy_map Link.number Link.unsent (fun _ => rfl) n z.links
  exact (hmap q).symm.trans ((congrArg (findBy Link.number n) h.links).trans (hmap p))

/-- A link that is kept up to the moment of the last frame sent. -/
theorem Plant.Keeps.link?_some (h : p.Keeps q) {n : Nat} {l : Link} (hl : p.link? n = some l) :
    ∃ l', q.link? n = some l' ∧ l'.unsent = l.unsent := by
  have := h.link? n
  rw [hl] at this
  cases hq : q.link? n with
  | none => rw [hq] at this; cases this
  | some l' =>
    rw [hq] at this
    exact ⟨l', rfl, Option.some.inj this⟩

theorem Plant.link?_number {n : Nat} {l : Link} (h : p.link? n = some l) : l.number = n := findBy_key _ h

/-- What a change of a link's state makes of the link (Table 11-1). -/
theorem Plant.setLink_link? {n : Nat} {l : Link} (h : p.link? n = some l) (st : LinkState) (cause : LinkCause) :
    ∃ l', (Plant.setLink env p n st cause).link? n = some l' ∧ l'.state = st ∧ l'.bad = 0 ∧
      l'.windowEnd = (l.enter st p.now).windowEnd ∧ l'.lastGood = (l.enter st p.now).lastGood := by
  obtain ⟨q, hq, heq⟩ := Plant.setLink_cascade (env := env) h st cause
  have henter : (p.mapLink n fun x => x.enter st p.now).link? n = some (l.enter st p.now) := by
    rw [Plant.mapLink_link? p n (f := fun x => x.enter st p.now) (fun _ => rfl), h]
    simp
  obtain ⟨l', hl', hsame⟩ := hq.toKeeps.link?_some henter
  have hstate : l'.state = st := (congrArg Link.state hsame :)
  have hbad : l'.bad = 0 := (congrArg Link.bad hsame :)
  have hwindow : l'.windowEnd = (l.enter st p.now).windowEnd := (congrArg Link.windowEnd hsame :)
  have hgood : l'.lastGood = (l.enter st p.now).lastGood := (congrArg Link.lastGood hsame :)
  rw [heq]
  unfold Plant.payRetrain
  split
  · refine ⟨{ l' with retrainOwed := false }, ?_, hstate, hbad, hwindow, hgood⟩
    show (Plant.mapLink q n fun l => { l with retrainOwed := false }).link? n = _
    rw [Plant.mapLink_link? q n (f := fun l => { l with retrainOwed := false }) (fun _ => rfl), hl']
    simp
  · exact ⟨l', hl', hstate, hbad, hwindow, hgood⟩

/-! ## Links that are trained together -/

/-- Beyond the links, the frames sent on them and reports, a plant is as another. -/
def Plant.LinksOnly (p q : Plant) : Prop :=
  q = { p with planOut := q.planOut, deskOut := q.deskOut, links := q.links, linkSent := q.linkSent }

theorem Plant.LinksOnly.refl (p : Plant) : p.LinksOnly p := rfl

theorem Plant.LinksOnly.trans (h : p.LinksOnly q) (h' : q.LinksOnly r) : p.LinksOnly r :=
  Eq.trans h' (congrArg (fun z : Plant =>
    { z with planOut := r.planOut, deskOut := r.deskOut, links := r.links, linkSent := r.linkSent }) h)

theorem Plant.LinksOnly.ite {c : Prop} [Decidable c] (h : p.LinksOnly q) (h' : p.LinksOnly r) :
    p.LinksOnly (if c then q else r) := by split <;> assumption

theorem Plant.LinksOnly.report {sd : Side} {b : ReportBody} (h : p.LinksOnly q) : p.LinksOnly (q.report sd b) := h.trans rfl
theorem Plant.LinksOnly.send {n : Nat} {f : LinkFrame} (h : p.LinksOnly q) : p.LinksOnly (q.send n f) := h.trans rfl
theorem Plant.LinksOnly.mapLink {n : Nat} {f : Link → Link} (h : p.LinksOnly q) : p.LinksOnly (q.mapLink n f) := h.trans rfl

/-- What a commit or an erase makes of a link: it is trained, and loses none of its elements (R15, R18). -/
theorem Plant.setLink_train {n : Nat} {l : Link} {cause : LinkCause} (hc : cause.keepsElements = true) (hl : p.link? n = some l) :
    Plant.setLink env p n .training cause =
      if l.state = .training then (p.mapLink n fun x => x.enter .training p.now).send n (.trainingRequest n)
      else ((p.mapLink n fun x => x.enter .training p.now).send n (.trainingRequest n)).report .real
        (.linkState n l.state .training cause) := by
  have hloses : l.state.loses .training cause = false := by
    cases hs : l.state <;> simp [LinkState.loses, hc]
  have hdown : ((decide (LinkState.training = .down) || decide (LinkState.training = .disabled)) && l.state != .training) = false :=
    rfl
  simp only [Plant.setLink, hl, hloses, hdown, Bool.false_eq_true, if_false, if_true, Plant.payRetrain, bne_self_eq_false,
    Bool.false_and]

theorem Plant.LinksOnly.train {n : Nat} {cause : LinkCause} (hc : cause.keepsElements = true) (h : p.LinksOnly q) :
    p.LinksOnly (Plant.setLink env q n .training cause) := by
  cases hl : q.link? n with
  | none => rwa [Plant.setLink_of_none hl]
  | some l =>
    rw [Plant.setLink_train hc hl]
    exact .ite h.mapLink.send h.mapLink.send.report

theorem Plant.LinksOnly.trainAll {cause : LinkCause} (hc : cause.keepsElements = true) (h : p.LinksOnly q) :
    p.LinksOnly (Plant.trainAll env q cause) := by
  unfold Plant.trainAll
  generalize (q.links.filter fun l => l.state != .disabled).map Link.number = l
  induction l generalizing q with
  | nil => exact h
  | cons x l ih => exact ih (h.train hc)

/-- Training another link leaves a link as it was. -/
theorem Plant.train_link?_ne {n m : Nat} (cause : LinkCause) (hc : cause.keepsElements = true) (h : m ≠ n) :
    (Plant.setLink env p n .training cause).link? m = p.link? m := by
  cases hl : p.link? n with
  | none => rw [Plant.setLink_of_none hl]
  | some l =>
    have henter : ((p.mapLink n fun x => x.enter .training p.now).send n (.trainingRequest n)).link? m = p.link? m := by
      refine (Plant.mapLink_link? (p.mapLink n fun x => x.enter .training p.now) n
        (f := fun l => { l with lastSent := p.now }) (fun _ => rfl) m).trans ?_
      rw [Plant.mapLink_link? p n (f := fun x => x.enter .training p.now) (fun _ => rfl)]
      simp [h]
    rw [Plant.setLink_train hc hl]
    split
    · exact henter
    · exact (congrArg (findBy Link.number m) (Plant.report_links ..)).trans henter

/-- What training the links of a list of numbers makes of a link. -/
theorem Plant.trainLinks_link? (cause : LinkCause) (hc : cause.keepsElements = true) (now n : Nat) (ns : List Nat) (q : Plant)
    (hnow : q.now = now) {l : Link} (hl : q.link? n = some l) :
    (n ∉ ns → (ns.foldl (fun z k => Plant.setLink env z k .training cause) q).link? n = some l) ∧
      (n ∈ ns ∨ l.state = .training ∧ l.windowEnd = now + 5000 ∧ l.bad = 0 →
        ∃ l', (ns.foldl (fun z k => Plant.setLink env z k .training cause) q).link? n = some l' ∧ l'.state = .training ∧
          l'.windowEnd = now + 5000 ∧ l'.bad = 0) := by
  induction ns generalizing q l with
  | nil => exact ⟨fun _ => hl, fun h => ⟨l, hl, h.resolve_left List.not_mem_nil⟩⟩
  | cons k ns ih =>
    have hnext : (Plant.setLink env q k .training cause).now = now := by
      rw [(Plant.LinksOnly.refl q).train (env := env) (n := k) hc]
      exact hnow
    by_cases hk : n = k
    · subst hk
      obtain ⟨l', hl', hstate, hbad, hwindow, -⟩ := Plant.setLink_link? (env := env) hl .training cause
      refine ⟨fun h => absurd List.mem_cons_self h, fun _ => ?_⟩
      exact (ih _ hnext hl').2 (.inr ⟨hstate, hwindow.trans (by rw [← hnow]; rfl), hbad⟩)
    · have hsame : (Plant.setLink env q k .training cause).link? n = some l := (Plant.train_link?_ne cause hc hk).trans hl
      refine ⟨fun h => (ih _ hnext hsame).1 fun hn => h (List.mem_cons_of_mem _ hn), fun h => (ih _ hnext hsame).2 ?_⟩
      exact h.imp (fun hn => (List.mem_cons.mp hn).resolve_left hk) id

end

/-! ## LAYOUT COMMIT (O41) -/

/-- The plant under a new layout, before its links are trained. -/
def Plant.underLayout (p : Plant) (old new : Layout) : Plant :=
  ((p.mapYard .real (Yard.underLayout old new)).setRoads .real (keepRoads new p.yard.roads)).keepOutOfUseIf

theorem Plant.keepOutOfUseIf_rest (p : Plant) : p.keepOutOfUseIf = { p with keptOutOfUse := p.keepOutOfUseIf.keptOutOfUse } := by
  unfold Plant.keepOutOfUseIf
  split <;> rfl

/-- The flags kept in the store are those of the points (R40). -/
theorem Plant.keepOutOfUseIf_latest (p : Plant) : p.keepOutOfUseIf.keptOutOfUse.latest.getD [] = p.yard.outOfUse := by
  unfold Plant.keepOutOfUseIf
  split
  · next h => exact h.symm
  · rfl

theorem Plant.underLayout_rest (p : Plant) (old new : Layout) :
    p.underLayout old new = { p with
      yard := { Yard.underLayout old new p.yard with roads := keepRoads new p.yard.roads }
      keptRoads := ⟨some (keepRoads new p.yard.roads), p.keptRoads.latest⟩
      keptOutOfUse := (p.underLayout old new).keptOutOfUse } :=
  Plant.keepOutOfUseIf_rest _

/-- Two members of a list that agree in a key that no two share are the same. -/
theorem eq_of_nodup_map {α β : Type} {f : α → β} {l : List α} (h : (l.map f).Nodup) {a b : α} (ha : a ∈ l) (hb : b ∈ l)
    (hf : f a = f b) : a = b := by
  have hne : l.Pairwise fun x y => f x ≠ f y := List.pairwise_map.mp h
  exact List.Pairwise.forall_of_forall_of_flip (R := fun x y => f x = f y → x = y) (fun _ _ _ => rfl)
    (hne.imp fun hxy he => absurd he hxy) (hne.imp fun hxy he => absurd he.symm hxy) ha hb hf

/-- What a commit makes of the plant (R15 to R17). -/
theorem State.commit_plant (s : State) (g : Staging) :
    ∃ q, (s.plant.underLayout s.store.layout g.layout).LinksOnly q ∧ q.RunOutOnly .real (s.commit g).plant ∧
      ∀ n l, s.plant.link? n = some l →
        ((s.plant.links.map Link.number).Nodup → l.state = .disabled → (s.commit g).plant.link? n = some l) ∧
        (l.state ≠ .disabled → ∃ l', (s.commit g).plant.link? n = some l' ∧ l'.state = .training ∧
          l'.windowEnd = s.plant.now + 5000 ∧ l'.bad = 0) := by
  let env : Env := ({ s with store := s.store.commit g } : State).env
  let z := (s.plant.underLayout s.store.layout g.layout).report .real (.layoutCommitted g.fresh)
  have hz : z.links = s.plant.links := (Plant.report_links ..).trans (by rw [Plant.underLayout_rest])
  have hznow : z.now = s.plant.now := (Plant.report_now ..).trans (by rw [Plant.underLayout_rest])
  have hrun : (Plant.trainAll env z .commit).RunOutOnly .real (s.commit g).plant :=
    .askRound (.workReadiness (.refl _ _))
  have hlinks : (s.commit g).plant.links = (Plant.trainAll env z .commit).links := by rw [hrun.rest]
  refine ⟨Plant.trainAll env z .commit, .trainAll rfl (.report (.refl _)), hrun, fun n l hl => ?_⟩
  have hlz : z.link? n = some l := by
    rw [Plant.link?, hz]
    exact hl
  obtain ⟨hsame, htrained⟩ := Plant.trainLinks_link? (env := env) .commit rfl s.plant.now n
    ((z.links.filter fun l => l.state != .disabled).map Link.number) z hznow hlz
  have hlink : (s.commit g).plant.link? n = (Plant.trainAll env z .commit).link? n := by rw [Plant.link?, hlinks]; rfl
  rw [hlink]
  refine ⟨fun hnodup hdisabled => hsame fun hmem => ?_, fun hstate => htrained (.inl ?_)⟩
  · obtain ⟨l', hl', hn⟩ := List.mem_map.mp hmem
    obtain ⟨hl'mem, hl'state⟩ := List.mem_filter.mp hl'
    rw [hz] at hl'mem
    have hsame : l' = l := eq_of_nodup_map hnodup hl'mem (findBy_mem _ hl) (hn.trans (Plant.link?_number hl).symm)
    rw [hsame, hdisabled] at hl'state
    cases hl'state
  · refine List.mem_map.mpr ⟨l, List.mem_filter.mpr ⟨?_, by simpa using hstate⟩, Plant.link?_number hl⟩
    rw [hz]
    exact findBy_mem _ hl

theorem layoutCommitAnswer_done {s : State} {port : Port} {g : Staging} (hsession : s.plant.session = none)
    (hpermit : (s.portIn port).layoutPermit = true) (hg : s.store.staging = some g) (howner : g.owner = port)
    (hmatches : g.matches s.store = true) (hquiescent : s.plant.quiescent = true)
    (hvalid : g.layout.validate s.settings.stored.berthGap s.plant.yard = none) : layoutCommitAnswer port s = .done := by
  have howns : s.owns port = true := by simp [State.owns, hg, howner]
  have hall : ∀ x ∈ layoutConditions port s ++
      [(!s.owns port, .state), (!g.matches s.store, .layoutMismatch), (!s.plant.quiescent, .notQuiescent)], x.1 = false := by
    intro x hx
    rcases List.mem_append.mp hx with hx | hx
    · refine layoutConditions_passed hsession hpermit (fun g' hg' => ?_) x hx
      rw [hg] at hg'
      cases hg'
      exact howner
    · simp only [howns, hmatches, hquiescent, List.mem_cons, List.not_mem_nil, or_false] at hx
      rcases hx with rfl | rfl | rfl <;> rfl
  simp only [layoutCommitAnswer, hg, judge_of_all_false hall, hvalid]

/-- Settles O41: the store and the tables are those of the commit, and after it only the run-out list of the yard is worked. -/
theorem layoutCommitStores : Obligations.LayoutCommitStores := by
  unfold Obligations.LayoutCommitStores
  intro s port tag g hears hsession hpermit hg howner hmatches hquiescent hvalid
  let u := s.answered port TelegramKind.layoutCommit.code tag .done
  have hug : u.store.staging = some g := by simp [u, hg]
  have hexec : exec (.layoutCommit port tag) s = .next ((u.commit g).event fun _ p => p) := by
    refine congrArg Host.Outcome.next ((State.takeTelegram_of_hears hears (a := .done) ?_ (by simp)).trans ?_)
    · refine layoutCommitAnswer_done (g := g) ?_ ?_ ?_ howner ?_ ?_ ?_ <;> simpa
    · show (match u.store.staging with
        | some g => (u.commit g).event fun _ p => p
        | none => u) = _
      rw [hug]
  obtain ⟨q, hlinks, hrun, hlink⟩ := u.commit_plant g
  have hplant : u.plant.yard = s.plant.yard := by simp [u]
  have hkept : u.plant.keptRoads = s.plant.keptRoads := by simp [u]
  have hstore : u.store = s.store := by simp [u]
  refine ⟨_, hexec, rfl, ?_, fun hmode hnodup => ?_⟩
  · show u.store.commit g = _
    rw [hstore]
    rfl
  · intro old new y
    generalize hz : u.commit g = z at hrun hlink
    have hrest := hrun.rest
    have hunder := Plant.underLayout_rest u.plant u.store.layout g.layout
    have hqueue : q.queue = [] := by
      rw [hlinks, hunder]
      exact (by simp [u] : u.plant.queue = s.plant.queue).trans (Plant.quiescent_queue hquiescent)
    have hmanual : q.mode = .manual := by
      rw [hlinks, hunder]
      exact (by simp [u] : u.plant.mode = s.plant.mode).trans hmode
    have hquiet : z.plant.quiet z.env :=
      Plant.quiet_of_manual ((congrArg Plant.queue hrest :).trans hqueue) ((congrArg Plant.mode hrest :).trans hmanual)
    rw [State.event_of_quiet (p := z.plant) rfl hquiet]
    have hqyard : q.yard = { Yard.underLayout old new y with roads := keepRoads new y.roads } := by
      rw [hlinks, hunder, hstore, hplant]
    have hyard : z.plant.yard = { q.yard with runOut := z.plant.yard.runOut } := hrun.yard
    have hyard' := hyard
    rw [hqyard] at hyard'
    have hnew : z.plant.keptRoads = ⟨some (keepRoads new y.roads), s.plant.keptRoads.latest⟩ := by
      refine (congrArg Plant.keptRoads hrest :).trans ?_
      rw [hlinks, hunder, hplant, hkept]
    have hflags : z.plant.keptOutOfUse.latest.getD [] = q.yard.outOfUse := by
      have hkeptOut : z.plant.keptOutOfUse = (u.plant.underLayout u.store.layout g.layout).keptOutOfUse := by
        refine (congrArg Plant.keptOutOfUse hrest :).trans ?_
        rw [hlinks]
      have hsame : q.yard = (u.plant.underLayout u.store.layout g.layout).yard := by rw [hlinks]
      rw [hkeptOut, hsame, hunder]
      exact Plant.keepOutOfUseIf_latest _
    refine ⟨hyard', ?_, ?_, fun n l hl => ?_⟩
    · show z.plant.keptRoads = _
      rw [hnew]
      show _ = (⟨some z.plant.yard.roads, _⟩ : Store (List Road))
      rw [hyard']
    · show z.plant.keptOutOfUse.latest.getD [] = z.plant.yard.outOfUse
      rw [hflags, hyard]
      rfl
    · have hul : u.plant.link? n = some l := (by simp [u, Plant.link?] : u.plant.link? n = s.plant.link? n).trans hl
      obtain ⟨hdisabled, htrained⟩ := hlink n l hul
      refine ⟨hdisabled (by simpa [u] using hnodup), fun hstate => ?_⟩
      have hnow : u.plant.now = s.plant.now := by simp [u]
      rw [← hnow]
      exact htrained hstate

end Sys2Proof.Machine
end

section
/-! SUPPORT. The records of a layout under their keys, and LAYOUT RECORD and LAYOUT ERASE (R11, R18). -/

namespace Sys2Proof.Machine

open Sys2Proof

/-! ## Records under their keys (Table 1-1) -/

/-- A layout with a record, as the store holds it, put in its table. -/
def Layout.putHeld (l : Layout) : LayoutRecord → Layout
  | .point x => { l with points := putBy PointRecord.number x l.points }
  | .track x => { l with tracks := putBy TrackRecord.number x l.tracks }
  | .signal x => { l with signals := putBy SignalRecord.number x l.signals }
  | .road x => { l with roads := putBy RoadRecord.number x l.roads }
  | .headshunt x => { l with headshunts := putBy HeadshuntRecord.number x l.headshunts }
  | .gate x => { l with gates := putBy GateRecord.number x l.gates }
  | .route x => { l with routes := putBy RouteRecord.number x l.routes }

theorem Layout.put_eq (l : Layout) (r : LayoutRecord) : l.put r = l.putHeld (normalRecord r) := by
  unfold Layout.put
  cases normalRecord r <;> rfl

theorem keyOf_normalRecord (r : LayoutRecord) : keyOf (normalRecord r) = keyOf r := by
  cases r with
  | gate g =>
    show Key.gate (if g.number = 2 then { g with signal := none, approach := none } else g).number = .gate g.number
    split <;> rfl
  | _ => rfl

/-- What is put is found under its key. -/
theorem Layout.record?_putHeld_self (l : Layout) (x : LayoutRecord) : (l.putHeld x).record? (keyOf x) = some x := by
  cases x with
  | point x => exact congrArg (Option.map LayoutRecord.point) (findBy_putBy_self _ x _)
  | track x => exact congrArg (Option.map LayoutRecord.track) (findBy_putBy_self _ x _)
  | signal x => exact congrArg (Option.map LayoutRecord.signal) (findBy_putBy_self _ x _)
  | road x => exact congrArg (Option.map LayoutRecord.road) (findBy_putBy_self _ x _)
  | headshunt x => exact congrArg (Option.map LayoutRecord.headshunt) (findBy_putBy_self _ x _)
  | gate x => exact congrArg (Option.map LayoutRecord.gate) (findBy_putBy_self _ x _)
  | route x => exact congrArg (Option.map LayoutRecord.route) (findBy_putBy_self _ x _)

/-- Keys of one table that differ have numbers that differ. -/
theorem Layout.record?_putHeld_ne (l : Layout) (x : LayoutRecord) {key : Key} (h : key ≠ keyOf x) :
    (l.putHeld x).record? key = l.record? key := by
  cases x with
  | point x => cases key with
    | point n => exact congrArg (Option.map LayoutRecord.point) (findBy_putBy_ne _ x _ fun hn => h (congrArg Key.point hn))
    | _ => rfl
  | track x => cases key with
    | track n => exact congrArg (Option.map LayoutRecord.track) (findBy_putBy_ne _ x _ fun hn => h (congrArg Key.track hn))
    | _ => rfl
  | signal x => cases key with
    | signal n => exact congrArg (Option.map LayoutRecord.signal) (findBy_putBy_ne _ x _ fun hn => h (congrArg Key.signal hn))
    | _ => rfl
  | road x => cases key with
    | road n => exact congrArg (Option.map LayoutRecord.road) (findBy_putBy_ne _ x _ fun hn => h (congrArg Key.road hn))
    | _ => rfl
  | headshunt x => cases key with
    | headshunt n =>
      exact congrArg (Option.map LayoutRecord.headshunt) (findBy_putBy_ne _ x _ fun hn => h (congrArg Key.headshunt hn))
    | _ => rfl
  | gate x => cases key with
    | gate n => exact congrArg (Option.map LayoutRecord.gate) (findBy_putBy_ne _ x _ fun hn => h (congrArg Key.gate hn))
    | _ => rfl
  | route x => cases key with
    | route n => exact congrArg (Option.map LayoutRecord.route) (findBy_putBy_ne _ x _ fun hn => h (congrArg Key.route hn))
    | _ => rfl

/-- What is removed is not found. -/
theorem Layout.record?_remove_self (l : Layout) (key : Key) : (l.remove key).record? key = none := by
  cases key with
  | point n => exact congrArg (Option.map LayoutRecord.point) (findBy_delBy_self _ n _)
  | track n => exact congrArg (Option.map LayoutRecord.track) (findBy_delBy_self _ n _)
  | signal n => exact congrArg (Option.map LayoutRecord.signal) (findBy_delBy_self _ n _)
  | road n => exact congrArg (Option.map LayoutRecord.road) (findBy_delBy_self _ n _)
  | headshunt n => exact congrArg (Option.map LayoutRecord.headshunt) (findBy_delBy_self _ n _)
  | gate n => exact congrArg (Option.map LayoutRecord.gate) (findBy_delBy_self _ n _)
  | route n => exact congrArg (Option.map LayoutRecord.route) (findBy_delBy_self _ n _)

theorem Layout.record?_remove_ne (l : Layout) {key key' : Key} (h : key' ≠ key) : (l.remove key).record? key' = l.record? key' := by
  cases key with
  | point n => cases key' with
    | point m => exact congrArg (Option.map LayoutRecord.point) (findBy_delBy_ne _ _ fun hn => h (congrArg Key.point hn))
    | _ => rfl
  | track n => cases key' with
    | track m => exact congrArg (Option.map LayoutRecord.track) (findBy_delBy_ne _ _ fun hn => h (congrArg Key.track hn))
    | _ => rfl
  | signal n => cases key' with
    | signal m => exact congrArg (Option.map LayoutRecord.signal) (findBy_delBy_ne _ _ fun hn => h (congrArg Key.signal hn))
    | _ => rfl
  | road n => cases key' with
    | road m => exact congrArg (Option.map LayoutRecord.road) (findBy_delBy_ne _ _ fun hn => h (congrArg Key.road hn))
    | _ => rfl
  | headshunt n => cases key' with
    | headshunt m =>
      exact congrArg (Option.map LayoutRecord.headshunt) (findBy_delBy_ne _ _ fun hn => h (congrArg Key.headshunt hn))
    | _ => rfl
  | gate n => cases key' with
    | gate m => exact congrArg (Option.map LayoutRecord.gate) (findBy_delBy_ne _ _ fun hn => h (congrArg Key.gate hn))
    | _ => rfl
  | route n => cases key' with
    | route m => exact congrArg (Option.map LayoutRecord.route) (findBy_delBy_ne _ _ fun hn => h (congrArg Key.route hn))
    | _ => rfl

/-! ## Readiness where no tram has a road -/

/-- The readiness of a tram that stands on no berth road (R147). -/
def lostReadiness : Readiness := ⟨.lost, 0, []⟩

/-- A readiness handed to a tram: its entries have it, and the others keep theirs. -/
theorem Plant.mem_handReadiness {p : Plant} {sd : Side} {t : Nat} {r : Readiness} {e : RunOut}
    (h : e ∈ ((p.handReadiness sd t r).yardOf sd).runOut) :
    e.tram = t ∧ e.readiness = some r ∨
      e.tram ≠ t ∧ ∃ e' ∈ (p.yardOf sd).runOut, e'.tram = e.tram ∧ e'.readiness = e.readiness := by
  have hmap : ∀ x ∈ ((p.mapRunOut sd t fun e => { e with readiness := some r }).yardOf sd).runOut,
      x.tram = t ∧ x.readiness = some r ∨
        x.tram ≠ t ∧ ∃ e' ∈ (p.yardOf sd).runOut, e'.tram = x.tram ∧ e'.readiness = x.readiness := by
    intro x hx
    rw [Plant.mapRunOut_runOut] at hx
    obtain ⟨y, hy, rfl⟩ := List.mem_map.mp hx
    by_cases hyt : y.tram = t
    · simp [hyt]
    · simp only [beq_iff_eq, hyt, if_false]
      exact .inr ⟨hyt, y, hy, rfl, rfl⟩
  unfold Plant.handReadiness at h
  dsimp only at h
  rw [Plant.askRound_yardOf] at h
  split at h
  · split at h
    · obtain ⟨x, hx, ht, -, hr⟩ := Plant.mem_setRunOutState h
      rw [← ht, ← hr]
      exact hmap x hx
    · exact hmap e h
  · exact hmap e h

/-- Where there is no berth road, every entry of the list is worked to LOST. -/
theorem Plant.workReadiness_lost {p : Plant} {sd : Side} (h : (p.yardOf sd).roads = []) :
    ∀ e ∈ ((p.workReadiness sd false).yardOf sd).runOut, e.readiness = some lostReadiness := by
  have hwork : ∀ q, p.RunOutOnly sd q → ∀ t d, (q.yardOf sd).readinessOf t d = lostReadiness := by
    intro q hq t d
    rw [hq.readinessOf]
    simp [Yard.readinessOf, Yard.roadOfTram, h, lostReadiness]
  have hfold : ∀ (l : List RunOut) (q : Plant), p.RunOutOnly sd q →
      (∀ e ∈ (q.yardOf sd).runOut, e.readiness = some lostReadiness ∨
        ∃ x ∈ l, x.tram = e.tram ∧ x.readiness ≠ some lostReadiness) →
      ∀ e ∈ ((l.foldl (fun q e =>
        let r := (q.yardOf sd).readinessOf e.tram e.departure
        if false || e.readiness != some r then q.handReadiness sd e.tram r else q) q).yardOf sd).runOut,
        e.readiness = some lostReadiness := by
    intro l
    induction l with
    | nil =>
      intro q _ hq e he
      exact (hq e he).resolve_right (by simp)
    | cons x l ih =>
      intro q hpq hq
      rw [List.foldl_cons]
      refine ih _ (.ite hpq.handReadiness hpq) fun e he => ?_
      simp only [hwork q hpq, Bool.false_or] at he
      by_cases hx : x.readiness = some lostReadiness
      · rw [if_neg (by simp [hx])] at he
        refine (hq e he).imp id fun ⟨y, hy, hyt, hyr⟩ => ⟨y, (List.mem_cons.mp hy).resolve_left ?_, hyt, hyr⟩
        rintro rfl
        exact hyr hx
      · rw [if_pos (by simpa using hx)] at he
        rcases Plant.mem_handReadiness he with ⟨-, hr⟩ | ⟨hne, e', he', ht, hr⟩
        · exact .inl hr
        · rw [← hr, ← ht]
          refine (hq e' he').imp id fun ⟨y, hy, hyt, hyr⟩ => ⟨y, (List.mem_cons.mp hy).resolve_left ?_, hyt, hyr⟩
          rintro rfl
          exact hne (ht.symm.trans hyt.symm)
  refine hfold _ p (.refl sd p) fun e he => ?_
  by_cases hlost : e.readiness = some lostReadiness
  · exact .inl hlost
  · exact .inr ⟨e, he, rfl, hlost⟩

/-! ## LAYOUT RECORD and LAYOUT ERASE (O42) -/

/-- The owner of the staging area changes its layout. -/
theorem State.mapStaging_of {s : State} {g : Staging} (hg : s.store.staging = some g) (f : Layout → Layout) :
    s.mapStaging f = { s with store := { s.store with staging := some { g with layout := f g.layout } } } := by
  simp [State.mapStaging, hg]

theorem recordConditions_passed {s : State} {port : Port} {g : Staging} (hp : (s.portIn port).layoutPermit = true)
    (hg : s.store.staging = some g) (howner : g.owner = port) : ∀ x ∈ recordConditions port s, x.1 = false := by
  have hown : ∀ g', s.store.staging = some g' → g'.owner = port := by
    intro g' hg'
    rw [hg] at hg'
    cases hg'
    exact howner
  simp [recordConditions, hp, State.otherOwns_eq_false hown, State.owns, hg, howner]

/-- The plant without its elements, its berth roads and its trams, before its links are trained. -/
def Plant.emptied (p : Plant) : Plant :=
  (((p.mapYard .real fun y => { y with points := [], tracks := [], signals := [], readers := [], expectations := [] }).setRoads
    .real []).setArrivals .real []).keepOutOfUseIf

theorem Plant.emptied_yard (p : Plant) :
    p.emptied.yard = { Yard.empty with runOut := p.yard.runOut, faults := p.yard.faults, clock := p.yard.clock } := by
  rw [Plant.emptied, Plant.keepOutOfUseIf_rest]
  exact Plant.setArrivals_yardOf _ .real []

theorem Plant.emptied_queue (p : Plant) : p.emptied.queue = p.queue := by
  rw [Plant.emptied, Plant.keepOutOfUseIf_rest]
  simp

/-- What an erase makes of the plant (R18). -/
theorem State.erase_plant (s : State) : ∃ q, s.plant.emptied.LinksOnly q ∧ s.erase.plant = q.workReadiness .real false :=
  ⟨(Plant.trainAll ({ s with store := s.store.erase } : State).env s.plant.emptied .erase).report .real .layoutErased,
    .report (.trainAll rfl (.refl _)), rfl⟩

/-- Nothing is left to scan after an erase, no element, no road and no tram stands, and every departure is LOST. -/
theorem State.erase_spec {s : State} (hqueue : s.plant.queue = []) :
    s.erase.plant.quiet s.erase.env ∧
      s.erase.plant.yard = { Yard.empty with
        runOut := s.erase.plant.yard.runOut, faults := s.plant.yard.faults, clock := s.plant.yard.clock } ∧
      s.erase.plant.yard.planned = s.plant.yard.planned ∧ ∀ e ∈ s.erase.plant.yard.runOut, e.readiness = some lostReadiness := by
  obtain ⟨q, hlinks, herase⟩ := s.erase_plant
  have hheld : s.erase.env.held = false := rfl
  generalize s.erase = z at herase hheld ⊢
  have hrun : q.RunOutOnly .real z.plant := herase ▸ .workReadiness (.refl _ _)
  have hqyard : q.yard = { Yard.empty with
      runOut := s.plant.yard.runOut, faults := s.plant.yard.faults, clock := s.plant.yard.clock } := by
    rw [hlinks]
    exact Plant.emptied_yard _
  have hempty : z.plant.queue = [] := by
    rw [hrun.rest, hlinks]
    exact (Plant.emptied_queue _).trans hqueue
  refine ⟨⟨hempty, by simp [Plant.automatic, hheld]⟩, ?_, ?_, ?_⟩
  · have hyard : z.plant.yard = { q.yard with runOut := z.plant.yard.runOut } := hrun.yard
    rw [hqyard] at hyard
    exact hyard
  · refine hrun.planned.trans ?_
    show q.yard.planned = _
    rw [hqyard]
    rfl
  · rw [herase]
    refine Plant.workReadiness_lost (sd := .real) ?_
    show q.yard.roads = []
    rw [hqyard]
    rfl

/-- Settles O42. -/
theorem layoutRecordAndErase : Obligations.LayoutRecordAndErase := by
  unfold Obligations.LayoutRecordAndErase
  intro s port tag
  refine ⟨?_, fun hears hsession hpermit hown hheld hquiescent => ?_⟩
  · intro g hears hpermit hg howner u
    have hconditions := recordConditions_passed (s := s.dispatch port TelegramKind.layoutRecord.code tag) (port := port) (g := g)
      (by simpa using hpermit) (by simpa using hg) howner
    have hstaging : u.store.staging = some g := by simpa [u] using hg
    refine ⟨fun record hrecord => ?_, fun key => ?_⟩
    · refine ⟨g.layout.put record, congrArg Host.Outcome.next ((State.takeTelegram_of_hears hears (a := .done) ?_
        (by simp)).trans ((State.mapStaging_of hstaging _).trans (by simp [u]))), ?_, fun key hkey => ?_⟩
      · exact (judge_of_all_false hconditions).trans (by rw [hrecord])
      · rw [Layout.put_eq, ← keyOf_normalRecord]
        exact Layout.record?_putHeld_self _ _
      · rw [Layout.put_eq]
        exact Layout.record?_putHeld_ne _ _ (by rwa [keyOf_normalRecord])
    · exact ⟨g.layout.remove key, congrArg Host.Outcome.next ((State.takeTelegram_of_hears hears (a := .done)
        (judge_of_all_false hconditions) (by simp)).trans ((State.mapStaging_of hstaging _).trans (by simp [u]))),
        Layout.record?_remove_self _ _, fun key' hkey => Layout.record?_remove_ne _ hkey⟩
  · let u := s.answered port TelegramKind.layoutErase.code tag .done
    have hexec : exec (.layoutErase port tag s.store.identity) s = .next (u.erase.event fun _ p => p) := by
      refine congrArg Host.Outcome.next (State.takeTelegram_of_hears hears (a := .done) (judge_of_all_false fun x hx => ?_) (by simp))
      rcases List.mem_append.mp hx with hx | hx
      · exact layoutConditions_passed (by simpa using hsession) (by simpa using hpermit) (by simpa using hown) x hx
      · simp only [List.mem_cons, List.not_mem_nil, or_false] at hx
        rcases hx with rfl | rfl | rfl
        · simp [hheld]
        · simp
        · simp [hquiescent]
    have hqueue : u.plant.queue = [] := (by simp [u] : u.plant.queue = s.plant.queue).trans (Plant.quiescent_queue hquiescent)
    have hyardu : u.plant.yard = s.plant.yard := by simp [u]
    have hstore : u.erase.store = s.store.erase := by
      show u.store.erase = _
      rw [show u.store = s.store by simp [u]]
    have hu : u.erase = { u with store := u.erase.store, plant := u.erase.plant } := rfl
    obtain ⟨hquiet, hyard, hplanned, hlost⟩ := State.erase_spec hqueue
    rw [hyardu] at hyard hplanned
    generalize u.erase = z at hexec hstore hu hquiet hyard hplanned hlost
    rw [State.event_of_quiet (p := z.plant) rfl hquiet] at hexec
    refine ⟨_, hexec, ?_, ?_, hyard, hplanned, hlost⟩
    · rw [hu]
    · exact hstore.trans rfl

end Sys2Proof.Machine
end

section
/-! SUPPORT. The berth effects of the route events (R113 to R118), and what of the real yard's elements no rule of route locking
changes. -/

namespace Sys2Proof.Machine

open Sys2Proof

/-! ## The berth effects of route events -/

section
variable {env : Env}

theorem Plant.lockedArrival_berthsOnly (p : Plant) (sl : Slot) (dest : Berth) : p.BerthsOnly p.active (p.lockedArrival sl dest) := by
  unfold Plant.lockedArrival
  dsimp only
  split
  · exact (Plant.BerthsOnly.refl _ p).setArrivals.mapRoad.passBerthChange.report
  · exact (Plant.BerthsOnly.refl _ p).unverify

theorem Plant.lockedShuntIn_berthsOnly (p : Plant) (sl : Slot) (origin dest : Berth) :
    p.BerthsOnly p.active (p.lockedShuntIn sl origin dest) := by
  unfold Plant.lockedShuntIn
  dsimp only
  split
  · exact .ite (Plant.BerthsOnly.refl _ p).mapRoads.passBerthChange.report.report (Plant.BerthsOnly.refl _ p).unverifyAll
  · exact (Plant.BerthsOnly.refl _ p).unverifyAll

theorem Plant.routeLocked_berthsOnly (p : Plant) (sl : Slot) : p.BerthsOnly p.active (Plant.routeLocked env p sl) := by
  unfold Plant.routeLocked
  split
  · exact .refl _ _
  · split
    · exact p.lockedArrival_berthsOnly ..
    · exact p.lockedArrival_berthsOnly ..
    · exact p.lockedShuntIn_berthsOnly ..
    · exact .refl _ _

theorem Plant.routeOpened_berthsOnly (p : Plant) (sl : Slot) : p.BerthsOnly p.active (Plant.routeOpened env p sl) := by
  have h := Plant.BerthsOnly.refl p.active p
  unfold Plant.routeOpened
  dsimp only
  split
  · exact h
  · split
    · exact .ite h.mapRoad.passBerthChange.noteDeparting.report h.unverify
    · exact h.unverify
  · exact h

theorem Plant.BerthsOnly.expect {sd : Side} {p q : Plant} {t : Nat} {b : Berth} (h : p.BerthsOnly sd q) :
    p.BerthsOnly sd (q.expect sd t b) := by
  unfold Plant.expect
  refine .mapYard ?_ fun _ => rfl
  split
  · exact .ite (h.mapYard fun _ => rfl).report h
  · exact h

theorem Plant.firstSectionCleared_berthsOnly (p : Plant) (sl : Slot) :
    p.BerthsOnly p.active (Plant.firstSectionCleared env p sl) := by
  have h := Plant.BerthsOnly.refl p.active p
  unfold Plant.firstSectionCleared
  dsimp only
  split
  · exact h
  · split
    · exact h
    · split
      · refine .ite ?_ h.unverify
        split
        · exact h.mapRoads.passBerthChange.noteStabled.report.report
        · exact h.mapRoad.expect.passBerthChange.noteGone.report
      · exact h.unverify
    · exact h

/-- The count of arrivals of a session, where there is one. -/
theorem Plant.BerthsOnly.countArrival {p q : Plant} {k : RouteKind} (h : p.BerthsOnly p.active q) :
    p.BerthsOnly p.active
      (q.mapSession fun c => if k.fromGate then { c with arrivals := c.arrivals + 1 } else c) := by
  cases hs : p.session with
  | none =>
    have hreal := Plant.active_of_none hs
    have hq : q.session = none := (h.real hreal).trans hs
    have hsame : q.mapSession (fun c => if k.fromGate then { c with arrivals := c.arrivals + 1 } else c) = q := by
      simp only [Plant.mapSession, hq, Option.map_none]
      rw [← hq]
    rwa [hsame]
  | some c =>
    rw [Plant.active_of_some hs] at h ⊢
    exact h.mapSession (fun c => by split <;> rfl) (fun c => by split <;> rfl)

theorem Plant.freedNormally_berthsOnly (p : Plant) (sl : Slot) : p.BerthsOnly p.active (Plant.freedNormally env p sl) := by
  have h := Plant.BerthsOnly.refl p.active p
  unfold Plant.freedNormally
  dsimp only
  split
  · exact h
  · exact .ite h.mapRoad.countArrival.passBerthChange.report h.unverify
  · exact h

theorem Plant.freedBeforeEntry_berthsOnly (p : Plant) (sl : Slot) :
    p.BerthsOnly p.active (Plant.freedBeforeEntry env p sl) := by
  have h := Plant.BerthsOnly.refl p.active p
  unfold Plant.freedBeforeEntry
  dsimp only
  split
  · split
    · split
      · exact h.mapRoad.setArrivals.passBerthChange.report
      · exact h
    · refine .ite ?_ (.ite h.mapRoad.passBerthChange.noteStabled.report h)
      split
      · split
        · exact h.mapRoads.passBerthChange.report.report
        · exact h
      · exact h
    · exact h
  · exact h

theorem Plant.freedAfterEntry_berthsOnly (p : Plant) (sl : Slot) :
    p.BerthsOnly p.active (Plant.freedAfterEntry env p sl) := by
  unfold Plant.freedAfterEntry
  split
  · exact (Plant.BerthsOnly.refl _ p).unverifyAll
  · exact .refl _ _

theorem Plant.endEvent_berthsOnly (p : Plant) (sl : Slot) (c : RouteCause) :
    p.BerthsOnly p.active (Plant.endEvent env p sl c) :=
  .ite (p.freedNormally_berthsOnly sl) (.ite (p.freedAfterEntry_berthsOnly sl) (p.freedBeforeEntry_berthsOnly sl))

theorem Plant.BerthsOnly.clearReservation {sd : Side} {p q : Plant} {t : Nat} (h : p.BerthsOnly sd q) :
    p.BerthsOnly sd (q.clearReservation sd t) := h.mapYard fun _ => rfl

theorem Plant.BerthsOnly.handFate {sd : Side} {p q : Plant} {o : Option Origin} {n : Nat} {t : Option Nat} {f : Fate}
    (h : p.BerthsOnly sd q) : p.BerthsOnly sd (Plant.handFate env q sd o n t f) := by
  unfold Plant.handFate
  split
  · refine .askRound ?_
    split
    · exact h
    · split
      · exact .ite h h.clearReservation
      · exact h.departureFate
  · exact h

end

end Sys2Proof.Machine
end

section
/-! SUPPORT. What route locking leaves of the real yard's elements as their reports have made it: the detection of a point at rest,
the state of a section, the aspect, lamp and number of a signal (chapters 2 to 5). -/

namespace Sys2Proof.Machine

open Sys2Proof

/-! ## The relation -/

/-- A point but for its claim and its locks, of which none has been added. -/
structure Point.Kept (y x : Point) : Prop where
  rest : x = { y with claim := x.claim, locks := x.locks }
  locks : x.locks.Sublist y.locks
  claim : x.claim = y.claim ∨ x.claim = none

theorem Point.Kept.refl (x : Point) : x.Kept x := ⟨rfl, .refl _, .inl rfl⟩

theorem Point.Kept.trans {x y z : Point} (h : x.Kept y) (h' : y.Kept z) : x.Kept z where
  rest := h'.rest.trans (congrArg (fun w : Point => { w with claim := z.claim, locks := z.locks }) h.rest)
  locks := h'.locks.trans h.locks
  claim := by
    rcases h'.claim with hz | hz
    · rw [hz]
      exact h.claim
    · exact .inr hz

/-- A point that nothing claims and nothing locks stays as it is. -/
theorem Point.Kept.eq_of_free {x y : Point} (h : x.Kept y) (hc : x.claim = none) (hl : x.locks = []) : y = x := by
  have hclaim : y.claim = none := h.claim.elim (fun hy => hy.trans hc) id
  have hlocks : y.locks = [] := List.sublist_nil.mp (hl ▸ h.locks)
  rw [h.rest, hclaim, hlocks, ← hc, ← hl]

/-- What of a yard's elements stays: every point but those of an exception, every section's state, every signal's report. -/
structure Yard.FieldKept (ex : Nat → Prop) (y z : Yard) : Prop where
  numbers : ∀ k, (z.point? k).isSome = (y.point? k).isSome
  points : ∀ k x, ¬ex k → y.point? k = some x → ∃ x', z.point? k = some x' ∧ x.Kept x'
  tracks : ∀ k, (z.track? k).map Track.state = (y.track? k).map Track.state
  signals : ∀ k, (z.signal? k).map (fun g => (g.reported, g.lamp, g.answered)) =
    (y.signal? k).map fun g => (g.reported, g.lamp, g.answered)
  raised : ∀ k, (z.signal? k).map Signal.wrongRaised = (y.signal? k).map Signal.wrongRaised

section
variable {ex : Nat → Prop} {y z w : Yard}

theorem Yard.FieldKept.refl (ex : Nat → Prop) (y : Yard) : Yard.FieldKept ex y y :=
  ⟨fun _ => rfl, fun _ x _ h => ⟨x, h, .refl x⟩, fun _ => rfl, fun _ => rfl, fun _ => rfl⟩

theorem Yard.FieldKept.trans (h : y.FieldKept ex z) (h' : z.FieldKept ex w) : y.FieldKept ex w where
  numbers k := (h'.numbers k).trans (h.numbers k)
  points k x hk hx := by
    obtain ⟨x1, hx1, hkept1⟩ := h.points k x hk hx
    obtain ⟨x2, hx2, hkept2⟩ := h'.points k x1 hk hx1
    exact ⟨x2, hx2, hkept1.trans hkept2⟩
  tracks k := (h'.tracks k).trans (h.tracks k)
  signals k := (h'.signals k).trans (h.signals k)
  raised k := (h'.raised k).trans (h.raised k)

theorem Yard.FieldKept.of_tables (hp : z.points = y.points) (ht : z.tracks = y.tracks) (hs : z.signals = y.signals) :
    y.FieldKept ex z := by
  have hpoint : z.point? = y.point? := by funext k; rw [Yard.point?, hp]; rfl
  have htrack : z.track? = y.track? := by funext k; rw [Yard.track?, ht]; rfl
  have hsignal : z.signal? = y.signal? := by funext k; rw [Yard.signal?, hs]; rfl
  exact ⟨fun k => by rw [hpoint], fun k x _ h => ⟨x, by rw [hpoint]; exact h, .refl x⟩, fun k => by rw [htrack],
    fun k => by rw [hsignal], fun k => by rw [hsignal]⟩

/-- Claims and locks that are dropped. -/
theorem Yard.FieldKept.mapPoints {f : Point → Point} (hf : ∀ x : Point, x.Kept (f x)) :
    y.FieldKept ex { y with points := y.points.map f } := by
  have hpoint : ∀ k, ({ y with points := y.points.map f } : Yard).point? k = (y.point? k).map f := fun k =>
    findBy_map Point.number f (fun x => by rw [(hf x).rest]) k y.points
  refine ⟨fun k => by rw [hpoint, Option.isSome_map], fun k x _ hx => ⟨f x, ?_, hf x⟩, fun _ => rfl, fun _ => rfl, fun _ => rfl⟩
  rw [hpoint, hx]
  rfl

theorem Yard.FieldKept.mapTracks {f : Track → Track} (hf : ∀ t, (f t).number = t.number ∧ (f t).state = t.state) :
    y.FieldKept ex { y with tracks := y.tracks.map f } := by
  refine ⟨fun _ => rfl, fun _ x _ h => ⟨x, h, .refl x⟩, fun k => ?_, fun _ => rfl, fun _ => rfl⟩
  have htrack : ({ y with tracks := y.tracks.map f } : Yard).track? k = (y.track? k).map f :=
    findBy_map Track.number f (fun t => (hf t).1) k y.tracks
  rw [htrack, Option.map_map]
  exact congrFun (congrArg Option.map (funext fun t => (hf t).2)) _

theorem Yard.FieldKept.updSignal {n : Nat} {f : Signal → Signal}
    (hf : ∀ g, (f g).number = g.number ∧ ((f g).reported, (f g).lamp, (f g).answered, (f g).wrongRaised) = (g.reported, g.lamp, g.answered, g.wrongRaised)) :
    y.FieldKept ex { y with signals := updBy Signal.number n f y.signals } := by
  have hsignal : ∀ k, ({ y with signals := updBy Signal.number n f y.signals } : Yard).signal? k =
      (y.signal? k).map fun g => if g.number == n then f g else g := fun k =>
    findBy_map Signal.number _ (fun g => by split <;> simp [(hf g).1]) k y.signals
  have hkept : ∀ {β : Type} (pick : Option Aspect × Option Lamp × Option Nat × Bool → β) (k : Nat),
      ((y.signal? k).map fun g => if g.number == n then f g else g).map
        (fun g => pick (g.reported, g.lamp, g.answered, g.wrongRaised)) =
      (y.signal? k).map fun g => pick (g.reported, g.lamp, g.answered, g.wrongRaised) := fun pick k => by
    rw [Option.map_map]
    refine congrFun (congrArg Option.map (funext fun g => ?_)) _
    simp only [Function.comp_apply]
    split
    · exact congrArg pick (hf g).2
    · rfl
  exact ⟨fun _ => rfl, fun _ x _ h => ⟨x, h, .refl x⟩, fun _ => rfl,
    fun k => by rw [hsignal]; exact hkept (fun v => (v.1, v.2.1, v.2.2.1)) k,
    fun k => by rw [hsignal]; exact hkept (fun v => v.2.2.2) k⟩

/-- A point among the exceptions that is changed. -/
theorem Yard.FieldKept.updPoint {n : Nat} {f : Point → Point} (hf : ∀ x, (f x).number = x.number) (hn : ex n) :
    y.FieldKept ex { y with points := updBy Point.number n f y.points } := by
  have hpoint : ∀ k, ({ y with points := updBy Point.number n f y.points } : Yard).point? k =
      (y.point? k).map fun x => if x.number == n then f x else x := fun k =>
    findBy_map Point.number _ (fun x => by split <;> simp [hf]) k y.points
  refine ⟨fun k => by rw [hpoint, Option.isSome_map], fun k x hk hx => ⟨x, ?_, .refl x⟩, fun _ => rfl, fun _ => rfl, fun _ => rfl⟩
  have hxn : x.number = k := findBy_key _ hx
  have hne : (x.number == n) = false := by
    rw [hxn, beq_eq_false_iff_ne]
    rintro rfl
    exact hk hn
  rw [hpoint, hx, Option.map_some, hne]
  rfl

end

/-- The real yard's elements stay as their reports have made them. -/
def Plant.FieldKept (ex : Nat → Prop) (p q : Plant) : Prop := p.yard.FieldKept ex q.yard

section
variable {env : Env} {ex : Nat → Prop} {p q r : Plant} {sd : Side}

theorem Plant.FieldKept.refl (ex : Nat → Prop) (p : Plant) : Plant.FieldKept ex p p := Yard.FieldKept.refl ex p.yard

theorem Plant.FieldKept.trans (h : p.FieldKept ex q) (h' : q.FieldKept ex r) : p.FieldKept ex r := Yard.FieldKept.trans h h'

theorem Plant.FieldKept.ite {c : Prop} [Decidable c] (h : p.FieldKept ex q) (h' : p.FieldKept ex r) :
    p.FieldKept ex (if c then q else r) := by split <;> assumption

theorem Plant.FieldKept.foldl {α : Type} {f : Plant → α → Plant} (hf : ∀ r x, p.FieldKept ex r → p.FieldKept ex (f r x))
    (l : List α) (h : p.FieldKept ex q) : p.FieldKept ex (l.foldl f q) := by
  induction l generalizing q with
  | nil => exact h
  | cons x l ih => exact ih (hf q x h)

/-! ## The changes that rules are made of -/

/-- A change that does not touch the real yard. -/
theorem Plant.FieldKept.same (h : p.FieldKept ex q) (hr : r.yard = q.yard := by simp) : p.FieldKept ex r := by
  unfold Plant.FieldKept
  rw [hr]
  exact h

theorem Plant.mapYard_yard_or (p : Plant) (sd : Side) (f : Yard → Yard) :
    (p.mapYard sd f).yard = p.yard ∨ (p.mapYard sd f).yard = f p.yard := by
  cases sd with
  | real => exact .inr rfl
  | copy => cases hs : p.session <;> simp [Plant.mapYard, Plant.setYard, Plant.yardOf, hs]

theorem Plant.FieldKept.mapYard {f : Yard → Yard} (hf : ∀ y : Yard, y.FieldKept ex (f y)) (h : p.FieldKept ex q) :
    p.FieldKept ex (q.mapYard sd f) := by
  rcases q.mapYard_yard_or sd f with hy | hy
  · exact h.same hy
  · unfold Plant.FieldKept
    rw [hy]
    exact Yard.FieldKept.trans h (hf _)

theorem Plant.FieldKept.mapPoint {n : Nat} {f : Point → Point} (hf : ∀ x, (f x).number = x.number) (hn : ex n)
    (h : p.FieldKept ex q) : p.FieldKept ex (q.mapPoint sd n f) := h.mapYard fun _ => .updPoint hf hn

theorem Plant.FieldKept.mapSignal {n : Nat} {f : Signal → Signal}
    (hf : ∀ g, (f g).number = g.number ∧ ((f g).reported, (f g).lamp, (f g).answered, (f g).wrongRaised) = (g.reported, g.lamp, g.answered, g.wrongRaised))
    (h : p.FieldKept ex q) : p.FieldKept ex (q.mapSignal sd n f) := h.mapYard fun _ => .updSignal hf

/-- The rules of the stabling record leave the elements. -/
theorem Plant.FieldKept.berths (h : p.FieldKept ex q) (h' : q.BerthsOnly sd r) : p.FieldKept ex r := by
  have hyard : r.yard = q.yard ∨ r.yard = { q.yard with
      roads := r.yard.roads, arrivals := r.yard.arrivals, expectations := r.yard.expectations, runOut := r.yard.runOut } := by
    cases sd with
    | real => exact .inr h'.yard
    | copy =>
      cases hs : q.session with
      | some c => exact .inl (h'.copy rfl (by rw [hs]; rfl))
      | none =>
        have hr : r.session = none := by simpa [hs] using h'.isSome
        have := h'.yard
        simp only [Plant.yardOf, hs, hr] at this
        exact .inr this
  rcases hyard with hy | hy
  · exact h.same hy
  · refine Plant.FieldKept.trans h (Yard.FieldKept.of_tables ?_ ?_ ?_) <;> rw [hy]

theorem Plant.FieldKept.report {b : ReportBody} (h : p.FieldKept ex q) : p.FieldKept ex (q.report sd b) := h.same
theorem Plant.FieldKept.send {n : Nat} {f : LinkFrame} (h : p.FieldKept ex q) : p.FieldKept ex (q.send n f) := h.same
theorem Plant.FieldKept.sendUp {n : Nat} {f : LinkFrame} (h : p.FieldKept ex q) : p.FieldKept ex (q.sendUp n f) := h.same
theorem Plant.FieldKept.mapSlot {n : Nat} {f : Slot → Slot} (h : p.FieldKept ex q) : p.FieldKept ex (q.mapSlot n f) := h.same rfl
theorem Plant.FieldKept.mapSession {f : Session → Session} (h : p.FieldKept ex q) : p.FieldKept ex (q.mapSession f) := h.same rfl
theorem Plant.FieldKept.askScan (h : p.FieldKept ex q) : p.FieldKept ex (q.askScan sd) := h.same
theorem Plant.FieldKept.askRound (h : p.FieldKept ex q) : p.FieldKept ex (q.askRound sd) := h.same

theorem Plant.FieldKept.handFault {k : FaultKind} {e : FaultElement} {c : Option RouteContext} {d : Option CheckData}
    (h : p.FieldKept ex q) : p.FieldKept ex (q.handFault sd k e c d) := by
  have hstored := fun f : FaultList => h.mapYard (sd := sd) (f := fun y => { y with faults := f }) fun _ =>
    .of_tables rfl rfl rfl
  unfold Plant.handFault
  dsimp only
  refine .ite (.report (.report (.ite ?_ ?_))) (.report (.ite ?_ ?_))
  · exact (hstored _).mapSession
  · exact hstored _
  · exact (hstored _).mapSession
  · exact hstored _

theorem Plant.FieldKept.handFaultOnce {k : FaultKind} {e : FaultElement} {c : Option RouteContext} (h : p.FieldKept ex q) :
    p.FieldKept ex (q.handFaultOnce sd k e c) := .ite h h.handFault

/-! ## Route locking (chapters 4 and 5) -/

theorem Plant.FieldKept.writeRealAspect {n : Nat} {a : Aspect} (h : p.FieldKept ex q) :
    p.FieldKept ex (Plant.writeRealAspect env q n a) := by
  unfold Plant.writeRealAspect
  dsimp only
  split
  · exact h
  · have hsignal := fun k => h.mapSignal (sd := .real) (n := n) (f := fun g => { g with commanded := a, command := k }) fun _ =>
      ⟨rfl, rfl⟩
    split
    · exact (hsignal _).sendUp
    · exact hsignal _

theorem Plant.session_of_copy_active (h : Side.copy = p.active) : p.session.isSome = true := by
  simp only [Plant.active] at h
  split at h
  · assumption
  · cases h

/-- In a session the aspects of the copies do not touch the real yard. -/
theorem Plant.writeCopyAspect_yard {n : Nat} {a : Aspect} (h : q.session.isSome = true) : (q.writeCopyAspect n a).yard = q.yard := by
  obtain ⟨c, hc⟩ := Option.isSome_iff_exists.mp h
  have hmap : ∀ f : Yard → Yard, (q.mapYard .copy f).yard = q.yard := fun f => by rw [Plant.mapYard_copy hc]
  unfold Plant.writeCopyAspect
  dsimp only
  split
  · rfl
  · split
    · exact hmap _
    · exact (Plant.report_yard ..).trans (hmap _)

theorem Plant.FieldKept.writeAspect {n : Nat} {a : Aspect} (h : p.FieldKept ex q) (hsd : sd = q.active) :
    p.FieldKept ex (Plant.writeAspect env q sd n a) := by
  cases sd with
  | real => exact h.writeRealAspect
  | copy => exact h.same (Plant.writeCopyAspect_yard (Plant.session_of_copy_active hsd))

theorem Plant.FieldKept.stopEntrySignal {sl : Slot} (h : p.FieldKept ex q) : p.FieldKept ex (Plant.stopEntrySignal env q sl) := by
  unfold Plant.stopEntrySignal
  split
  · exact .ite (h.writeAspect rfl) h
  · exact h

theorem Point.kept_without (n : Nat) (x : Point) : x.Kept (x.without n) := by
  refine ⟨rfl, List.filter_sublist, ?_⟩
  unfold Point.without
  dsimp only
  split
  · exact .inr rfl
  · exact .inl rfl

theorem Yard.FieldKept.letGo (ex : Nat → Prop) (y : Yard) (n : Nat) : y.FieldKept ex (y.letGo n) :=
  Yard.FieldKept.trans (z := { y with points := y.points.map (Point.without n) }) (.mapPoints fun x => x.kept_without n)
    (.mapTracks fun t => by split <;> exact ⟨rfl, rfl⟩)

theorem Plant.FieldKept.letGo {n : Nat} (h : p.FieldKept ex q) : p.FieldKept ex (q.mapYard sd fun y => y.letGo n) :=
  h.mapYard fun y => .letGo ex y n

theorem Plant.FieldKept.tellFreed (h : p.FieldKept ex q) : p.FieldKept ex q.tellFreed := h.askScan.askRound

theorem Plant.FieldKept.freeSlot {n : Nat} {c : RouteCause} (h : p.FieldKept ex q) : p.FieldKept ex (Plant.freeSlot env q n c) := by
  unfold Plant.freeSlot
  dsimp only
  split
  · exact h
  · refine .tellFreed (.mapSlot (.mapSession (.report (.berths ?_ (.handFate (.refl q.active _))))))
    exact h.stopEntrySignal.letGo.berths (Plant.endEvent_berthsOnly ..)

theorem Plant.FieldKept.abandon {n : Nat} {c : AbandonCause} (h : p.FieldKept ex q) : p.FieldKept ex (Plant.abandon env q n c) := by
  unfold Plant.abandon
  dsimp only
  split
  · exact h
  · refine .tellFreed (.report (.berths ?_ (.handFate (.refl q.active _))))
    exact h.letGo.mapSession.mapSlot.berths (Plant.freedBeforeEntry_berthsOnly ..)

theorem Plant.FieldKept.startRun {sl : Slot} {r : RouteRecord} (h : p.FieldKept ex q) : p.FieldKept ex (q.startRun sl r) := h.mapSession

theorem Plant.FieldKept.tryOpen {n : Nat} (h : p.FieldKept ex q) : p.FieldKept ex (Plant.tryOpen env q n) := by
  unfold Plant.tryOpen
  dsimp only
  split
  · exact h
  · split
    · have hopen : ∀ z : Plant, p.FieldKept ex z → ∀ k a (f : Slot → Slot), p.FieldKept ex ((Plant.writeAspect env z z.active k a).mapSlot n f) :=
        fun z hz k a f => (hz.writeAspect rfl).mapSlot
      have hrun := fun (sl : Slot) (r : RouteRecord) => Plant.FieldKept.ite (c := sl.openedOnce = true) h (h.startRun (sl := sl) (r := r))
      exact .report (.ite (hopen _ (hrun _ _) _ _ _) ((hopen _ (hrun _ _) _ _ _).berths (Plant.routeOpened_berthsOnly ..)))
    · exact h

theorem Plant.FieldKept.revert {n : Nat} {c : RouteCause} {f : FailedCondition} (h : p.FieldKept ex q) :
    p.FieldKept ex (Plant.revert env q n c f) := by
  unfold Plant.revert
  dsimp only
  split
  · exact h
  · exact .ite (.report h.stopEntrySignal.mapSlot) h

theorem Plant.FieldKept.enterLocked {n : Nat} {c : RouteCause} (h : p.FieldKept ex q) :
    p.FieldKept ex (Plant.enterLocked env q n c) := by
  unfold Plant.enterLocked
  dsimp only
  split
  · exact h
  · exact .tryOpen (.report (h.mapSlot.berths (Plant.routeLocked_berthsOnly ..)))

theorem Plant.FieldKept.passedAtStop {sl : Slot} (h : p.FieldKept ex q) : p.FieldKept ex (Plant.passedAtStop env q sl) := by
  unfold Plant.passedAtStop
  split
  · exact h.handFault
  · exact h

theorem Plant.FieldKept.markSection {n j : Nat} (h : p.FieldKept ex q) : p.FieldKept ex (Plant.markSection env q n j) := by
  unfold Plant.markSection
  dsimp only
  split
  · exact h
  · exact .ite (.ite (.report h.mapSlot.handFault.mapSlot) h.mapSlot.handFault) h.mapSlot

theorem Plant.FieldKept.enter {n : Nat} {c : RouteCause} (h : p.FieldKept ex q) : p.FieldKept ex (Plant.enter env q n c) := by
  unfold Plant.enter
  dsimp only
  split
  · exact h
  · exact .report (.foldl (fun _ _ h => .ite h.markSection h) _ h.stopEntrySignal.mapSlot)

theorem Plant.FieldKept.releaseSection {sl : Slot} {r : RouteRecord} {t : Nat} (h : p.FieldKept ex q) :
    p.FieldKept ex (Plant.releaseSection env q sl r t) := by
  have hyard : ∀ y : Yard, ∀ on : List Nat, Yard.FieldKept ex y { y with
      points := y.points.map fun x =>
        if on.contains x.number then { x with locks := x.locks.filter fun k => k.slot != sl.number } else x
      tracks := updBy Track.number t (fun x => { x with reservedBy := none }) y.tracks } := by
    intro y on
    refine Yard.FieldKept.trans (z := { y with
      points := y.points.map fun x =>
        if on.contains x.number then { x with locks := x.locks.filter fun k => k.slot != sl.number } else x })
      (.mapPoints fun x => ?_) (.mapTracks fun x => ?_)
    · split
      · exact ⟨rfl, List.filter_sublist, .inl rfl⟩
      · exact .refl x
    · split <;> exact ⟨rfl, rfl⟩
  unfold Plant.releaseSection
  dsimp only
  have hslot := (h.mapYard (sd := q.active) fun y => hyard y
    ((r.points.map (·.1)).filter fun pt => (env.layout.point? pt).any fun d => d.track == t)).mapSlot (n := sl.number)
      (f := fun x => { x with released := sl.released + 1 })
  exact .report (.ite (hslot.berths (Plant.firstSectionCleared_berthsOnly ..)) hslot)

theorem Plant.FieldKept.releaseRun {n k : Nat} (h : p.FieldKept ex q) : p.FieldKept ex (Plant.releaseRun env n k q) := by
  induction k generalizing q with
  | zero => exact h
  | succ k ih =>
    unfold Plant.releaseRun
    split
    · exact h
    · split
      · exact h
      · split
        · exact h
        · exact .ite (.ite h.releaseSection.freeSlot (ih h.releaseSection)) h

theorem Plant.FieldKept.slotSection {sl : Slot} {r : RouteRecord} {j : Nat} {st : TrackState} (h : p.FieldKept ex q) :
    p.FieldKept ex (Plant.slotSection env q sl r j st) := by
  unfold Plant.slotSection
  dsimp only
  split
  case h_1 => exact h
  case h_2 => exact .ite (.ite h.passedAtStop h.passedAtStop.abandon) h
  case h_3 => exact .ite (.ite h.passedAtStop h.passedAtStop.enter) h.tryOpen
  case h_4 => exact .ite h.enter (.ite h h.revert)
  case h_5 => exact .ite (.ite h.passedAtStop h.passedAtStop.enter) h
  case h_6 => exact .ite h.markSection (.ite h.releaseRun h)
  case h_7 => exact .ite h.markSection h
  case h_8 => exact .ite (.markSection (.ite h.passedAtStop h)) (.ite h.releaseRun h)

theorem Plant.FieldKept.lockingSection {t : Nat} (h : p.FieldKept ex q) : p.FieldKept ex (Plant.lockingSection env q sd t) := by
  unfold Plant.lockingSection
  refine .ite ?_ h
  split
  · exact h
  · split
    · exact h
    · exact .ite h.slotSection h

theorem Plant.FieldKept.pointChanged {n : Nat} (h : p.FieldKept ex q) : p.FieldKept ex (Plant.pointChanged env q sd n) := by
  have hslot : ∀ z k, p.FieldKept ex z → p.FieldKept ex (Plant.slotPoint env z n k) := by
    intro z k hz
    unfold Plant.slotPoint
    split
    · exact hz
    · exact .ite hz.revert hz.tryOpen
  unfold Plant.pointChanged
  have hslots := Plant.FieldKept.foldl (f := fun q k => Plant.slotPoint env q n k) (fun z k h => hslot z k h)
    (Plant.slotsOfPoint env q n) h
  exact .ite (.askScan (.ite hslots h)) (.ite hslots h)

theorem Plant.FieldKept.lampChanged {n : Nat} (h : p.FieldKept ex q) : p.FieldKept ex (Plant.lampChanged env q sd n) := by
  unfold Plant.lampChanged
  refine .ite ?_ h
  split
  · exact h
  · exact .ite (.ite h h.revert) h.tryOpen

/-! ## The end of a throw of the real yard (R31) -/

theorem Plant.FieldKept.sendStop {n : Nat} (h : p.FieldKept ex q) : p.FieldKept ex (Plant.sendStop env q sd n) := by
  unfold Plant.sendStop
  split
  · split
    · exact h.sendUp
    · exact h
  · exact h.mapSession

theorem Plant.FieldKept.slotThrowEnd {n k : Nat} {c : ThrowCause} (hk : ex k) (h : p.FieldKept ex q) :
    p.FieldKept ex (Plant.slotThrowEnd env q n k c) := by
  unfold Plant.slotThrowEnd
  split
  · exact h
  · refine .ite ?_ h
    split
    · exact h.mapPoint (fun _ => rfl) hk
    · split
      · exact h
      · have hlock : ∀ sl r pos, p.FieldKept ex (q.lockPoint sl r k pos) := fun sl r pos => h.mapPoint (fun _ => rfl) hk
        exact .ite (hlock _ _ _).mapSlot.enterLocked (hlock _ _ _).mapSlot
    · exact h.abandon

/-- Beyond the point itself, the end of a throw keeps every element. -/
theorem Plant.FieldKept.throwEnd {n : Nat} {c : ThrowCause} {st : PointState} {k : Option FaultKind} (hn : ex n)
    (h : p.FieldKept ex q) : p.FieldKept ex (Plant.throwEnd env q .real n c st k) := by
  unfold Plant.throwEnd
  split
  · exact h
  · split
    · exact h
    · refine .askScan (.pointChanged (.report ?_))
      cases k <;> split
      · refine .ite (.slotThrowEnd hn ?_) ?_ <;> exact .mapPoint (fun _ => rfl) hn h
      · exact .mapPoint (fun _ => rfl) hn h
      · refine .ite (.slotThrowEnd hn ?_) ?_ <;> exact .handFault (.mapPoint (fun _ => rfl) hn h)
      · exact .handFault (.mapPoint (fun _ => rfl) hn h)

/-- A point at rest has no throw to end. -/
theorem Plant.throwEnd_of_rest {n : Nat} {c : ThrowCause} {st : PointState} {k : Option FaultKind} {x : Point}
    (hx : (q.yardOf sd).point? n = some x) (ht : x.throw = none) : Plant.throwEnd env q sd n c st k = q := by
  simp only [Plant.throwEnd, hx, ht]

/-- Every point that is throwing is among the exceptions. -/
def Plant.ThrowsIn (ex : Nat → Prop) (p : Plant) : Prop := ∀ k x, ¬ex k → p.yard.point? k = some x → x.throw = none

/-- The end of a throw keeps every point at rest. -/
theorem Plant.FieldKept.throwEndIn {n : Nat} {c : ThrowCause} {st : PointState} {k : Option FaultKind} (hex : p.ThrowsIn ex)
    (h : p.FieldKept ex q) : p.FieldKept ex (Plant.throwEnd env q .real n c st k) := by
  by_cases hn : ex n
  · exact h.throwEnd hn
  · cases hx : q.yard.point? n with
    | none =>
      have hx' : (q.yardOf .real).point? n = none := hx
      simpa only [Plant.throwEnd, hx'] using h
    | some x =>
      obtain ⟨y, hy⟩ := Option.isSome_iff_exists.mp ((h.numbers n).symm.trans (by rw [hx]; rfl))
      obtain ⟨x', hx', hkept⟩ := h.points n y hn hy
      rw [hx] at hx'
      obtain rfl := Option.some.inj hx'
      rw [Plant.throwEnd_of_rest (sd := .real) hx (by rw [hkept.rest]; exact hex n y hn hy)]
      exact h

theorem Plant.FieldKept.interruptIn {x : Point} (hex : p.ThrowsIn ex) (h : p.FieldKept ex q) :
    p.FieldKept ex (Plant.interrupt env q .real x) := .throwEndIn hex (.ite h.sendStop h)

/-! ## Sections and links (R42 to R44, R169) -/

theorem Plant.FieldKept.interruptOver {t : Nat} (hex : p.ThrowsIn ex) (h : p.FieldKept ex q) :
    p.FieldKept ex (Plant.interruptOver env q .real t) := by
  refine .foldl (fun z k h => ?_) _ h
  split
  · exact .ite (h.interruptIn hex) h
  · exact h

theorem Plant.FieldKept.sectionPassed {t : Nat} {old st : TrackState} (hex : p.ThrowsIn ex) (h : p.FieldKept ex q) :
    p.FieldKept ex (Plant.sectionPassed env q .real t old st) := by
  have hover : p.FieldKept ex (if st = .clear then q else Plant.interruptOver env q .real t) := .ite h (h.interruptOver hex)
  have hlock := (hover.lockingSection (env := env) (sd := .real) (t := t)).askScan (sd := .real)
  unfold Plant.sectionPassed
  dsimp only
  generalize (Plant.lockingSection env (if st = .clear then q else Plant.interruptOver env q .real t) .real t).askScan .real = z
    at hlock
  exact .report (.ite hlock.handFaultOnce hlock)

theorem Plant.FieldKept.signalChanged {n : Nat} {a : Option Aspect} {l : Option Lamp} (h : p.FieldKept ex q) :
    p.FieldKept ex (q.signalChanged sd n a l) := by
  unfold Plant.signalChanged
  split
  · exact h
  · exact h.report

theorem Plant.FieldKept.passLostSignal {g : Signal} (h : p.FieldKept ex q) : p.FieldKept ex (Plant.passLostSignal env q g) :=
  .ite h.lampChanged.signalChanged h.lampChanged

theorem Plant.FieldKept.revertOnLink {n : Nat} (h : p.FieldKept ex q) : p.FieldKept ex (Plant.revertOnLink env q n) :=
  .ite (.foldl (fun _ _ h => h.revert) _ h) h

theorem Plant.FieldKept.passLostPoint {n : Nat} (hn : ex n) (h : p.FieldKept ex q) :
    p.FieldKept ex (Plant.passLostPoint env q n) := by
  unfold Plant.passLostPoint
  split
  · exact h
  · exact .ite (h.throwEnd hn) h.pointChanged

end

end Sys2Proof.Machine
end

section
/-! SUPPORT. The slots as the rules of route locking write them (chapters 4 and 5): what opens, closes and frees a slot, and that
every other slot stays as it was. -/

namespace Sys2Proof.Machine

open Sys2Proof

section
variable {env : Env} {p q : Plant} {sd : Side} {n : Nat}

/-! ## What leaves the slots -/

theorem Plant.BerthsOnly.slots (h : p.BerthsOnly sd q) : q.slots = p.slots :=
  (congrArg Plant.slots h.rest :)

@[simp] theorem Plant.handFault_slots (p : Plant) (sd : Side) (k : FaultKind) (e : FaultElement) (c : Option RouteContext)
    (d : Option CheckData) : (p.handFault sd k e c d).slots = p.slots := by
  unfold Plant.handFault
  dsimp only
  split <;> split <;> simp

@[simp] theorem Plant.handFaultOnce_slots (p : Plant) (sd : Side) (k : FaultKind) (e : FaultElement) (c : Option RouteContext) :
    (p.handFaultOnce sd k e c).slots = p.slots := by
  unfold Plant.handFaultOnce
  split <;> simp

@[simp] theorem Plant.writeAspect_slots (env : Env) (p : Plant) (sd : Side) (n : Nat) (a : Aspect) :
    (Plant.writeAspect env p sd n a).slots = p.slots := by
  cases sd with
  | real =>
    simp only [Plant.writeAspect, Plant.writeRealAspect]
    split
    · rfl
    · split <;> simp
  | copy =>
    simp only [Plant.writeAspect, Plant.writeCopyAspect]
    split
    · rfl
    · split <;> simp

@[simp] theorem Plant.stopEntrySignal_slots (env : Env) (p : Plant) (sl : Slot) :
    (Plant.stopEntrySignal env p sl).slots = p.slots := by
  unfold Plant.stopEntrySignal Plant.stopSignal
  split
  · split <;> simp
  · rfl

@[simp] theorem Plant.routeState_slots (p : Plant) (sl : Slot) (st : SlotState) (c : RouteCause) (f : FailedCondition) (b : Bool) :
    (p.routeState sl st c f b).slots = p.slots := by simp [Plant.routeState]

@[simp] theorem Plant.tellFreed_slots (p : Plant) : p.tellFreed.slots = p.slots := by simp [Plant.tellFreed]

@[simp] theorem Plant.discardRun_slots (p : Plant) (n : Nat) : (p.discardRun n).slots = p.slots := rfl

@[simp] theorem Plant.handFate_slots (env : Env) (p : Plant) (sd : Side) (o : Option Origin) (r : Nat) (t : Option Nat) (f : Fate) :
    (Plant.handFate env p sd o r t f).slots = p.slots := (Plant.BerthsOnly.handFate (.refl sd p)).slots

@[simp] theorem Plant.endEvent_slots (env : Env) (p : Plant) (sl : Slot) (c : RouteCause) :
    (Plant.endEvent env p sl c).slots = p.slots := (Plant.endEvent_berthsOnly ..).slots

/-! ## One slot written -/

theorem Plant.slot?_number {sl : Slot} (h : p.slot? n = some sl) : sl.number = n := findBy_key _ h

theorem Plant.slot?_congr (h : q.slots = p.slots) (m : Nat) : q.slot? m = p.slot? m := by rw [Plant.slot?, h]; rfl

theorem Plant.mapSlot_slot? (p : Plant) (n : Nat) {f : Slot → Slot} (hf : ∀ sl, sl.number = n → (f sl).number = n) (m : Nat) :
    (p.mapSlot n f).slot? m = (p.slot? m).map fun sl => if sl.number == n then f sl else sl := by
  refine findBy_map Slot.number _ (fun sl => ?_) m p.slots
  split
  · next h => exact (hf sl (beq_iff_eq.mp h)).trans (beq_iff_eq.mp h).symm
  · rfl

theorem Plant.mapSlot_slot?_self (p : Plant) {f : Slot → Slot} (hf : ∀ sl, sl.number = n → (f sl).number = n) {sl : Slot}
    (h : p.slot? n = some sl) : (p.mapSlot n f).slot? n = some (f sl) := by
  rw [p.mapSlot_slot? n hf, h, Option.map_some, if_pos (beq_iff_eq.mpr (Plant.slot?_number h))]

theorem Plant.mapSlot_slot?_ne (p : Plant) {f : Slot → Slot} (hf : ∀ sl, sl.number = n → (f sl).number = n) {m : Nat} (h : m ≠ n) :
    (p.mapSlot n f).slot? m = p.slot? m := by
  rw [p.mapSlot_slot? n hf]
  cases hm : p.slot? m with
  | none => rfl
  | some sl => exact congrArg some (if_neg fun hn => h ((Plant.slot?_number hm).symm.trans (beq_iff_eq.mp hn)))

/-! ## Freeing, abandonment and reverting -/

/-- A slot that is freed is FREE, and no other slot is written. -/
theorem Plant.freeSlot_slots {sl : Slot} {c : RouteCause} (h : p.slot? n = some sl) :
    (Plant.freeSlot env p n c).slots = (p.clearSlot n).slots := by
  simp [Plant.freeSlot, h, Plant.clearSlot, Plant.mapSlot]

theorem Plant.abandon_slots {sl : Slot} {c : AbandonCause} (h : p.slot? n = some sl) :
    (Plant.abandon env p n c).slots = (p.clearSlot n).slots := by
  simp [Plant.abandon, h, Plant.clearSlot, Plant.mapSlot, (Plant.freedBeforeEntry_berthsOnly ..).slots]

theorem Plant.clearSlot_self {sl : Slot} (h : p.slot? n = some sl) : (p.clearSlot n).slot? n = some (Slot.free n) :=
  p.mapSlot_slot?_self (f := fun _ => Slot.free n) (fun _ _ => rfl) h

theorem Plant.clearSlot_ne {m : Nat} (h : m ≠ n) : (p.clearSlot n).slot? m = p.slot? m :=
  p.mapSlot_slot?_ne (f := fun _ => Slot.free n) (fun _ _ => rfl) h

theorem Plant.revert_of_not_opened {c : RouteCause} {f : FailedCondition} (h : ∀ sl, p.slot? n = some sl → sl.state ≠ .opened) :
    Plant.revert env p n c f = p := by
  unfold Plant.revert
  split
  · rfl
  · next sl hsl => exact if_neg (h sl hsl)

theorem Plant.revert_slots {sl : Slot} {c : RouteCause} {f : FailedCondition} (h : p.slot? n = some sl) (ho : sl.state = .opened) :
    (Plant.revert env p n c f).slots =
      (p.mapSlot n fun x => { x with state := .locked, aspectHeld := sl.aspectHeld || c == .aspectLost }).slots := by
  simp [Plant.revert, h, ho, Plant.mapSlot]

/-- After a slot has been reverted, the slots that are OPEN are those that were, but for it. -/
theorem Plant.revert_opened {c : RouteCause} {f : FailedCondition} {m : Nat} {sl : Slot}
    (h : (Plant.revert env p n c f).slot? m = some sl) (ho : sl.state = .opened) : p.slot? m = some sl ∧ m ≠ n := by
  by_cases hn : ∃ x, p.slot? n = some x ∧ x.state = .opened
  · obtain ⟨x, hx, hxo⟩ := hn
    rw [Plant.slot?_congr (Plant.revert_slots hx hxo)] at h
    have hf : ∀ y : Slot, y.number = n →
        ({ y with state := .locked, aspectHeld := x.aspectHeld || c == .aspectLost } : Slot).number = n := fun _ hy => hy
    by_cases hmn : m = n
    · rw [hmn, p.mapSlot_slot?_self hf hx] at h
      obtain rfl := Option.some.inj h
      cases ho
    · exact ⟨(p.mapSlot_slot?_ne hf hmn).symm.trans h, hmn⟩
  · have hclosed : ∀ x, p.slot? n = some x → x.state ≠ .opened := fun x hx hxo => hn ⟨x, hx, hxo⟩
    rw [Plant.revert_of_not_opened hclosed] at h
    exact ⟨h, fun hmn => hclosed sl (hmn ▸ h) ho⟩

theorem Plant.revertAll_opened {c : RouteCause} {f : FailedCondition} (ns : List Nat) {p : Plant} {m : Nat} {sl : Slot}
    (h : (ns.foldl (fun q k => Plant.revert env q k c f) p).slot? m = some sl) (ho : sl.state = .opened) :
    p.slot? m = some sl ∧ m ∉ ns := by
  induction ns generalizing p with
  | nil => exact ⟨h, List.not_mem_nil⟩
  | cons k ns ih =>
    obtain ⟨hk, hns⟩ := ih h
    obtain ⟨hp, hne⟩ := Plant.revert_opened hk ho
    exact ⟨hp, List.not_mem_cons_of_ne_of_not_mem hne hns⟩

end

end Sys2Proof.Machine
end

section
/-! SUPPORT. A link that is lost, and the telegrams and timers of the links (R168 to R171, Table 11-1). -/

namespace Sys2Proof.Machine

open Sys2Proof

section
variable {env : Env} {ex : Nat → Prop} {p q r : Plant} {n : Nat} {sd : Side}

/-! ## The elements of a lost link -/

theorem onLink_point {k : Nat} (h : env.layout.linkOf (.point k) = some n) :
    (onLink PointRecord.link PointRecord.number n env.layout.points).contains k = true := by
  obtain ⟨d, hd, hn⟩ := Option.map_eq_some_iff.mp h
  simp only [onLink, List.contains_iff_mem, List.mem_map, List.mem_filter, beq_iff_eq]
  exact ⟨d, ⟨findBy_mem _ hd, hn⟩, findBy_key _ hd⟩

theorem onLink_track {k : Nat} (h : env.layout.linkOf (.track k) = some n) :
    (onLink TrackRecord.link TrackRecord.number n env.layout.tracks).contains k = true := by
  obtain ⟨d, hd, hn⟩ := Option.map_eq_some_iff.mp h
  simp only [onLink, List.contains_iff_mem, List.mem_map, List.mem_filter, beq_iff_eq]
  exact ⟨d, ⟨findBy_mem _ hd, hn⟩, findBy_key _ hd⟩

theorem onLink_signal {k : Nat} (h : env.layout.linkOf (.signal k) = some n) :
    (onLink SignalRecord.link SignalRecord.number n env.layout.signals).contains k = true := by
  obtain ⟨d, hd, hn⟩ := Option.map_eq_some_iff.mp h
  simp only [onLink, List.contains_iff_mem, List.mem_map, List.mem_filter, beq_iff_eq]
  exact ⟨d, ⟨findBy_mem _ hd, hn⟩, findBy_key _ hd⟩

theorem Plant.unknownOnLink_point? (k : Nat) :
    (Plant.unknownOnLink env p n).yard.point? k = (p.yard.point? k).map fun x =>
      if (onLink PointRecord.link PointRecord.number n env.layout.points).contains k then x.lost else x :=
  findBy_loseAmong Point.number Point.lost (fun _ => rfl) _ k _

theorem Plant.unknownOnLink_track? (k : Nat) :
    (Plant.unknownOnLink env p n).yard.track? k = (p.yard.track? k).map fun x =>
      if (onLink TrackRecord.link TrackRecord.number n env.layout.tracks).contains k then x.lost else x :=
  findBy_loseAmong Track.number Track.lost (fun _ => rfl) _ k _

theorem Plant.unknownOnLink_signal? (k : Nat) :
    (Plant.unknownOnLink env p n).yard.signal? k = (p.yard.signal? k).map fun x =>
      if (onLink SignalRecord.link SignalRecord.number n env.layout.signals).contains k then x.lost else x :=
  findBy_loseAmong Signal.number Signal.lost (fun _ => rfl) _ k _

/-- A claim that is dropped. -/
theorem Plant.FieldKept.dropClaim (h : p.FieldKept ex q) :
    p.FieldKept ex (q.mapPoint sd n fun x => { x with claim := none }) := by
  refine h.mapYard fun y => ?_
  refine .mapPoints (f := fun x => if x.number == n then { x with claim := none } else x) fun x => ?_
  split
  · exact ⟨rfl, .refl _, .inr rfl⟩
  · exact .refl x

/-- A point as the end of its throw leaves it (R31). -/
def Point.ended (x : Point) (st : PointState) (duration peak : Nat) : Point :=
  { x with state := st, throw := none, lastDuration := duration, lastPeak := peak }

/-- The end of a throw that does not complete it leaves its point in the state given, and at most frees it of its claim. -/
theorem Plant.throwEnd_point {c : ThrowCause} {st : PointState} {k : Option FaultKind} {x : Point} {th : Throw} (hc : c ≠ .completed)
    (hx : q.yard.point? n = some x) (ht : x.throw = some th) :
    ∃ x', (Plant.throwEnd env q .real n c st k).yard.point? n = some x' ∧
      (x.ended st ((q.base .real - th.startedAt) / 100) th.peak).Kept x' := by
  let ended := fun y : Point => y.ended st ((q.base .real - th.startedAt) / 100) th.peak
  have hm : (q.mapPoint .real n ended).yard.point? n = some (ended x) := by
    refine (findBy_updBy_self Point.number n ended q.yard.points fun _ h => h).trans ?_
    exact congrArg (Option.map _) hx
  have hx' : (q.yardOf .real).point? n = some x := hx
  have hclaim : ∀ z s, (q.mapPoint .real n ended).FieldKept (fun _ => False) z →
      (q.mapPoint .real n ended).FieldKept (fun _ => False) (Plant.slotThrowEnd env z s n c) := by
    intro z s hz
    unfold Plant.slotThrowEnd
    split
    · exact hz
    · refine .ite ?_ hz
      split
      · exact hz.dropClaim
      · exact absurd rfl hc
      · exact hz.abandon
  have hend : (q.mapPoint .real n ended).FieldKept (fun _ => False) (Plant.throwEnd env q .real n c st k) := by
    unfold Plant.throwEnd
    simp only [hx', ht]
    refine .askScan (.pointChanged (.report ?_))
    cases k <;> split
    · exact .ite (hclaim _ _ (.refl _ _)) (.refl _ _)
    · exact .refl _ _
    · exact .ite (hclaim _ _ (.handFault (.refl _ _))) (.handFault (.refl _ _))
    · exact .handFault (.refl _ _)
  exact hend.points n _ id hm

/-- The end of a throw by the loss of its link leaves its point UNKNOWN (R33). -/
theorem Plant.throwEnd_linkLost {x : Point} {th : Throw} (hx : q.yard.point? n = some x) (ht : x.throw = some th) :
    ∃ x', (Plant.throwEnd env q .real n .linkLost .unknown none).yard.point? n = some x' ∧
      x'.state = .unknown ∧ x'.detected = x.detected ∧ x'.throw = none := by
  obtain ⟨x', hx', hkept⟩ := Plant.throwEnd_point (env := env) (c := .linkLost) (st := .unknown) (k := none) (by simp) hx ht
  exact ⟨x', hx', by rw [hkept.rest]; rfl, by rw [hkept.rest]; rfl, by rw [hkept.rest]; rfl⟩

/-- A point as the loss of its link leaves it, until the end of its throw is passed on. -/
structure Point.Losing (x : Point) : Prop where
  detected : x.detected = none
  state : x.throw = none → x.state = .unknown

theorem Point.losing_lost (x : Point) : x.lost.Losing := by
  refine ⟨rfl, fun h => ?_⟩
  have : x.throwing = false := by
    have hx : x.throw = none := h
    simp [Point.throwing, hx]
  simp [Point.lost, this]

/-- When the loss of a point is passed on, the point is at rest and UNKNOWN. -/
theorem Plant.passLostPoint_self {x : Point} (hx : q.yard.point? n = some x) (hlosing : x.Losing) :
    ∃ x', (Plant.passLostPoint env q n).yard.point? n = some x' ∧ x'.Losing ∧ x'.throw = none := by
  cases ht : x.throw with
  | none =>
    have hpass : Plant.passLostPoint env q n = Plant.pointChanged env q .real n := by
      simp [Plant.passLostPoint, hx, Point.throwing, ht]
    obtain ⟨x', hx', hkept⟩ := (Plant.FieldKept.pointChanged (env := env) (sd := .real) (n := n)
      (.refl (fun _ => False) q)).points n x id hx
    rw [hpass]
    exact ⟨x', hx', ⟨by rw [hkept.rest]; exact hlosing.detected, fun _ => by rw [hkept.rest]; exact hlosing.state ht⟩,
      by rw [hkept.rest]; exact ht⟩
  | some th =>
    have hpass : Plant.passLostPoint env q n = Plant.throwEnd env q .real n .linkLost .unknown none := by
      simp [Plant.passLostPoint, hx, Point.throwing, ht]
    obtain ⟨x', hx', hstate, hdet, hthrow⟩ := Plant.throwEnd_linkLost (env := env) hx ht
    rw [hpass]
    exact ⟨x', hx', ⟨hdet.trans hlosing.detected, fun _ => hstate⟩, hthrow⟩

/-- The points whose loss is passed on, one after another. -/
theorem Plant.passLostPoints (ns : List Nat) (q : Plant) (on : Nat → Prop)
    (h : ∀ k x, on k → q.yard.point? k = some x → x.Losing ∧ (x.throw ≠ none → k ∈ ns)) :
    ∀ k x, on k → (ns.foldl (fun q k => Plant.passLostPoint env q k) q).yard.point? k = some x →
      x.Losing ∧ x.throw = none := by
  induction ns generalizing q with
  | nil =>
    intro k x hk hx
    obtain ⟨hlosing, hthrow⟩ := h k x hk hx
    exact ⟨hlosing, Classical.byContradiction fun hn => List.not_mem_nil (hthrow hn)⟩
  | cons m ns ih =>
    refine ih _ fun k x hk hx => ?_
    have hkept := Plant.FieldKept.passLostPoint (env := env) (ex := (· = m)) rfl (.refl _ q)
    obtain ⟨y, hy⟩ := Option.isSome_iff_exists.mp ((hkept.numbers k).symm.trans (by rw [hx]; rfl))
    obtain ⟨hlosing, hthrow⟩ := h k y hk hy
    by_cases hkm : k = m
    · subst hkm
      obtain ⟨x', hx', hlosing', hrest⟩ := Plant.passLostPoint_self (env := env) hy hlosing
      rw [hx] at hx'
      obtain rfl := Option.some.inj hx'
      exact ⟨hlosing', fun hn => absurd hrest hn⟩
    · obtain ⟨x', hx', hsame⟩ := hkept.points k y hkm hy
      rw [hx] at hx'
      obtain rfl := Option.some.inj hx'
      rw [hsame.rest]
      exact ⟨⟨hlosing.detected, hlosing.state⟩, fun hn => (List.mem_cons.mp (hthrow hn)).resolve_left hkm⟩

/-- What keeps every element keeps a link's elements lost. -/
theorem Plant.FieldKept.elementsLost (h : p.FieldKept ex q) (hlost : p.elementsLost env n)
    (hex : ∀ k, env.layout.linkOf (.point k) = some n → ¬ex k) : q.elementsLost env n := by
  obtain ⟨hpoints, htracks, hsignals⟩ := hlost
  refine ⟨fun k x hk hx => ?_, fun k x hk hx => ?_, fun k g hk hg => ?_⟩
  · obtain ⟨y, hy⟩ := Option.isSome_iff_exists.mp ((h.numbers k).symm.trans (by rw [hx]; rfl))
    obtain ⟨x', hx', hkept⟩ := h.points k y (hex k hk) hy
    rw [hx] at hx'
    obtain rfl := Option.some.inj hx'
    rw [hkept.rest]
    exact hpoints k y hk hy
  · have htrack := h.tracks k
    rw [hx] at htrack
    obtain ⟨y, hy, hstate⟩ := Option.map_eq_some_iff.mp htrack.symm
    exact hstate.symm.trans (htracks k y hk hy)
  · have hsignal := h.signals k
    rw [hg] at hsignal
    obtain ⟨y, hy, hstate⟩ := Option.map_eq_some_iff.mp hsignal.symm
    obtain ⟨h1, h2, h3⟩ := hsignals k y hk hy
    simp only [Prod.mk.injEq] at hstate
    exact ⟨hstate.1.symm.trans h1, hstate.2.1.symm.trans h2, hstate.2.2.symm.trans h3⟩

/-- A point of the real yard that is throwing. -/
def Plant.Throws (p : Plant) (k : Nat) : Prop := ∃ x, p.yard.point? k = some x ∧ x.throw ≠ none

theorem Plant.throwsIn_throws (p : Plant) : p.ThrowsIn p.Throws := fun _ x hk hx => Classical.byContradiction fun hn => hk ⟨x, hx, hn⟩

theorem Plant.FieldKept.payRetrain {st : LinkState} (h : p.FieldKept ex q) : p.FieldKept ex (q.payRetrain n st) := by
  unfold Plant.payRetrain
  exact .ite (.report (h.same rfl)) h

/-- Losing a link leaves its elements UNKNOWN, whatever the passing on of the losses brings about. -/
theorem Plant.loseLink_elementsLost (env : Env) (p : Plant) (n : Nat) : (Plant.loseLink env p n).elementsLost env n := by
  have hlost : ∀ k x, env.layout.linkOf (.point k) = some n → (Plant.unknownOnLink env p n).yard.point? k = some x →
      x.Losing ∧ (x.throw ≠ none → k ∈ onLink PointRecord.link PointRecord.number n env.layout.points) := by
    intro k x hk hx
    rw [Plant.unknownOnLink_point?, onLink_point hk] at hx
    obtain ⟨y, -, rfl⟩ := Option.map_eq_some_iff.mp hx
    exact ⟨Point.losing_lost y, fun _ => List.contains_iff_mem.mp (onLink_point hk)⟩
  have hpoints := Plant.passLostPoints (env := env) _ _ (fun k => env.layout.linkOf (.point k) = some n) hlost
  have hkept := Plant.FieldKept.foldl (f := fun q k => Plant.passLostPoint env q k) (fun z k h => h.passLostPoint trivial)
    (onLink PointRecord.link PointRecord.number n env.layout.points) (.refl (fun _ => True) (Plant.unknownOnLink env p n))
  unfold Plant.loseLink
  dsimp only
  generalize (onLink PointRecord.link PointRecord.number n env.layout.points).foldl
    (fun q k => Plant.passLostPoint env q k) (Plant.unknownOnLink env p n) = q at hpoints hkept
  have hq : q.elementsLost env n := by
    refine ⟨fun k x hk hx => ?_, fun k x hk hx => ?_, fun k g hk hg => ?_⟩
    · obtain ⟨hlosing, hrest⟩ := hpoints k x hk hx
      exact ⟨hlosing.state hrest, hlosing.detected, hrest⟩
    · have htrack := hkept.tracks k
      rw [hx, Plant.unknownOnLink_track?, onLink_track hk] at htrack
      obtain ⟨y, hy, hstate⟩ := Option.map_eq_some_iff.mp htrack.symm
      obtain ⟨z, -, rfl⟩ := Option.map_eq_some_iff.mp hy
      exact hstate.symm
    · have hsignal := hkept.signals k
      rw [hg, Plant.unknownOnLink_signal?, onLink_signal hk] at hsignal
      obtain ⟨y, hy, hstate⟩ := Option.map_eq_some_iff.mp hsignal.symm
      obtain ⟨z, -, rfl⟩ := Option.map_eq_some_iff.mp hy
      simp only [Prod.mk.injEq] at hstate
      exact ⟨hstate.1.symm, hstate.2.1.symm, hstate.2.2.symm⟩
  have hsections : q.FieldKept q.Throws ((onLink TrackRecord.link TrackRecord.number n env.layout.tracks).foldl
      (fun z k =>
        match p.yard.track? k with
        | some t => if t.state = .unknown then z else Plant.sectionPassed env z .real k t.state .unknown
        | none => z) q) := by
    refine .foldl (fun z k h => ?_) _ (.refl _ q)
    split
    · exact .ite h (h.sectionPassed q.throwsIn_throws)
    · exact h
  generalize List.foldl _ q _ = z at hsections
  refine Plant.FieldKept.elementsLost (ex := q.Throws) (.revertOnLink (.foldl (fun w k h => ?_) _ hsections)) hq ?_
  · split
    · exact h.passLostSignal
    · exact h
  · rintro k hk ⟨x, hx, hthrow⟩
    exact hthrow (hpoints k x hk hx).2

/-- No OPEN slot has an element on the link. -/
def Plant.ClosedOnLink (env : Env) (p : Plant) (n : Nat) : Prop :=
  ∀ m sl r, p.slot? m = some sl → sl.state = .opened → env.slotRoute sl = some r → env.layout.routeUsesLink r n = false

/-- On the real yard every OPEN slot with an element on a lost link is reverted (R69). -/
theorem Plant.revertOnLink_closed (h : (Plant.revertOnLink env p n).active = .real) :
    (Plant.revertOnLink env p n).ClosedOnLink env n := by
  have hreal : p.active = .real := (Plant.Cascade.revertOnLink (.refl p)).active.symm.trans h
  intro m sl r hsl ho hr
  unfold Plant.revertOnLink at hsl
  rw [if_pos hreal] at hsl
  obtain ⟨hm, hnot⟩ := Plant.revertAll_opened _ hsl ho
  refine Bool.eq_false_iff.mpr fun huses => hnot ?_
  simp only [List.mem_map, List.mem_filter, Plant.used]
  refine ⟨sl, ⟨⟨findBy_mem _ hm, ?_⟩, ?_⟩, Plant.slot?_number hm⟩
  · simp [Slot.inUse, ho]
  · simp [hr, huses]

theorem Plant.loseLink_closed (h : p.active = .real) : (Plant.loseLink env p n).ClosedOnLink env n := by
  have hactive : (Plant.loseLink env p n).active = .real := (Plant.Cascade.loseLink (.refl p)).active.trans h
  unfold Plant.loseLink at hactive ⊢
  exact Plant.revertOnLink_closed hactive

@[simp] theorem Plant.payRetrain_slots (p : Plant) (n : Nat) (st : LinkState) : (p.payRetrain n st).slots = p.slots := by
  unfold Plant.payRetrain
  split <;> simp

/-- A link that leaves UP, but for the commit and the erasing of a layout, loses its elements, and on the real yard closes the slots
over it (R69, R169). -/
theorem Plant.setLink_lost {l : Link} {st : LinkState} {cause : LinkCause} (hl : p.link? n = some l)
    (hloses : l.state.loses st cause = true) :
    (Plant.setLink env p n st cause).elementsLost env n ∧
      (p.active = .real → (Plant.setLink env p n st cause).ClosedOnLink env n) := by
  unfold Plant.setLink
  rw [hl]
  dsimp only
  rw [if_pos hloses]
  generalize hz : (if l.state = st then
      (if st = .training then (p.mapLink n fun x => x.enter st p.now).send n (.trainingRequest n)
        else p.mapLink n fun x => x.enter st p.now)
      else _) = z
  have hsession : z.session = p.session := by
    rw [← hz]
    split <;> split <;> simp
  have hactive : z.active = p.active := by rw [Plant.active, hsession]; rfl
  have hlost := Plant.loseLink_elementsLost env z n
  have hkept : (Plant.loseLink env z n).FieldKept (fun _ => False)
      (Plant.payRetrain (if ((st = .down || st = .disabled) && l.state != st) = true then
        (Plant.loseLink env z n).handFaultOnce .real .linkDown (.link n) none else Plant.loseLink env z n) n st) :=
    .payRetrain (.ite (.handFaultOnce (.refl _ _)) (.refl _ _))
  refine ⟨hkept.elementsLost hlost fun _ _ => id, fun hreal m sl r hsl => ?_⟩
  have hclosed := Plant.loseLink_closed (env := env) (n := n) (hactive.trans hreal)
  refine hclosed m sl r ((Plant.slot?_congr ?_ m).symm.trans hsl)
  rw [Plant.payRetrain_slots]
  split <;> simp

end

end Sys2Proof.Machine
end

section
/-! SUPPORT. The link telegrams of the desk and the supervision of the links (11.1). -/

namespace Sys2Proof.Machine

open Sys2Proof

section
variable {env : Env} {p q : Plant} {n : Nat} {l : Link}

theorem Plant.setLink_quiet (st : LinkState) (cause : LinkCause) (h : p.quiet env) :
    (Plant.setLink env p n st cause).quiet env := by
  cases hl : p.link? n with
  | none => rwa [Plant.setLink_of_none hl]
  | some l =>
    obtain ⟨q, hq, heq⟩ := Plant.setLink_cascade (env := env) hl st cause
    have hquiet : q.quiet env := hq.quiet (Plant.quiet_congr h rfl rfl rfl rfl rfl)
    rw [heq]
    unfold Plant.payRetrain
    split
    · exact Plant.quiet_congr hquiet (by simp) (by simp) (by simp) (by simp) (by simp)
    · exact hquiet

theorem Plant.setLink_now (st : LinkState) (cause : LinkCause) : (Plant.setLink env p n st cause).now = p.now := by
  cases hl : p.link? n with
  | none => rw [Plant.setLink_of_none hl]
  | some l =>
    obtain ⟨q, hq, heq⟩ := Plant.setLink_cascade (env := env) hl st cause
    have hpaid : (q.payRetrain n st).now = q.now := by
      unfold Plant.payRetrain
      split <;> simp
    rw [heq, hpaid]
    exact hq.now

/-- What scans and rounds on a quiet plant leave of a lost link. -/
theorem Plant.settled_lost (hq : q.quiet env) (h : q.elementsLost env n) : (Plant.settled env q).elementsLost env n := by
  rw [Plant.settled_of_quiet _ hq]
  exact h

theorem Plant.settled_closed (hq : q.quiet env) (h : q.ClosedOnLink env n) : (Plant.settled env q).ClosedOnLink env n := by
  rw [Plant.settled_of_quiet _ hq]
  exact h

/-- A link as a change of its state leaves it, whatever scans and rounds follow (Table 11-1). -/
theorem Plant.settled_link? (hl : p.link? n = some l) : ∃ l', (Plant.settled env p).link? n = some l' ∧ l'.unsent = l.unsent :=
  (Plant.Keeps.settled (.refl p)).link?_some hl

/-- What an event that changes the state of one link makes of the plant. -/
theorem State.event_setLink {s : State} {f : Env → Plant → Plant} {st : LinkState} {cause : LinkCause}
    (hf : f s.env s.plant = Plant.setLink s.env q n st cause) (hl : q.link? n = some l) :
    ∃ t l', s.event f = t ∧ s.plantOnly t ∧ t.plant.link? n = some l' ∧ l'.state = st ∧ l'.bad = 0 ∧
      l'.windowEnd = (l.enter st q.now).windowEnd ∧ t.plant.now = q.now ∧
      (l.state.loses st cause = true → q.quiet s.env → t.plant.elementsLost s.env n ∧
        (q.active = .real → t.plant.ClosedOnLink s.env n)) := by
  obtain ⟨l1, hl1, hstate, hbad, hwindow, -⟩ := Plant.setLink_link? (env := s.env) hl st cause
  obtain ⟨l', hl', hsame⟩ := Plant.settled_link? (env := s.env) hl1
  refine ⟨_, l', State.event_of hf, rfl, hl', (congrArg Link.state hsame :).trans hstate,
    (congrArg Link.bad hsame :).trans hbad, (congrArg Link.windowEnd hsame :).trans hwindow,
    (Plant.Keeps.settled (.refl _)).now.trans (Plant.setLink_now st cause), fun hloses hquiet => ?_⟩
  have hq := Plant.setLink_quiet (n := n) st cause hquiet
  obtain ⟨hlost, hclosed⟩ := Plant.setLink_lost (env := s.env) hl hloses
  exact ⟨Plant.settled_lost hq hlost, fun hreal => Plant.settled_closed hq (hclosed hreal)⟩

theorem Plant.advanceTo_now (p : Plant) (due : Nat) : (p.advanceTo .real due).now = max p.now due := by
  rw [Plant.advanceTo_real]
  show p.now + (due - p.now) = _
  omega

end

/-- Settles O45: each expiry and the third bad frame are one change of the link's state. -/
theorem linkSupervision : Obligations.LinkSupervision := by
  unfold Obligations.LinkSupervision
  intro s n l hl moved
  have hmoved {c : Instr} {due window : Nat} {st : LinkState} {cause : LinkCause} {f : Env → Plant → Plant} {q : Plant} {x : Link}
      (hc : exec c s = .next (s.event f)) (hf : f s.env s.plant = Plant.setLink s.env q n st cause)
      (hx : q.link? n = some x) (hstate : x.state = l.state) (hnow : q.now = max s.plant.now due)
      (hwindow : (x.enter st q.now).windowEnd = q.now + window) (hloses : l.state = .up → l.state.loses st cause = true)
      (hquiet : s.plant.quiet s.env → q.quiet s.env) (hactive : s.plant.session = none → q.active = .real) :
      moved c due st window := by
    obtain ⟨t, l', ht, honly, hl', hst, -, hend, htnow, hlost⟩ := State.event_setLink hf hx
    refine ⟨t, l', hc.trans (congrArg _ ht), honly, hl', hst, htnow.trans hnow, ?_, fun hup hq => ?_⟩
    · rw [hend, hwindow, htnow]
    · obtain ⟨helements, hclosed⟩ := hlost (hstate ▸ hloses hup) (hquiet hq)
      exact ⟨helements, fun hsession m sl r hm ho hr => hclosed (hactive hsession) m sl r hm ho hr⟩
  have hexpiry {c : Instr} {st st' : LinkState} {due : Link → Nat} {window : Nat} {cause : LinkCause} (h : l.state = st)
      (hc : exec c s = .next (s.event fun env p => p.linkDue n st due fun q => Plant.setLink env q n st' cause))
      (hwindow : ∀ now, (l.enter st' now).windowEnd = now + window) (hloses : l.state = .up → l.state.loses st' cause = true) :
      moved c (due l) st' window := by
    refine hmoved (q := s.plant.advanceTo .real (due l)) hc ?_ hl rfl (s.plant.advanceTo_now _) (hwindow _) hloses
      (fun hq => Plant.advance_quiet hq _) fun hsession => ?_
    · simp only [Plant.linkDue, hl, if_pos h]
    · simp [Plant.active, Plant.advanceTo, Plant.advance, hsession]
  refine ⟨fun hup hbad hsettled => ?_, fun hup hbad => ?_, fun hst => ?_, fun hst => ?_, fun hst => ?_, fun hst hsettled => ?_⟩
  · refine congrArg Host.Outcome.next (State.event_of_settled (p := s.plant.mapLink n fun x => { x with bad := l.bad + 1 }) ?_ hsettled)
    have hfew : ¬Config.badFrameLimit ≤ l.bad + 1 := by
      simp only [Config.badFrameLimit]
      omega
    simp only [hl, if_pos hup, if_neg hfew]
  · refine hmoved (q := s.plant.mapLink n fun x => { x with bad := l.bad + 1 }) (x := { l with bad := l.bad + 1 })
      (cause := .badFrames) rfl ?_ ?_ rfl (Nat.max_self _).symm rfl (fun _ => by rw [hup]; rfl)
      (fun hq => Plant.quiet_congr hq rfl rfl rfl rfl rfl) fun hsession => by simp [Plant.active, Plant.mapLink, hsession]
    · have hmany : Config.badFrameLimit ≤ l.bad + 1 := by
        simp only [Config.badFrameLimit]
        omega
      simp only [hl, if_pos hup, if_pos hmany]
    · rw [Plant.mapLink_link? _ n (f := fun x => { x with bad := l.bad + 1 }) (fun _ => rfl), hl]
      simp
  · exact hexpiry (c := .trainingTimeout n) (due := Link.windowEnd) (st' := .down) (cause := .timeout) hst rfl (fun _ => rfl) fun hup => by rw [hup]; rfl
  · exact hexpiry (c := .linkSilenceTimeout n) (due := Link.silenceDue) (st' := .down) (cause := .silence) hst rfl (fun _ => rfl) fun hup => by rw [hup]; rfl
  · exact hexpiry (c := .downWaitExpiry n) (due := Link.windowEnd) (st' := .training) (cause := .waitOver) hst rfl (fun _ => rfl) fun hup => by rw [hup]; rfl
  · refine congrArg Host.Outcome.next (State.event_of_settled
      (p := (s.plant.advance (l.lastSent + 250 - s.plant.now)).send n .poll) ?_ hsettled)
    simp only [hl, if_pos hst]
    rfl

end Sys2Proof.Machine
end

section
/-! SUPPORT. The link telegrams of the desk (R170, R171). -/

namespace Sys2Proof.Machine

open Sys2Proof

theorem State.answered_link? (s : State) (port : Port) (kind tag : Byte) (a : Answer) (n : Nat) :
    (s.answered port kind tag a).plant.link? n = s.plant.link? n := by
  unfold Plant.link?
  rw [State.answered_links]

/-- A link telegram of the desk for a link that the part has. -/
theorem judge_linkConditions {s : State} {n : Nat} {l : Link} (hl : s.plant.link? n = some l) {kind tag : Byte} {b : Bool}
    {x : Reason} {a : Answer} (hb : b = false) :
    judge (linkConditions .desk n (s.dispatch .desk kind tag) ++ [(b, x)]) a = a := by
  have hfound : (s.dispatch .desk kind tag).plant.link? n = some l := hl
  subst hb
  simp [linkConditions, hfound]

/-- Settles O43: RETRAIN marks the link after the change of its state, DISABLE and ENABLE are that change. -/
theorem linkTelegrams : Obligations.LinkTelegrams := by
  unfold Obligations.LinkTelegrams
  intro s tag n l hl
  have hfound : ∀ k a, (s.answered .desk k tag a).plant.link? n = some l := fun k a => (s.answered_link? ..).trans hl
  have henter : ∀ k a, (l.enter .training (s.answered .desk k tag a).plant.now).windowEnd = s.plant.now + 5000 := fun k a => by
    rw [State.answered_now]
    rfl
  refine ⟨fun hears hstate => ?_, fun hears => ⟨fun huse => ?_, fun hdisabled => ?_⟩⟩
  · have hverdict : judge (linkConditions .desk n (s.dispatch .desk TelegramKind.linkRetrain.code tag) ++
        [((s.dispatch .desk TelegramKind.linkRetrain.code tag).plant.linkIs n .disabled, .state)]) .accepted = .accepted := by
      refine judge_linkConditions hl ?_
      have hfound : (s.dispatch .desk TelegramKind.linkRetrain.code tag).plant.link? n = some l := hl
      simp [Plant.linkIs, hfound, hstate]
    let z := Plant.setLink s.env (s.answered .desk TelegramKind.linkRetrain.code tag .accepted).plant n .training .retrain
    obtain ⟨l1, hl1, h1, hbad, hwindow, -⟩ :=
      Plant.setLink_link? (env := s.env) (hfound TelegramKind.linkRetrain.code .accepted) .training .retrain
    have howed : (z.mapLink n fun x => { x with retrainOwed := true }).link? n = some { l1 with retrainOwed := true } := by
      rw [Plant.mapLink_link? z n (f := fun x => { x with retrainOwed := true }) (fun _ => rfl), hl1]
      simp
    obtain ⟨l', hl', hsame⟩ := Plant.settled_link? (env := s.env) howed
    refine ⟨_, l', congrArg Host.Outcome.next ((State.takeTelegram_of_hears hears hverdict (by simp)).trans
      (State.event_of rfl)), rfl, hl', (congrArg Link.state hsame :).trans h1, ?_, (congrArg Link.bad hsame :).trans hbad,
      (congrArg Link.retrainOwed hsame :), fun hup hquiet => ?_⟩
    · exact (congrArg Link.windowEnd hsame :).trans (hwindow.trans (henter _ _))
    · have hq : (z.mapLink n fun x => { x with retrainOwed := true }).quiet s.env :=
        Plant.quiet_congr (Plant.setLink_quiet _ _ (State.answered_quiet hquiet ..)) rfl rfl rfl rfl rfl
      have hlost := Plant.setLink_lost (env := s.env) (st := .training) (cause := .retrain)
        (hfound TelegramKind.linkRetrain.code .accepted) (by rw [hup]; rfl)
      rw [State.answered_env]
      exact Plant.settled_lost hq hlost.1
  · have hverdict : judge (linkConditions .desk n (s.dispatch .desk TelegramKind.linkDisableEnable.code tag) ++
        [(Plant.linkInUse (s.dispatch .desk TelegramKind.linkDisableEnable.code tag).env
          (s.dispatch .desk TelegramKind.linkDisableEnable.code tag).plant n, .inUse)]) .done = .done :=
      judge_linkConditions hl huse
    by_cases hdisabled : l.state = .disabled
    · obtain ⟨l', hl', hsame⟩ := Plant.settled_link? (env := s.env) (hfound TelegramKind.linkDisableEnable.code .done)
      refine ⟨_, l', congrArg Host.Outcome.next ((State.takeTelegram_of_hears hears hverdict (by simp)).trans
        (State.event_of (if_pos ?_))), rfl, hl', (congrArg Link.state hsame :).trans hdisabled, fun hup => ?_⟩
      · simp [Plant.linkIs, hfound, hdisabled]
      · rw [hdisabled] at hup
        cases hup
    · obtain ⟨t, l', ht, honly, hl', hst, -, -, -, hlost⟩ := State.event_setLink (q := _) (st := .disabled) (cause := .disable)
        (f := fun env p => if p.linkIs n .disabled then p else Plant.setLink env p n .disabled .disable)
        (if_neg (by simp [Plant.linkIs, hfound, hdisabled])) (hfound TelegramKind.linkDisableEnable.code .done)
      refine ⟨t, l', congrArg Host.Outcome.next ((State.takeTelegram_of_hears hears hverdict (by simp)).trans ht), honly, hl', hst,
        fun hup hquiet => ?_⟩
      have := (hlost (by rw [hup]; rfl) (by rw [State.answered_env]; exact State.answered_quiet hquiet ..)).1
      rwa [State.answered_env] at this
  · have hverdict : judge (linkConditions .desk n (s.dispatch .desk TelegramKind.linkDisableEnable.code tag)) .done = .done := by
      have hfound : (s.dispatch .desk TelegramKind.linkDisableEnable.code tag).plant.link? n = some l := hl
      simp [linkConditions, hfound]
    obtain ⟨t, l', ht, honly, hl', hst, -, hwindow, -, -⟩ := State.event_setLink (q := _) (st := .training) (cause := .enable)
      (f := fun env p => if p.linkIs n .disabled then Plant.setLink env p n .training .enable else p)
      (if_pos (by simp [Plant.linkIs, hfound, hdisabled])) (hfound TelegramKind.linkDisableEnable.code .done)
    exact ⟨t, l', congrArg Host.Outcome.next ((State.takeTelegram_of_hears hears hverdict (by simp)).trans ht), honly, hl', hst,
      hwindow.trans (henter _ _)⟩

end Sys2Proof.Machine
end

section
/-! SUPPORT. What a freeze of the yard and the reports of other elements leave of the real yard's elements (chapters 2, 3 and 10). -/

namespace Sys2Proof.Machine

open Sys2Proof

section
variable {env : Env} {ex : Nat → Prop} {p q : Plant} {n : Nat}

/-! ## The end of a session and the yard freeze -/

/-- After a session has been ended by a fault the real yard is in force. -/
theorem Plant.endSessionByFault_session (env : Env) (p : Plant) : (Plant.endSessionByFault env p).session = none := by
  unfold Plant.endSessionByFault
  cases hs : p.session with
  | none =>
    have hnone : (Plant.endSlots env p).session = none := by
      have := (Plant.endSlots_dropping env p).isSome
      rw [show ({ p with slots := freeSlots } : Plant).session = none from hs] at this
      simpa using this
    simp only [Plant.endSummary, hnone, Option.map_none, hs]
  | some c =>
    obtain ⟨q, hrun, hq, -⟩ := Plant.endSession_spec (env := env) (p := p) (by rw [hs]; rfl)
    have hz : (Plant.endSession env p).session = none := by simpa [hq] using hrun.isSome
    split
    · rw [Plant.report_session]
      simp [hz]
    · next hnone =>
      obtain ⟨c', hc', -⟩ := Plant.endSlots_session (env := env) hs
      simp [Plant.endSummary, hc'] at hnone

theorem Plant.endSessionByFault_of_none (h : p.session = none) : Plant.endSessionByFault env p = p := by
  have hnone : (Plant.endSlots env p).session = none := by
    have := (Plant.endSlots_dropping env p).isSome
    rw [show ({ p with slots := freeSlots } : Plant).session = none from h] at this
    simpa using this
  simp only [Plant.endSessionByFault, Plant.endSummary, hnone, Option.map_none]

theorem Plant.FieldKept.endSessionByFault (h : p.FieldKept ex q) : p.FieldKept ex (Plant.endSessionByFault env q) := by
  cases hs : q.session with
  | none => rwa [Plant.endSessionByFault_of_none hs]
  | some c =>
    obtain ⟨z, hrun, -, -, -, -, hyard, -⟩ := Plant.endSession_spec (env := env) (p := q) (by rw [hs]; rfl)
    have hend : p.FieldKept ex (Plant.endSession env q) := (h.same hyard).berths hrun.berthsOnly
    unfold Plant.endSessionByFault
    split
    · exact hend.report
    · exact h

/-- What a freeze commands and interrupts on the real yard leaves every point at rest, every section and every signal's report. -/
theorem Plant.FieldKept.frozenTables {c : Cause} (hex : p.ThrowsIn ex) (h : p.FieldKept ex q) (hreal : q.active = .real) :
    p.FieldKept ex (Plant.frozenTables env q c) := by
  let f : Plant := { q with freeze := some ⟨c, [], false⟩ }
  have hstop : p.FieldKept ex (Plant.stopAll env f) :=
    .foldl (fun _ _ h => h.writeAspect rfl) _ (h.same rfl)
  have hactive : (Plant.stopAll env f).active = .real := (Plant.Cascade.refl f).stopAll.active.trans hreal
  have hthrows : ∀ l : List Point, ∀ z : Plant, p.FieldKept ex z → z.active = .real →
      p.FieldKept ex (l.foldl (fun q x => Plant.freezeThrow env q q.active x) z) := by
    intro l
    induction l with
    | nil => exact fun z hz _ => hz
    | cons x l ih =>
      intro z hz hzr
      refine ih _ ?_ ((Plant.Cascade.refl z).freezeThrow.active.trans hzr)
      show p.FieldKept ex (Plant.freezeThrow env z z.active x)
      rw [hzr]
      exact .throwEndIn hex (.ite hz.sendStop hz)
  exact .foldl (fun _ _ h => h.revert) _ (hthrows _ _ hstop hactive)

theorem Plant.FieldKept.yardFault {k : FaultKind} {e : Option FaultElement} {x : Option RouteContext} {d : Option CheckData}
    (hex : p.ThrowsIn ex) (h : p.FieldKept ex q) : p.FieldKept ex (Plant.yardFault env q .real k e x d) := by
  have hnumbered : p.FieldKept ex (q.mapYard .real fun y => { y with faults := y.faults.numbered }) :=
    h.mapYard fun _ => .of_tables rfl rfl rfl
  unfold Plant.yardFault
  dsimp only
  split
  · exact Plant.FieldKept.report (hnumbered.same rfl)
  · have hfault := (hnumbered.endSessionByFault (env := env)).frozenTables (env := env) (c :=
      { number := (q.yardOf .real).faults.next, kind := k, element := e, time := q.time .real, context := x, check := d }) hex
      (Plant.active_of_none (Plant.endSessionByFault_session env _))
    exact Plant.FieldKept.report (hfault.same rfl)

/-! ## Reports of a point (R35 to R37) -/

theorem Plant.FieldKept.sendDrive {pos : Position} {b : Bool} (h : p.FieldKept ex q) :
    p.FieldKept ex (Plant.sendDrive env q .real n pos b) := by
  simp only [Plant.sendDrive]
  split
  · exact h.sendUp
  · exact h

theorem Plant.FieldKept.driveOn {x : Point} {th : Throw} {pos : Position} {b : Bool} (hn : ex x.number) (h : p.FieldKept ex q) :
    p.FieldKept ex (Plant.driveOn env q .real x th pos b) := by
  unfold Plant.driveOn Plant.notStarted
  exact .ite (.sendDrive (h.mapPoint (fun _ => rfl) hn)) (.ite (h.throwEnd hn) (.ite (.throwEnd hn (.ite h.sendStop h))
    (.throwEnd hn (.ite h.sendStop h))))

theorem Plant.FieldKept.detectThrowing {x : Point} {th : Throw} {det : Option Position} (hn : ex x.number)
    (h : p.FieldKept ex q) : p.FieldKept ex (Plant.detectThrowing env q .real x th det) := by
  unfold Plant.detectThrowing
  dsimp only
  split
  · exact .ite (h.throwEnd hn) h
  · have hcount := h.mapPoint (sd := .real) (n := x.number) (f := fun y => { y with attempts := x.attempts + 1 }) (fun _ => rfl) hn
    exact .ite (.ite (hcount.mapPoint (fun _ => rfl) hn) (hcount.throwEnd hn)) h
  · split
    · exact h.throwEnd hn
    · exact .ite (h.throwEnd hn) h
  · exact h

theorem Plant.FieldKept.loseDetection {x : Point} (hn : ex x.number) (h : p.FieldKept ex q) :
    p.FieldKept ex (Plant.loseDetection env q .real x) :=
  .ite h (.pointChanged (.handFault (h.mapPoint (fun _ => rfl) hn)))

theorem Plant.FieldKept.takeDetection {x : Point} {pos : Position} (hn : ex x.number) (h : p.FieldKept ex q) :
    p.FieldKept ex (Plant.takeDetection env q .real x pos) := by
  have hstate : p.FieldKept ex (q.setPointState .real x.number pos.state) := h.mapPoint (fun _ => rfl) hn
  exact .ite h (.pointChanged (.ite hstate.report (.ite hstate.report hstate)))

theorem Plant.FieldKept.trailed {x : Point} {held pos : Position} (hn : ex x.number) (hex : p.ThrowsIn ex)
    (h : p.FieldKept ex q) : p.FieldKept ex (Plant.trailed env q .real x held pos) :=
  .pointChanged (.yardFault hex (h.mapPoint (fun _ => rfl) hn))

/-- A report of one point leaves every other point at rest, every section and every signal's report. -/
theorem Plant.FieldKept.pointDetection {det : Option Position} (hn : ex n) (hex : p.ThrowsIn ex) (h : p.FieldKept ex q) :
    p.FieldKept ex (Plant.pointDetection env q .real n det) := by
  unfold Plant.pointDetection
  split
  · exact h
  · next x hx =>
    have hx' : ex x.number := (findBy_key Point.number hx).symm ▸ hn
    have hmap : p.FieldKept ex (q.mapPoint .real n fun y => { y with detected := det }) := h.mapPoint (fun _ => rfl) hn
    dsimp only
    split
    · exact hmap.detectThrowing hx'
    · split
      · exact hmap.loseDetection hx'
      · exact .ite (hmap.takeDetection hx') (hmap.trailed hx' hex)
      · exact hmap.takeDetection hx'

/-! ## Reports of a signal (R47 to R50) -/

/-- A wrong aspect that is judged is marked as raised, once (R48). -/
def Plant.raise (p : Plant) (g : Signal) (a : Aspect) : Plant :=
  if g.commanded = .stop ∧ a = .proceed ∧ g.wrongRaised = false then
    p.mapSignal .real g.number fun x => { x with wrongRaised := true }
  else p

theorem Plant.FieldKept.judgeAspect {g : Signal} {a : Aspect} {l : Lamp} (hex : p.ThrowsIn ex) (h : p.FieldKept ex (q.raise g a)) :
    p.FieldKept ex (Plant.judgeAspect env q .real g a l) := by
  unfold Plant.judgeAspect
  split
  · next hg =>
    split
    · next hraised => rwa [Plant.raise, if_neg (by simp [hraised])] at h
    · next hraised =>
      rw [Plant.raise, if_pos ⟨hg, rfl, by simpa using hraised⟩] at h
      exact .yardFault hex h
  · next hg =>
    rw [Plant.raise, if_neg (by simp [hg])] at h
    exact .ite h.handFault h
  · next hstop hproceed =>
    rwa [Plant.raise, if_neg fun hw => hstop hw.1 hw.2.1] at h

theorem Plant.FieldKept.passLoss (h : p.FieldKept ex q) : p.FieldKept ex (Plant.passLoss env q .real n) := by
  unfold Plant.passLoss
  refine .ite ?_ h
  split
  · exact h.revert
  · exact h

/-- What a report writes of a signal, as the signal stood before (R47, R48). -/
def Signal.reportedAs (g : Signal) (a : Aspect) (l : Lamp) (k : Nat) (x : Signal) : Signal :=
  { x with
    reported := some a, lamp := some l, answered := some k
    wrongRaised := !(k == g.command && (a == g.commanded || a == .stop)) && x.wrongRaised }

/-- What a report writes of the signals, before anything follows from it (R47, R48). -/
def Plant.judged (p : Plant) (n : Nat) (g : Signal) (a : Aspect) (l : Lamp) (k : Nat) : Plant :=
  if (k == g.command) = true then (p.mapSignal .real n (g.reportedAs a l k)).raise g a else p.mapSignal .real n (g.reportedAs a l k)

/-- Beyond the signal's own table entry, a signal's report leaves what a cascade leaves. -/
theorem Plant.signalReport_fieldKept {a : Aspect} {l : Lamp} {k : Nat} {g : Signal} (hg : p.yard.signal? n = some g)
    (hex : p.ThrowsIn ex) :
    (p.judged n g a l k).FieldKept ex (Plant.signalReport env p .real n a l k) := by
  have hg' : (p.yardOf .real).signal? n = some g := hg
  have hzp : (p.judged n g a l k).ThrowsIn ex := by
    unfold Plant.judged Plant.raise
    split
    · split <;> exact hex
    · exact hex
  have h1 : (p.judged n g a l k).FieldKept ex (if (k == g.command) = true then
      Plant.judgeAspect env (p.mapSignal .real n (g.reportedAs a l k)) .real g a l else p.mapSignal .real n (g.reportedAs a l k)) := by
    by_cases hk : (k == g.command) = true
    · rw [Plant.judged, if_pos hk] at hzp ⊢
      rw [if_pos hk]
      exact .judgeAspect hzp (.refl _ _)
    · rw [Plant.judged, if_neg hk, if_neg hk]
      exact .refl _ _
  unfold Plant.signalReport
  rw [hg']
  dsimp only
  have h2 := fun x => Plant.FieldKept.ite (c := (decide (l = .failed) && g.lamp != some .failed) = true)
    (h1.handFaultOnce (sd := .real) (k := .lampFailed) (e := .signal n) (c := x)) h1
  have h3 := fun x => Plant.FieldKept.ite (c := (g.lamp != some l) = true) ((h2 x).lampChanged (env := env) (sd := .real) (n := n))
    (h2 x)
  have h4 := fun x => Plant.FieldKept.ite (c := (g.reported != some a || g.lamp != some l) = true)
    ((h3 x).signalChanged (sd := .real) (n := n) (a := some a) (l := some l)) (h3 x)
  exact .ite (h4 _).passLoss (h4 _)

end

end Sys2Proof.Machine
end

section
/-! SUPPORT. A link that comes UP: its elements take what its full state reports of them (11.1.1). -/

namespace Sys2Proof.Machine

open Sys2Proof

/-! ## Lists that write each value once -/

section
variable {α β γ : Type} {f : β → α → β} {key : α → γ} {before after : β → Prop} {a : α}

/-- A fold whose steps keep what is not theirs writes the value of each step. -/
theorem foldl_written (hbefore : ∀ z x, key x ≠ key a → before z → before (f z x))
    (hafter : ∀ z x, key x ≠ key a → after z → after (f z x)) (hself : ∀ z, before z → after (f z a)) {l : List α}
    (hn : (l.map key).Nodup) (ha : a ∈ l) {z : β} (hz : before z) : after (l.foldl f z) := by
  induction l generalizing z with
  | nil => cases ha
  | cons x l ih =>
    obtain ⟨hx, hl⟩ := List.nodup_cons.mp hn
    rcases List.mem_cons.mp ha with rfl | ha
    · refine List.foldlRecOn (motive := after) l f (hself z hz) fun w hw y hy => hafter w y (fun h => hx ?_) hw
      exact h ▸ List.mem_map_of_mem hy
    · exact ih hl ha (hbefore z x (fun h => hx (h ▸ List.mem_map_of_mem ha)) hz)

end

section
variable {env : Env} {ex : Nat → Prop} {p q : Plant} {n k : Nat}

/-! ## One element written in the real yard -/

theorem Plant.mapPoint_point?_self (p : Plant) {f : Point → Point} (hf : ∀ x, (f x).number = x.number) :
    (p.mapPoint .real n f).yard.point? n = (p.yard.point? n).map f :=
  findBy_updBy_self Point.number n f p.yard.points fun x hx => (hf x).trans hx

theorem Plant.mapTrack_track?_self (p : Plant) {f : Track → Track} (hf : ∀ x, (f x).number = x.number) :
    (p.mapTrack .real n f).yard.track? n = (p.yard.track? n).map f :=
  findBy_updBy_self Track.number n f p.yard.tracks fun x hx => (hf x).trans hx

theorem Plant.mapTrack_track?_ne (p : Plant) {f : Track → Track} (hf : ∀ x, (f x).number = x.number) (h : k ≠ n) :
    (p.mapTrack .real n f).yard.track? k = p.yard.track? k :=
  findBy_updBy_ne Track.number f p.yard.tracks (fun x hx => (hf x).trans hx) h

theorem Plant.mapSignal_signal?_self (p : Plant) {f : Signal → Signal} (hf : ∀ x, (f x).number = x.number) :
    (p.mapSignal .real n f).yard.signal? n = (p.yard.signal? n).map f :=
  findBy_updBy_self Signal.number n f p.yard.signals fun x hx => (hf x).trans hx

theorem Plant.mapSignal_signal?_ne (p : Plant) {f : Signal → Signal} (hf : ∀ x, (f x).number = x.number) (h : k ≠ n) :
    (p.mapSignal .real n f).yard.signal? k = p.yard.signal? k :=
  findBy_updBy_ne Signal.number f p.yard.signals (fun x hx => (hf x).trans hx) h

/-! ## A point that is free -/

/-- A point at rest that nothing claims and nothing locks stays as it is, whatever happens to others. -/
theorem Plant.FieldKept.point_free {x : Point} (h : p.FieldKept ex q) (hk : ¬ex k) (hx : p.yard.point? k = some x)
    (hc : x.claim = none) (hl : x.locks = []) : q.yard.point? k = some x := by
  obtain ⟨x', hx', hkept⟩ := h.points k x hk hx
  rw [hx', hkept.eq_of_free hc hl]

theorem Plant.throwsIn_ne {x : Point} (hx : p.yard.point? k = some x) (ht : x.throw = none) : p.ThrowsIn (· ≠ k) := by
  intro j y hj hy
  obtain rfl : j = k := Classical.not_not.mp hj
  rw [hx] at hy
  obtain rfl := Option.some.inj hy
  exact ht

/-- A point as a report of its detection leaves it at rest (R35). -/
def Point.detecting (x : Point) (det : Option Position) : Point :=
  { x with
    state := match det with | some pos => pos.state | none => .failed
    detected := det }

/-- A point at rest that nothing claims and nothing locks takes the position reported (R35). -/
theorem Plant.pointDetection_free {x : Point} {det : Option Position} (hx : p.yard.point? k = some x) (ht : x.throw = none)
    (hc : x.claim = none) (hl : x.locks = []) :
    (Plant.pointDetection env p .real k det).yard.point? k = some (x.detecting det) := by
  have hnumber : x.number = k := findBy_key _ hx
  have hx' : (p.yardOf .real).point? k = some x := hx
  have hlocked : x.lockedAt = none := by simp [Point.lockedAt, hl]
  let q := p.mapPoint .real k fun y => { y with detected := det }
  have hq : q.yard.point? k = some { x with detected := det } := by
    rw [p.mapPoint_point?_self (f := fun y => { y with detected := det }) fun _ => rfl, hx]
    rfl
  have hstate : ∀ st, (q.setPointState .real k st).yard.point? k = some { x with detected := det, state := st } := fun st => by
    rw [Plant.setPointState, q.mapPoint_point?_self (f := fun y => { y with state := st }) fun _ => rfl, hq]
    rfl
  have hrest : ∀ z : Plant, ∀ st, (q.setPointState .real k st).FieldKept (fun _ => False) z →
      z.yard.point? k = some { x with detected := det, state := st } := fun z st hz => hz.point_free id (hstate st) hc hl
  simp only [Plant.pointDetection, hx', ht, hlocked]
  cases det with
  | none =>
    simp only [Plant.loseDetection, hnumber]
    split
    · next hfailed => exact hq.trans (congrArg some (by simp [Point.detecting, ← hfailed]))
    · exact hrest _ _ (.pointChanged (.handFault (.refl _ _)))
  | some pos =>
    simp only [Plant.takeDetection, hnumber]
    split
    · next hlies =>
      have : x.state = pos.state := beq_iff_eq.mp hlies
      exact hq.trans (congrArg some (by simp [Point.detecting, ← this]))
    · exact hrest _ _ (.pointChanged (.ite (.report (.refl _ _)) (.ite (.report (.refl _ _)) (.refl _ _))))

/-! ## A section and a signal -/

theorem Plant.sectionChange_state {x : Track} {st : TrackState} (hx : p.yard.track? k = some x) :
    ((Plant.sectionChange env p .real k st).yard.track? k).map Track.state = some st := by
  have hx' : (p.yardOf .real).track? k = some x := hx
  simp only [Plant.sectionChange, hx']
  split
  · next h => exact (congrArg (Option.map Track.state) hx).trans (congrArg some h)
  · have hkept := Plant.FieldKept.sectionPassed (env := env) (t := k) (old := x.state) (st := st) (ex := fun _ => True)
      (fun _ _ h => absurd trivial h) (.refl _ (p.mapTrack .real k fun y => { y with state := st }))
    rw [hkept.tracks k, p.mapTrack_track?_self (f := fun y => { y with state := st }) fun _ => rfl, hx]
    rfl

/-- A change of one section leaves what a cascade leaves, and the other sections. -/
theorem Plant.sectionChange_kept {st : TrackState} (hex : p.ThrowsIn ex) :
    ∃ z : Plant, z.FieldKept ex (Plant.sectionChange env p .real n st) ∧ z.yard.points = p.yard.points ∧
      z.yard.signals = p.yard.signals ∧ ∀ j, j ≠ n → z.yard.track? j = p.yard.track? j := by
  unfold Plant.sectionChange
  split
  · exact ⟨p, .refl _ _, rfl, rfl, fun _ _ => rfl⟩
  · next old hold =>
    split
    · exact ⟨p, .refl _ _, rfl, rfl, fun _ _ => rfl⟩
    · exact ⟨p.mapTrack .real n fun y => { y with state := st }, .sectionPassed hex (.refl _ _), rfl, rfl,
        fun j hj => p.mapTrack_track?_ne (f := fun y => { y with state := st }) (fun _ => rfl) hj⟩

/-- What a report writes of the signals. -/
theorem Plant.judged_spec {g : Signal} {a : Aspect} {l : Lamp} {c : Nat} (hg : p.yard.signal? n = some g) :
    (p.judged n g a l c).yard.points = p.yard.points ∧ (p.judged n g a l c).yard.tracks = p.yard.tracks ∧
      (∀ j, j ≠ n → (p.judged n g a l c).yard.signal? j = p.yard.signal? j) ∧
      ∃ b, (p.judged n g a l c).yard.signal? n = some { g with reported := some a, lamp := some l, answered := some c, wrongRaised := b } := by
  obtain rfl : g.number = n := findBy_key _ hg
  let n := g.number
  let q := p.mapSignal .real n (g.reportedAs a l c)
  have hother : ∀ j, j ≠ n → q.yard.signal? j = p.yard.signal? j := fun j hj => p.mapSignal_signal?_ne (fun _ => rfl) hj
  have hself : q.yard.signal? n = some (g.reportedAs a l c g) := by
    rw [p.mapSignal_signal?_self (f := g.reportedAs a l c) fun _ => rfl, hg]
    rfl
  have hwritten : q.yard.points = p.yard.points ∧ q.yard.tracks = p.yard.tracks ∧ (∀ j, j ≠ n → q.yard.signal? j = p.yard.signal? j) ∧
      ∃ b, q.yard.signal? n = some { g with reported := some a, lamp := some l, answered := some c, wrongRaised := b } :=
    ⟨rfl, rfl, hother, _, hself⟩
  unfold Plant.judged Plant.raise
  split
  · split
    · refine ⟨rfl, rfl, fun j hj => (q.mapSignal_signal?_ne (f := fun x => { x with wrongRaised := true }) (fun _ => rfl) hj).trans
        (hother j hj), true, ?_⟩
      refine (q.mapSignal_signal?_self (f := fun x => { x with wrongRaised := true }) fun _ => rfl).trans ?_
      rw [hself]
      rfl
    · exact hwritten
  · exact hwritten

/-- A report of one signal leaves what a cascade leaves, and the other signals. -/
theorem Plant.signalReport_kept {a : Aspect} {l : Lamp} {c : Nat} (hex : p.ThrowsIn ex) :
    ∃ z : Plant, z.FieldKept ex (Plant.signalReport env p .real n a l c) ∧ z.yard.points = p.yard.points ∧
      z.yard.tracks = p.yard.tracks ∧ (∀ j, j ≠ n → z.yard.signal? j = p.yard.signal? j) ∧
      ∀ g, p.yard.signal? n = some g →
        (z.yard.signal? n).map (fun y => (y.reported, y.lamp, y.answered)) = some (some a, some l, some c) := by
  cases hg : p.yard.signal? n with
  | none =>
    have hg' : (p.yardOf .real).signal? n = none := hg
    refine ⟨p, ?_, rfl, rfl, fun _ _ => rfl, fun g hg' => nomatch hg'⟩
    simp only [Plant.signalReport, hg']
    exact .refl _ _
  | some g =>
    obtain ⟨hpoints, htracks, hothers, b, hself⟩ := Plant.judged_spec (a := a) (l := l) (c := c) hg
    refine ⟨_, Plant.signalReport_fieldKept hg hex, hpoints, htracks, hothers, fun g' _ => ?_⟩
    rw [hself]
    rfl

end

end Sys2Proof.Machine
end

section
/-! SUPPORT. The full state of a link that comes UP (11.1.1). -/

namespace Sys2Proof.Machine

open Sys2Proof

section
variable {env : Env} {ex : Nat → Prop} {p q z w : Plant} {n k : Nat} {P Q : Yard → Prop}

theorem Plant.unmarked_quiet (h : p.quiet env) : p.unmarked.quiet env := Plant.quiet_congr h rfl rfl rfl rfl rfl

/-- A quiet plant whose real yard has a property. -/
def Plant.QuietAt (env : Env) (P : Yard → Prop) (p : Plant) : Prop := p.quiet env ∧ P p.yard

/-- A report on a quiet plant leaves it quiet, and what scans and rounds follow leave its yard. -/
theorem Plant.QuietAt.settled (h : z.QuietAt env P) (hcalm : z.Calm w) (hP : P z.yard → Q w.yard) :
    (Plant.settled env w).QuietAt env Q := by
  have hquiet := hcalm.quiet env h.1
  rw [Plant.settled_of_quiet _ hquiet]
  refine ⟨Plant.unmarked_quiet hquiet, ?_⟩
  rw [Plant.unmarked_yard]
  exact hP h.2

theorem Plant.throwsIn_true (p : Plant) : p.ThrowsIn fun _ => True := fun _ _ h => absurd trivial h

/-! ## What the reports of a full state keep -/

/-- A point at rest that nothing claims and nothing locks. -/
structure Point.Free (x : Point) : Prop where
  throw : x.throw = none
  claim : x.claim = none
  locks : x.locks = []

theorem Plant.pointDetection_point {x : Point} {det : Option Position} (hx : x.Free) (h : n ≠ k) (hp : p.yard.point? k = some x) :
    (Plant.pointDetection env p .real n det).yard.point? k = some x :=
  (Plant.FieldKept.pointDetection (ex := (· ≠ k)) h (Plant.throwsIn_ne hp hx.throw) (.refl _ _)).point_free (Classical.not_not.mpr rfl) hp
    hx.claim hx.locks

theorem Plant.sectionChange_point {x : Point} {st : TrackState} (hx : x.Free) (hp : p.yard.point? k = some x) :
    (Plant.sectionChange env p .real n st).yard.point? k = some x := by
  obtain ⟨v, hv, hpoints, -⟩ := Plant.sectionChange_kept (env := env) (n := n) (st := st) (Plant.throwsIn_ne hp hx.throw)
  exact hv.point_free (Classical.not_not.mpr rfl) (by rw [Yard.point?, hpoints]; exact hp) hx.claim hx.locks

theorem Plant.signalReport_point {x : Point} {a : Aspect} {l : Lamp} {c : Nat} (hx : x.Free) (hp : p.yard.point? k = some x) :
    (Plant.signalReport env p .real n a l c).yard.point? k = some x := by
  obtain ⟨v, hv, hpoints, -⟩ :=
    Plant.signalReport_kept (env := env) (n := n) (a := a) (l := l) (c := c) (Plant.throwsIn_ne hp hx.throw)
  exact hv.point_free (Classical.not_not.mpr rfl) (by rw [Yard.point?, hpoints]; exact hp) hx.claim hx.locks

/-- The state of a section, as far as the yard has it. -/
def Yard.sectionState (y : Yard) (k : Nat) : Option TrackState := (y.track? k).map Track.state

/-- What a signal was last reported to show, as far as the yard has it. -/
def Yard.signalShown (y : Yard) (k : Nat) : Option (Option Aspect × Option Lamp × Option Nat) :=
  (y.signal? k).map fun g => (g.reported, g.lamp, g.answered)

theorem Plant.pointDetection_section (env : Env) (p : Plant) (n : Nat) (det : Option Position) (k : Nat) :
    (Plant.pointDetection env p .real n det).yard.sectionState k = p.yard.sectionState k :=
  (Plant.FieldKept.pointDetection trivial p.throwsIn_true (.refl _ _)).tracks k

theorem Plant.pointDetection_signal (env : Env) (p : Plant) (n : Nat) (det : Option Position) (k : Nat) :
    (Plant.pointDetection env p .real n det).yard.signalShown k = p.yard.signalShown k :=
  (Plant.FieldKept.pointDetection trivial p.throwsIn_true (.refl _ _)).signals k

theorem Plant.sectionChange_section {st : TrackState} (h : k ≠ n) :
    (Plant.sectionChange env p .real n st).yard.sectionState k = p.yard.sectionState k := by
  obtain ⟨v, hv, -, -, htracks⟩ := Plant.sectionChange_kept (env := env) (n := n) (st := st) p.throwsIn_true
  exact (hv.tracks k).trans (congrArg _ (htracks k h))

theorem Plant.sectionChange_signal (env : Env) (p : Plant) (n : Nat) (st : TrackState) (k : Nat) :
    (Plant.sectionChange env p .real n st).yard.signalShown k = p.yard.signalShown k := by
  obtain ⟨v, hv, -, hsignals, -⟩ := Plant.sectionChange_kept (env := env) (n := n) (st := st) p.throwsIn_true
  exact (hv.signals k).trans (by rw [Yard.signal?, hsignals]; rfl)

theorem Plant.signalReport_section (env : Env) (p : Plant) (n : Nat) (a : Aspect) (l : Lamp) (c k : Nat) :
    (Plant.signalReport env p .real n a l c).yard.sectionState k = p.yard.sectionState k := by
  obtain ⟨v, hv, -, htracks, -⟩ := Plant.signalReport_kept (env := env) (n := n) (a := a) (l := l) (c := c) p.throwsIn_true
  exact (hv.tracks k).trans (by rw [Yard.track?, htracks]; rfl)

theorem Plant.signalReport_signal {a : Aspect} {l : Lamp} {c : Nat} (h : k ≠ n) :
    (Plant.signalReport env p .real n a l c).yard.signalShown k = p.yard.signalShown k := by
  obtain ⟨v, hv, -, -, hsignals, -⟩ := Plant.signalReport_kept (env := env) (n := n) (a := a) (l := l) (c := c) p.throwsIn_true
  exact (hv.signals k).trans (congrArg _ (hsignals k h))

theorem Plant.signalReport_signal_self {a : Aspect} {l : Lamp} {c : Nat} (h : (p.yard.signalShown n).isSome = true) :
    (Plant.signalReport env p .real n a l c).yard.signalShown n = some (some a, some l, some c) := by
  obtain ⟨v, hv, -, -, -, hself⟩ := Plant.signalReport_kept (env := env) (n := n) (a := a) (l := l) (c := c) p.throwsIn_true
  cases hg : p.yard.signal? n with
  | none => rw [Yard.signalShown, hg] at h; cases h
  | some g => exact (hv.signals n).trans (hself g hg)

/-! ## The full state -/

/-- What the reports of points, of sections and of signals each keep, a full state keeps, but for what one of its reports writes. -/
theorem Plant.takeFullState_quietAt {full : FullState} {P Q R S : Yard → Prop} (hp : p.QuietAt env P)
    (hpoints : ∀ z : Plant, z.QuietAt env P → ((full.points.filter fun x => env.layout.linkOf (.point x.1) == some n).foldl
      (fun q x => Plant.settled env (Plant.pointDetection env q .real x.1 x.2)) z).QuietAt env Q)
    (htracks : ∀ z : Plant, z.QuietAt env Q → ((full.tracks.filter fun x => env.layout.linkOf (.track x.1) == some n).foldl
      (fun q x => Plant.settled env (Plant.sectionChange env q .real x.1 x.2.state)) z).QuietAt env R)
    (hsignals : ∀ z : Plant, z.QuietAt env R → ((full.signals.filter fun x => env.layout.linkOf (.signal x.signal) == some n).foldl
      (fun q x => Plant.settled env (Plant.signalReport env q .real x.signal x.aspect x.lamp x.number)) z).QuietAt env S) :
    (Plant.takeFullState env p n full).QuietAt env S := hsignals _ (htracks _ (hpoints _ hp))

section
variable {α : Type} {f : Plant → α → Plant} {l : List α}

theorem Plant.foldl_quietAt (hcalm : ∀ (z : Plant) (x : α), z.Calm (f z x)) (hf : ∀ (z : Plant) (x : α), x ∈ l → P z.yard → P (f z x).yard)
    (hp : p.QuietAt env P) : (l.foldl (fun q x => Plant.settled env (f q x)) p).QuietAt env P :=
  List.foldlRecOn (motive := fun z : Plant => z.QuietAt env P) l _ hp fun z hz x hx => hz.settled (hcalm z x) (hf z x hx)

theorem Plant.foldl_quietAt_written {γ : Type} {key : α → γ} {a : α} (hcalm : ∀ (z : Plant) (x : α), z.Calm (f z x))
    (hbefore : ∀ (z : Plant) (x : α), key x ≠ key a → P z.yard → P (f z x).yard)
    (hafter : ∀ (z : Plant) (x : α), key x ≠ key a → Q z.yard → Q (f z x).yard)
    (hself : ∀ z : Plant, P z.yard → Q (f z a).yard) (hn : (l.map key).Nodup) (ha : a ∈ l) (hp : p.QuietAt env P) :
    (l.foldl (fun q x => Plant.settled env (f q x)) p).QuietAt env Q :=
  foldl_written (before := fun z : Plant => z.QuietAt env P) (after := fun z : Plant => z.QuietAt env Q)
    (fun z x hx hz => hz.settled (hcalm z x) (hbefore z x hx)) (fun z x hx hz => hz.settled (hcalm z x) (hafter z x hx))
    (fun z hz => hz.settled (hcalm z a) (hself z)) hn ha hp

end

section
variable {full : FullState}

theorem Plant.takeFullState_point {x : Point} {det : Option Position} (hn : (full.points.map (·.1)).Nodup)
    (hk : (k, det) ∈ full.points) (hlink : env.layout.linkOf (.point k) = some n) (hx : x.Free)
    (hp : p.QuietAt env fun y => y.point? k = some x) :
    (Plant.takeFullState env p n full).QuietAt env fun y => y.point? k = some (x.detecting det) := by
  have hfree : (x.detecting det).Free := ⟨hx.throw, hx.claim, hx.locks⟩
  refine Plant.takeFullState_quietAt hp (fun z hz => Plant.foldl_quietAt_written (key := (·.1)) (a := (k, det))
      (fun _ _ => Plant.pointDetection_calm ..) (fun _ _ h hy => Plant.pointDetection_point hx h hy)
      (fun _ _ h hy => Plant.pointDetection_point hfree h hy)
      (fun _ hy => Plant.pointDetection_free hy hx.throw hx.claim hx.locks) (hn.sublist (List.filter_sublist.map _)) ?_ hz)
    (fun z hz => Plant.foldl_quietAt (fun _ _ => (Plant.Cascade.refl _).sectionChange.calm)
      (fun _ _ _ hy => Plant.sectionChange_point hfree hy) hz)
    (fun z hz => Plant.foldl_quietAt (fun _ _ => Plant.signalReport_calm ..)
      (fun _ _ _ hy => Plant.signalReport_point hfree hy) hz)
  simp [hk, hlink]

theorem Plant.takeFullState_section {c : Occupancy} (hn : (full.tracks.map (·.1)).Nodup) (hk : (k, c) ∈ full.tracks)
    (hlink : env.layout.linkOf (.track k) = some n) (hp : p.QuietAt env fun y => (y.sectionState k).isSome = true) :
    (Plant.takeFullState env p n full).QuietAt env fun y => y.sectionState k = some c.state := by
  refine Plant.takeFullState_quietAt hp (fun z hz => Plant.foldl_quietAt (fun _ _ => Plant.pointDetection_calm ..)
      (fun _ _ _ hy => by rwa [Plant.pointDetection_section]) hz)
    (fun z hz => Plant.foldl_quietAt_written (key := (·.1)) (a := (k, c)) (fun _ _ => (Plant.Cascade.refl _).sectionChange.calm)
      (fun _ _ h hy => by rwa [Plant.sectionChange_section (Ne.symm h)])
      (fun _ _ h hy => by rwa [Plant.sectionChange_section (Ne.symm h)]) (fun w hy => ?_)
      (hn.sublist (List.filter_sublist.map _)) ?_ hz)
    (fun z hz => Plant.foldl_quietAt (fun _ _ => Plant.signalReport_calm ..)
      (fun _ _ _ hy => by rwa [Plant.signalReport_section]) hz)
  · cases hw : w.yard.track? k with
    | none => rw [Yard.sectionState, hw] at hy; cases hy
    | some x => exact Plant.sectionChange_state hw
  · simp [hk, hlink]

theorem Plant.takeFullState_signal {g : SignalFieldState} (hn : (full.signals.map SignalFieldState.signal).Nodup)
    (hg : g ∈ full.signals) (hlink : env.layout.linkOf (.signal g.signal) = some n)
    (hp : p.QuietAt env fun y => (y.signalShown g.signal).isSome = true) :
    (Plant.takeFullState env p n full).QuietAt env fun y =>
      y.signalShown g.signal = some (some g.aspect, some g.lamp, some g.number) := by
  refine Plant.takeFullState_quietAt hp (fun z hz => Plant.foldl_quietAt (fun _ _ => Plant.pointDetection_calm ..)
      (fun _ _ _ hy => by rwa [Plant.pointDetection_signal]) hz)
    (fun z hz => Plant.foldl_quietAt (fun _ _ => (Plant.Cascade.refl _).sectionChange.calm)
      (fun _ _ _ hy => by rwa [Plant.sectionChange_signal]) hz)
    (fun z hz => Plant.foldl_quietAt_written (key := SignalFieldState.signal) (a := g) (fun _ _ => Plant.signalReport_calm ..)
      (fun _ _ h hy => by rwa [Plant.signalReport_signal (Ne.symm h)])
      (fun _ _ h hy => by rwa [Plant.signalReport_signal (Ne.symm h)]) (fun w hy => Plant.signalReport_signal_self hy)
      (hn.sublist (List.filter_sublist.map _)) ?_ hz)
  simp [hg, hlink]

/-- A signal that a full state does not report keeps what it was last reported to show. -/
theorem Plant.takeFullState_silent {P : Option (Option Aspect × Option Lamp × Option Nat) → Prop}
    (h : ∀ g ∈ full.signals, g.signal ≠ k) (hp : p.QuietAt env fun y => P (y.signalShown k)) :
    (Plant.takeFullState env p n full).QuietAt env fun y => P (y.signalShown k) := by
  refine Plant.takeFullState_quietAt hp (fun z hz => Plant.foldl_quietAt (fun _ _ => Plant.pointDetection_calm ..)
      (fun _ _ _ hy => by rwa [Plant.pointDetection_signal]) hz)
    (fun z hz => Plant.foldl_quietAt (fun _ _ => (Plant.Cascade.refl _).sectionChange.calm)
      (fun _ _ _ hy => by rwa [Plant.sectionChange_signal]) hz)
    (fun z hz => Plant.foldl_quietAt (fun _ _ => Plant.signalReport_calm ..) (fun w g hg hy => ?_) hz)
  rwa [Plant.signalReport_signal (Ne.symm (h g (List.mem_filter.mp hg).1))]

end

/-! ## A link that comes UP -/

@[simp] theorem Plant.payRetrain_yard (p : Plant) (n : Nat) (st : LinkState) : (p.payRetrain n st).yard = p.yard := by
  unfold Plant.payRetrain
  split <;> simp

theorem Plant.setLink_up_yard {l : Link} (hl : p.link? n = some l) (ht : l.state = .training) :
    (Plant.setLink env p n .up .answered).yard = p.yard := by
  simp [Plant.setLink, hl, ht, LinkState.loses]

theorem Plant.FieldKept.rewriteSignals (h : p.FieldKept ex q) : p.FieldKept ex (Plant.rewriteSignals env q n) := by
  refine .foldl (fun z k h => ?_) _ h
  split
  · exact h.writeRealAspect
  · exact h

theorem Plant.FieldKept.openAll (h : p.FieldKept ex q) : p.FieldKept ex (Plant.openAll env q) := .foldl (fun _ _ h => h.tryOpen) _ h

/-- The lamps of the signals on a link are forgotten before its full state is taken (R51). -/
theorem Plant.forgetLamps_signalShown (env : Env) (p : Plant) (n k : Nat) :
    (Plant.forgetLamps env p n).yard.signalShown k = (p.yard.signalShown k).map fun x =>
      (x.1, if (onLink SignalRecord.link SignalRecord.number n env.layout.signals).contains k then none else x.2.1, x.2.2) := by
  have hsignal : (Plant.forgetLamps env p n).yard.signal? k = (p.yard.signal? k).map fun g =>
      if (onLink SignalRecord.link SignalRecord.number n env.layout.signals).contains k then { g with lamp := none } else g :=
    findBy_loseAmong Signal.number (fun g => { g with lamp := none }) (fun _ => rfl) _ k _
  rw [Yard.signalShown, hsignal, Yard.signalShown, Option.map_map, Option.map_map]
  refine congrFun (congrArg Option.map (funext fun g => ?_)) _
  simp only [Function.comp_apply]
  split <;> rfl

/-- What its full state makes of the yard, a link that comes UP makes of it, when no other step touches it. -/
theorem Plant.linkComesUp_quietAt {l : Link} {full : FullState} (hl : p.link? n = some l) (ht : l.state = .training)
    (hq : p.quiet env) (hP : ∀ y z : Yard, y.FieldKept (fun _ => False) z → P y → P z)
    (hQ : ∀ y z : Yard, y.FieldKept (fun _ => False) z → Q y → Q z)
    (hfull : ∀ z : Plant, z.QuietAt env P → (Plant.takeFullState env z n full).QuietAt env Q)
    (h : P (Plant.forgetLamps env p n).yard) : (Plant.linkComesUp env p n full).QuietAt env Q := by
  let up := Plant.setLink env p n .up .answered
  let rewritten := Plant.rewriteSignals env (Plant.forgetLamps env up n) n
  let held := if rewritten.session.isSome then rewritten.send n .holdSafe else rewritten
  let taken := Plant.takeFullState env held n full
  let opened := if taken.active = .real then Plant.openAll env taken else taken
  have hrewritten : up.Cascade rewritten := (Plant.Cascade.refl up).mapYard.rewriteSignals
  have hheld : held.quiet env := (Plant.Cascade.ite hrewritten.send hrewritten).quiet (Plant.setLink_quiet _ _ hq)
  have hforget : (Plant.forgetLamps env up n).yard = (Plant.forgetLamps env p n).yard := by
    have hup : up.yardOf .real = p.yardOf .real := Plant.setLink_up_yard hl ht
    simp only [Plant.forgetLamps, Plant.mapYard, hup]
    rfl
  have hkept : (Plant.forgetLamps env p n).FieldKept (fun _ => False) held := by
    have h : (Plant.forgetLamps env p n).FieldKept (fun _ => False) rewritten := .rewriteSignals (.same (.refl _ _) hforget)
    exact .ite h.send h
  have htaken : taken.QuietAt env Q := hfull held ⟨hheld, hP _ _ hkept h⟩
  have hopened : taken.Cascade ((opened.askScan .real).askRound .real) :=
    (Plant.Cascade.ite (Plant.Cascade.refl taken).openAll (.refl _)).askScan.askRound
  have hend : taken.FieldKept (fun _ => False) ((opened.askScan .real).askRound .real) :=
    .askRound (.askScan (.ite (.openAll (.refl _ _)) (.refl _ _)))
  exact ⟨hopened.quiet htaken.1, hQ _ _ hend htaken.2⟩

end

end Sys2Proof.Machine
end

section
/-! SUPPORT. The training answer (O44). -/

namespace Sys2Proof.Machine

open Sys2Proof

section
variable {env : Env} {p : Plant} {n k : Nat} {l : Link} {full : FullState}

theorem Plant.linkComesUp_point {x : Point} {det : Option Position} (hl : p.link? n = some l) (ht : l.state = .training)
    (hq : p.quiet env) (hn : (full.points.map (·.1)).Nodup) (hk : (k, det) ∈ full.points)
    (hlink : env.layout.linkOf (.point k) = some n) (hx : p.yard.point? k = some x) (hfree : x.Free) :
    (Plant.linkComesUp env p n full).QuietAt env fun y => y.point? k = some (x.detecting det) := by
  have hkeep : ∀ w : Point, w.Free → ∀ y z : Yard, y.FieldKept (fun _ => False) z → y.point? k = some w → z.point? k = some w := by
    intro w hw y z hyz hy
    obtain ⟨w', hw', hkept⟩ := hyz.points k w id hy
    rw [hw', hkept.eq_of_free hw.claim hw.locks]
  exact Plant.linkComesUp_quietAt hl ht hq (hkeep x hfree) (hkeep (x.detecting det) ⟨hfree.throw, hfree.claim, hfree.locks⟩)
    (fun z hz => Plant.takeFullState_point hn hk hlink hfree hz) hx

theorem Plant.linkComesUp_section {x : Track} {c : Occupancy} (hl : p.link? n = some l) (ht : l.state = .training)
    (hq : p.quiet env) (hn : (full.tracks.map (·.1)).Nodup) (hk : (k, c) ∈ full.tracks)
    (hlink : env.layout.linkOf (.track k) = some n) (hx : p.yard.track? k = some x) :
    (Plant.linkComesUp env p n full).QuietAt env fun y => y.sectionState k = some c.state := by
  refine Plant.linkComesUp_quietAt (P := fun y => (y.sectionState k).isSome = true) hl ht hq (fun y z hyz hy => ?_)
    (fun y z hyz hy => (hyz.tracks k).trans hy) (fun z hz => Plant.takeFullState_section hn hk hlink hz) ?_
  · rwa [show z.sectionState k = y.sectionState k from hyz.tracks k]
  · have hfound : (Plant.forgetLamps env p n).yard.sectionState k = some x.state := congrArg (Option.map Track.state) hx
    rw [hfound]
    rfl

theorem Plant.linkComesUp_signal {x : Signal} {g : SignalFieldState} (hl : p.link? n = some l) (ht : l.state = .training)
    (hq : p.quiet env) (hn : (full.signals.map SignalFieldState.signal).Nodup) (hg : g ∈ full.signals)
    (hlink : env.layout.linkOf (.signal g.signal) = some n) (hx : p.yard.signal? g.signal = some x) :
    (Plant.linkComesUp env p n full).QuietAt env fun y =>
      y.signalShown g.signal = some (some g.aspect, some g.lamp, some g.number) := by
  refine Plant.linkComesUp_quietAt (P := fun y => (y.signalShown g.signal).isSome = true) hl ht hq (fun y z hyz hy => ?_)
    (fun y z hyz hy => (hyz.signals g.signal).trans hy) (fun z hz => Plant.takeFullState_signal hn hg hlink hz) ?_
  · rwa [show z.signalShown g.signal = y.signalShown g.signal from hyz.signals g.signal]
  · rw [Plant.forgetLamps_signalShown, Yard.signalShown, hx]
    rfl

/-- The lamp of a signal on the link that its full state does not report is unknown. -/
theorem Plant.linkComesUp_silent (hl : p.link? n = some l) (ht : l.state = .training) (hq : p.quiet env)
    (hlink : env.layout.linkOf (.signal k) = some n) (hsilent : ∀ g ∈ full.signals, g.signal ≠ k) :
    (Plant.linkComesUp env p n full).QuietAt env fun y => ∀ x, y.signalShown k = some x → x.2.1 = none := by
  have hkeep : ∀ y z : Yard, y.FieldKept (fun _ => False) z → (∀ x, y.signalShown k = some x → x.2.1 = none) →
      ∀ x, z.signalShown k = some x → x.2.1 = none := fun y z hyz hy x hx => hy x ((hyz.signals k).symm.trans hx)
  refine Plant.linkComesUp_quietAt hl ht hq hkeep hkeep
    (fun z hz => Plant.takeFullState_silent (P := fun v => ∀ x, v = some x → x.2.1 = none) hsilent hz) fun x hx => ?_
  rw [Plant.forgetLamps_signalShown, onLink_signal hlink] at hx
  obtain ⟨y, -, rfl⟩ := Option.map_eq_some_iff.mp hx
  rfl

end

/-- Settles O44: the change of the link's state and the full state keep the link, and the full state writes each element once. -/
theorem trainingAnswerBringsUp : Obligations.TrainingAnswerBringsUp := by
  unfold Obligations.TrainingAnswerBringsUp
  intro s n number full l hl
  refine ⟨fun ht hnumber => ?_, fun hnot hsettled => ?_⟩
  · have hup : (if s.plant.linkIs n .training && number == n then Plant.linkComesUp s.env s.plant n full
        else s.plant.goodFrame n) = Plant.linkComesUp s.env s.plant n full := if_pos (by simp [Plant.linkIs, hl, ht, hnumber])
    obtain ⟨l1, hl1, hstate, hbad, -, hgood⟩ := Plant.setLink_link? (env := s.env) hl .up .answered
    obtain ⟨l2, hl2, hsame2⟩ := (Plant.linkComesUp_keeps s.env s.plant n full).link?_some hl1
    obtain ⟨l', hl', hsame'⟩ := Plant.settled_link? (env := s.env) hl2
    have hsame := hsame'.trans hsame2
    refine ⟨_, l', congrArg Host.Outcome.next (State.event_of hup), rfl, hl', (congrArg Link.state hsame :).trans hstate,
      (congrArg Link.lastGood hsame :).trans hgood, (congrArg Link.bad hsame :).trans hbad, fun hq => ?_⟩
    have hyard {P : Yard → Prop} (h : (Plant.linkComesUp s.env s.plant n full).QuietAt s.env P) :
        P (Plant.settled s.env (Plant.linkComesUp s.env s.plant n full)).yard := by
      rw [Plant.settled_of_quiet _ h.1, Plant.unmarked_yard]
      exact h.2
    refine ⟨fun hn k det x hk hlink hx hthrow hclaim hlocks => ?_, fun hn k c x hk hlink hx => ?_,
      fun hn g x hg hlink hx => ?_, fun m y hlink hsilent hy => ?_⟩
    · exact hyard (Plant.linkComesUp_point hl ht hq hn hk hlink hx ⟨hthrow, hclaim, hlocks⟩)
    · exact hyard (Plant.linkComesUp_section hl ht hq hn hk hlink hx)
    · exact hyard (Plant.linkComesUp_signal hl ht hq hn hg hlink hx)
    · exact hyard (Plant.linkComesUp_silent hl ht hq hlink hsilent) _ (congrArg (Option.map _) hy)
  · refine congrArg Host.Outcome.next (State.event_of_settled (p := s.plant.goodFrame n) (if_neg ?_) hsettled)
    rintro h
    simp only [Plant.linkIs, hl, Option.any_some, Bool.and_eq_true, beq_iff_eq] at h
    exact hnot.elim (fun hs => hs h.1) (fun hn => hn h.2)

end Sys2Proof.Machine
end

section
/-! SUPPORT. An aspect commanded, and what a slot that is freed or abandoned leaves of the yard in force (R46, R65, R78). -/

namespace Sys2Proof.Machine

open Sys2Proof

section
variable {env : Env} {p q r : Plant} {n m : Nat} {a : Aspect}

/-! ## An aspect commanded -/

/-- One signal of the yard in force is commanded an aspect, and nothing else of that yard and no slot changes. -/
structure Plant.Commands (n : Nat) (a : Aspect) (p q : Plant) : Prop where
  current : q.current = { p.current with signals := q.current.signals }
  others : ∀ m, m ≠ n → q.current.signal? m = p.current.signal? m
  commanded : ∀ g, q.current.signal? n = some g → g.commanded = a
  numbers : ∀ m, (q.current.signal? m).isSome = (p.current.signal? m).isSome
  slots : q.slots = p.slots
  active : q.active = p.active
  base : q.base p.active = p.base p.active
  queue : q.queue = p.queue

/-- What an aspect that is commanded writes of the yard in force. -/
theorem Plant.Commands.of_signals {f : Signal → Signal} (hf : ∀ g, (f g).number = g.number ∧ (f g).commanded = a)
    (hcurrent : q.current = { p.current with signals := updBy Signal.number n f p.current.signals }) (hslots : q.slots = p.slots)
    (hactive : q.active = p.active) (hbase : q.base p.active = p.base p.active) (hqueue : q.queue = p.queue) : p.Commands n a q := by
  have hself : q.current.signal? n = (p.current.signal? n).map f := by
    rw [hcurrent]
    exact findBy_updBy_self Signal.number n f _ fun g hg => (hf g).1.trans hg
  have hother : ∀ m, m ≠ n → q.current.signal? m = p.current.signal? m := fun m hm => by
    rw [hcurrent]
    exact findBy_updBy_ne Signal.number f _ (fun g hg => (hf g).1.trans hg) hm
  refine ⟨by rw [hcurrent], hother, fun g hg => ?_, fun m => ?_, hslots, hactive, hbase, hqueue⟩
  · rw [hself] at hg
    obtain ⟨y, -, rfl⟩ := Option.map_eq_some_iff.mp hg
    exact (hf y).2
  · by_cases hm : m = n
    · rw [hm, hself, Option.isSome_map]
    · rw [hother m hm]

/-- A signal that the yard does not have is not commanded. -/
theorem Plant.Commands.of_absent (h : p.current.signal? n = none) : p.Commands n a p :=
  ⟨rfl, fun _ _ => rfl, fun _ hg => (nomatch h.symm.trans hg), fun _ => rfl, rfl, rfl, rfl, rfl⟩

theorem Plant.Commands.trans (h : p.Commands n a q) (h' : q.Commands n a r) : p.Commands n a r where
  current := by
    rw [h'.current, h.current]
  others m hm := (h'.others m hm).trans (h.others m hm)
  commanded := h'.commanded
  numbers m := (h'.numbers m).trans (h.numbers m)
  slots := h'.slots.trans h.slots
  active := h'.active.trans h.active
  base := by
    have := h'.base
    rw [h.active] at this
    exact this.trans h.base
  queue := h'.queue.trans h.queue

/-- What does not touch the yards, the slots and the queue. -/
theorem Plant.Commands.same (h : p.Commands n a q) (hcurrent : r.current = q.current) (hslots : r.slots = q.slots)
    (hactive : r.active = q.active) (hbase : r.base p.active = q.base p.active) (hqueue : r.queue = q.queue) :
    p.Commands n a r := by
  refine ⟨?_, ?_, ?_, ?_, hslots.trans h.slots, hactive.trans h.active, hbase.trans h.base, hqueue.trans h.queue⟩ <;> rw [hcurrent]
  · exact h.current
  · exact h.others
  · exact h.commanded
  · exact h.numbers

theorem Plant.writeAspect_commands (env : Env) (p : Plant) (n : Nat) (a : Aspect) :
    p.Commands n a (Plant.writeAspect env p p.active n a) := by
  cases hs : p.session with
  | none =>
    have hactive := Plant.active_of_none hs
    have hcurrent : p.current = p.yard := by rw [Plant.current, hactive]; rfl
    rw [hactive]
    simp only [Plant.writeAspect, Plant.writeRealAspect]
    split
    · next hg => exact .of_absent (hcurrent ▸ hg)
    · next g hg =>
      have hwritten : ∀ k, p.Commands n a (p.mapSignal .real n fun x => { x with commanded := a, command := k }) := fun k => by
        have hsession : (p.mapSignal .real n fun x => { x with commanded := a, command := k }).session = none := hs
        refine .of_signals (f := fun x => { x with commanded := a, command := k }) (fun _ => ⟨rfl, rfl⟩) ?_ rfl ?_ ?_ rfl
        · rw [Plant.current, Plant.active_of_none hsession, hcurrent]
          rfl
        · rw [Plant.active_of_none hsession, hactive]
        · rw [hactive]
          rfl
      split
      · exact (hwritten (nextCommand g.command)).same (by simp [Plant.current]) (by simp) (by simp) (by simp [hactive]) (by simp)
      · exact hwritten _
  | some c =>
    have hactive := Plant.active_of_some hs
    have hcurrent : p.current = c.copy := by rw [Plant.current, hactive, Plant.yardOf_copy hs]
    rw [hactive]
    simp only [Plant.writeAspect, Plant.writeCopyAspect]
    split
    · next hg => exact .of_absent (by rw [Plant.current, hactive]; exact hg)
    · next g hg =>
      let f : Signal → Signal := fun x =>
        { x with commanded := a, command := nextCommand g.command, reported := some a, answered := some (nextCommand g.command),
                 wrongRaised := false }
      have hz : ((p.mapSignal .copy n f).mapSession fun c => { c with runs := armRuns c.base n a c.runs }) =
          { p with
            session := some { c with
              copy := { c.copy with signals := updBy Signal.number n f c.copy.signals }, runs := armRuns c.base n a c.runs } } := by
        rw [Plant.mapSignal, Plant.mapYard_copy hs]
        rfl
      have hwritten : p.Commands n a ((p.mapSignal .copy n f).mapSession fun c => { c with runs := armRuns c.base n a c.runs }) := by
        rw [hz]
        refine .of_signals (f := f) (fun _ => ⟨rfl, rfl⟩) ?_ rfl ?_ ?_ rfl
        · rw [hcurrent]
          rfl
        · rw [hactive]
          rfl
        · rw [hactive]
          simp [Plant.base, hs]
      show p.Commands n a (if g.reported = some a then
        (p.mapSignal .copy n f).mapSession fun c => { c with runs := armRuns c.base n a c.runs }
        else ((p.mapSignal .copy n f).mapSession fun c => { c with runs := armRuns c.base n a c.runs }).report .copy
          (.signalChanged n a (some a) g.lamp))
      split
      · exact hwritten
      · rw [hz] at hwritten ⊢
        exact hwritten.same (by simp) (by simp) (by simp) (by simp [Plant.base]) (by simp)

end

end Sys2Proof.Machine
end

section
/-! SUPPORT. What a slot that is freed or abandoned leaves of the yard in force (R65, R78). -/

namespace Sys2Proof.Machine

open Sys2Proof

section
variable {env : Env} {p q r : Plant} {sd : Side} {n m : Nat} {a : Aspect}

/-! ## The expectation list (R115) -/

/-- The expectation list of a side is the list given. -/
def Plant.Expects (sd : Side) (l : List Expectation) (p : Plant) : Prop := (p.yardOf sd).expectations = l

section
variable {l : List Expectation}

theorem Plant.Expects.runOut (h : p.Expects sd l) (h' : p.RunOutOnly sd q) : q.Expects sd l := by
  unfold Plant.Expects
  rw [h'.yard]
  exact h

theorem Plant.Expects.mapYard {f : Yard → Yard} (h : p.Expects sd l) (hf : ∀ y, (f y).expectations = y.expectations) :
    (p.mapYard sd f).Expects sd l := by
  unfold Plant.Expects
  rw [Plant.yardOf_mapYard_self]
  exact (hf _).trans h

theorem Plant.Expects.setRoads {rs : List Road} (h : p.Expects sd l) : (p.setRoads sd rs).Expects sd l := by
  unfold Plant.Expects
  rw [Plant.setRoads_yardOf]
  exact h

theorem Plant.Expects.mapRoad {b : Berth} {f : Road → Road} (h : p.Expects sd l) : (p.mapRoad sd b f).Expects sd l := h.setRoads

theorem Plant.Expects.mapRoads {b c : Berth} {f g : Road → Road} (h : p.Expects sd l) :
    (p.mapRoads sd b f c g).Expects sd l := h.setRoads

theorem Plant.Expects.setArrivals {as : List Arrival} (h : p.Expects sd l) : (p.setArrivals sd as).Expects sd l := by
  unfold Plant.Expects
  rw [Plant.setArrivals_yardOf]
  exact h

theorem Plant.Expects.report {sd' : Side} {b : ReportBody} (h : p.Expects sd l) : (p.report sd' b).Expects sd l :=
  h.runOut (.report (.refl sd p))

theorem Plant.Expects.askRound {sd' : Side} (h : p.Expects sd l) : (p.askRound sd').Expects sd l :=
  h.runOut (.askRound (.refl sd p))

theorem Plant.Expects.passBerthChange (h : p.Expects sd l) : (p.passBerthChange sd).Expects sd l :=
  h.runOut (.passBerthChange (.refl sd p))

theorem Plant.Expects.ite {c : Prop} [Decidable c] (h : p.Expects sd l) (h' : q.Expects sd l) :
    (if c then p else q).Expects sd l := by split <;> assumption

theorem Plant.Expects.unverify {b : Berth} {c : VerificationCause} (h : p.Expects sd l) : (p.unverify sd b c).Expects sd l := by
  have hclear : ∀ z : Plant, z.Expects sd l → (z.clearReservedRoad sd b).Expects sd l := by
    intro z hz
    cases b with
    | headshunt n => exact hz
    | road n => exact .ite (.askRound (hz.mapYard fun _ => rfl)) hz
  unfold Plant.unverify
  split
  · exact .ite (.report (.passBerthChange (hclear _ h.mapRoad))) h
  · exact h

theorem Plant.Expects.freedBeforeEntry {sl : Slot} (h : p.Expects p.active l) :
    (Plant.freedBeforeEntry env p sl).Expects p.active l := by
  unfold Plant.freedBeforeEntry
  dsimp only
  split
  · split
    · split
      · exact h.mapRoad.setArrivals.passBerthChange.report
      · exact h
    · refine .ite ?_ (.ite (.report (.runOut h.mapRoad.passBerthChange (.noteStabled (.refl _ _)))) h)
      split
      · split
        · exact h.mapRoads.passBerthChange.report.report
        · exact h
      · exact h
    · exact h
  · exact h

/-- Only a route that is freed normally changes the expectation list. -/
theorem Plant.Expects.endEvent {sl : Slot} {c : RouteCause} (hc : c ≠ .freed) (h : p.Expects p.active l) :
    (Plant.endEvent env p sl c).Expects p.active l := by
  unfold Plant.endEvent Plant.freedAfterEntry
  rw [if_neg hc]
  refine .ite ?_ h.freedBeforeEntry
  split
  · exact List.foldlRecOn (motive := fun z : Plant => z.Expects p.active l) _ _ h fun _ h _ _ => h.unverify
  · exact h

theorem Plant.Expects.handFate {o : Option Origin} {t : Option Nat} {f : Fate} (h : p.Expects sd l) :
    (Plant.handFate env p sd o n t f).Expects sd l := by
  unfold Plant.handFate
  refine .ite (.askRound ?_) h
  split
  · exact h
  · refine .ite (.ite h (h.mapYard fun _ => rfl)) (h.runOut (.departureFate (.refl _ _)))

end

/-! ## The entry signal of a slot -/

theorem Plant.Commands.refl_of_commanded (h : ∀ g, p.current.signal? n = some g → g.commanded = a) : p.Commands n a p :=
  ⟨rfl, fun _ _ => rfl, h, fun _ => rfl, rfl, rfl, rfl, rfl⟩

theorem Plant.stopSignal_commands (env : Env) (p : Plant) (n : Nat) :
    p.Commands n .stop (Plant.stopSignal env p p.active n) := by
  unfold Plant.stopSignal
  split
  · exact p.writeAspect_commands ..
  · next h =>
    refine .refl_of_commanded fun g hg => ?_
    have hnot : ¬g.commanded = .proceed := fun hc => h (by
      rw [show (p.yardOf p.active).signal? n = some g from hg]
      simp [hc])
    cases hc : g.commanded with
    | stop => rfl
    | proceed => exact absurd hc hnot

theorem Plant.stopEntrySignal_commands {sl : Slot} {r : RouteRecord} (h : env.slotRoute sl = some r) (p : Plant) :
    p.Commands r.signal .stop (Plant.stopEntrySignal env p sl) := by
  simp only [Plant.stopEntrySignal, h]
  exact p.stopSignal_commands ..

theorem Plant.stopEntrySignal_current (env : Env) (p : Plant) (sl : Slot) :
    (Plant.stopEntrySignal env p sl).current =
      { p.current with signals := (Plant.stopEntrySignal env p sl).current.signals } := by
  cases h : env.slotRoute sl with
  | none => simp [Plant.stopEntrySignal, h]
  | some r => exact (Plant.stopEntrySignal_commands h p).current

theorem Plant.stopEntrySignal_active (env : Env) (p : Plant) (sl : Slot) :
    (Plant.stopEntrySignal env p sl).active = p.active := by
  cases h : env.slotRoute sl with
  | none => simp [Plant.stopEntrySignal, h]
  | some r => exact (Plant.stopEntrySignal_commands h p).active

/-! ## A slot that is freed -/

/-- A yard but for the stabling record and the run-out list, which a route's end may change. -/
def Yard.unberthed (y : Yard) : Yard := { y with roads := [], arrivals := [], expectations := [], runOut := [] }

theorem Plant.BerthsOnly.unberthed (h : p.BerthsOnly p.active q) : q.current.unberthed = p.current.unberthed := by
  rw [h.current]
  rfl

theorem Plant.tellFreed_current (p : Plant) : p.tellFreed.current = p.current := by simp [Plant.tellFreed]
theorem Plant.tellFreed_active (p : Plant) : p.tellFreed.active = p.active := by simp [Plant.tellFreed]

theorem Plant.clearSlot_current (p : Plant) (n : Nat) : (p.clearSlot n).current = p.current := Plant.mapSlot_current ..
theorem Plant.clearSlot_active (p : Plant) (n : Nat) : (p.clearSlot n).active = p.active := Plant.mapSlot_active ..

/-- The runs of a session do not stand in its copies. -/
theorem Plant.discardRun_current (p : Plant) (n : Nat) : (p.discardRun n).current = p.current ∧ (p.discardRun n).active = p.active := by
  cases hs : p.session <;> simp [Plant.discardRun, Plant.mapSession, Plant.current, Plant.active, Plant.yardOf, hs]

/-- What a slot that is freed leaves of the yard in force, with its entry signal stopped and what it held let go. -/
theorem Plant.freeSlot_current {sl : Slot} {c : RouteCause} (h : p.slot? n = some sl) :
    (Plant.freeSlot env p n c).current.unberthed = ((Plant.stopEntrySignal env p sl).current.letGo n).unberthed ∧
      (Plant.freeSlot env p n c).active = p.active ∧
      (c ≠ .freed → (Plant.freeSlot env p n c).current.expectations = p.current.expectations) := by
  let stopped := Plant.stopEntrySignal env p sl
  have hactive : stopped.active = p.active := Plant.stopEntrySignal_active ..
  let gone := stopped.mapYard p.active fun y => y.letGo n
  have hgone : gone.current = stopped.current.letGo n := by
    rw [show gone = stopped.mapYard stopped.active fun y => y.letGo n by rw [hactive]]
    exact Plant.mapYard_current ..
  have hga : gone.active = p.active := (Plant.mapYard_active ..).trans hactive
  let told := Plant.handFate env (Plant.endEvent env gone sl c) p.active sl.origin (sl.route.getD 0) sl.tram c.fate
  have htold : gone.BerthsOnly gone.active told := by
    have := gone.endEvent_berthsOnly (env := env) sl c
    rw [hga] at this ⊢
    exact this.handFate
  have hfree : Plant.freeSlot env p n c = (((told.routeState sl .free c .none sl.aspectHeld).discardRun n).clearSlot n).tellFreed := by
    simp only [Plant.freeSlot, h]
    rfl
  have hend : (Plant.freeSlot env p n c).current = told.current ∧ (Plant.freeSlot env p n c).active = told.active := by
    rw [hfree, Plant.tellFreed_current, Plant.tellFreed_active, Plant.clearSlot_current, Plant.clearSlot_active,
      (Plant.discardRun_current ..).1, (Plant.discardRun_current ..).2, Plant.routeState, Plant.report_current, Plant.report_active]
    exact ⟨rfl, rfl⟩
  refine ⟨?_, hend.2.trans (htold.active.trans hga), fun hc => ?_⟩
  · rw [hend.1, htold.unberthed, hgone]
  · have hexpects : gone.Expects gone.active p.current.expectations := by
      show gone.current.expectations = _
      rw [hgone]
      exact (congrArg Yard.expectations (Plant.stopEntrySignal_current env p sl) :)
    have htoldx := hexpects.endEvent (env := env) (sl := sl) hc
    rw [hga] at htoldx
    rw [hend.1, Plant.current, htold.active, hga]
    exact htoldx.handFate

theorem Plant.abandon_current {sl : Slot} {c : AbandonCause} (h : p.slot? n = some sl) :
    (Plant.abandon env p n c).current.unberthed = (p.current.letGo n).unberthed ∧ (Plant.abandon env p n c).active = p.active := by
  let gone := ((p.mapYard p.active fun y => y.letGo n).discardRun n).clearSlot n
  have hgone : gone.current = p.current.letGo n := by
    rw [Plant.clearSlot_current, (Plant.discardRun_current ..).1]
    exact Plant.mapYard_current ..
  have hga : gone.active = p.active := by
    rw [Plant.clearSlot_active, (Plant.discardRun_current ..).2]
    exact Plant.mapYard_active ..
  have htold : gone.BerthsOnly gone.active
      (Plant.handFate env (Plant.freedBeforeEntry env gone sl) p.active sl.origin (sl.route.getD 0) sl.tram .abandoned) := by
    have := gone.freedBeforeEntry_berthsOnly (env := env) sl
    rw [hga] at this ⊢
    exact this.handFate
  have habandon : Plant.abandon env p n c =
      ((Plant.handFate env (Plant.freedBeforeEntry env gone sl) p.active sl.origin (sl.route.getD 0) sl.tram .abandoned).report
        p.active (.requestDropped (some n) (sl.route.getD 0) (sl.origin.getD .desk) sl.tram 0 .abandoned (some c))).tellFreed := by
    simp only [Plant.abandon, h]
    rfl
  rw [habandon, Plant.tellFreed_current, Plant.tellFreed_active, Plant.report_current, Plant.report_active, htold.unberthed, hgone]
  exact ⟨rfl, htold.active.trans hga⟩

end

end Sys2Proof.Machine
end

section
/-! SUPPORT. The slot timers, CANCEL ROUTE and EMERGENCY RELEASE (chapters 4 and 5). -/

namespace Sys2Proof.Machine

open Sys2Proof

section
variable {env : Env} {p q : Plant} {n : Nat}

theorem Yard.letGo_tracks (y : Yard) (n : Nat) : ∀ x ∈ (y.letGo n).tracks, x.reservedBy ≠ some n := by
  intro x hx
  obtain ⟨t, -, rfl⟩ := List.mem_map.mp hx
  split
  · nofun
  · assumption

theorem Yard.letGo_points (y : Yard) (n : Nat) :
    ∀ x ∈ (y.letGo n).points, x.claim ≠ some n ∧ ∀ k ∈ x.locks, k.slot ≠ n := by
  intro x hx
  obtain ⟨z, -, rfl⟩ := List.mem_map.mp hx
  refine ⟨?_, fun k hk => bne_iff_ne.mp (List.mem_filter.mp hk).2⟩
  unfold Point.without
  dsimp only
  split
  · nofun
  · assumption

/-- A slot is free, and holds nothing of the yard in force; every other slot is as it was. -/
structure Plant.Freed (n : Nat) (p q : Plant) : Prop where
  slot : q.slot? n = some (Slot.free n)
  tracks : ∀ x ∈ q.current.tracks, x.reservedBy ≠ some n
  points : ∀ x ∈ q.current.points, x.claim ≠ some n ∧ ∀ k ∈ x.locks, k.slot ≠ n
  others : ∀ m, m ≠ n → q.slot? m = p.slot? m

theorem Plant.Freed.of_letGo {y : Yard} {sl : Slot} (hsl : p.slot? n = some sl) (hslots : q.slots = (p.clearSlot n).slots)
    (hcurrent : q.current.unberthed = (y.letGo n).unberthed) : p.Freed n q where
  slot := (Plant.slot?_congr hslots n).trans (Plant.clearSlot_self hsl)
  tracks := by
    rw [show q.current.tracks = (y.letGo n).tracks from (congrArg Yard.tracks hcurrent :)]
    exact y.letGo_tracks n
  points := by
    rw [show q.current.points = (y.letGo n).points from (congrArg Yard.points hcurrent :)]
    exact y.letGo_points n
  others m hm := (Plant.slot?_congr hslots m).trans (Plant.clearSlot_ne hm)

theorem Plant.freeSlot_freed {sl : Slot} {c : RouteCause} (h : p.slot? n = some sl) : p.Freed n (Plant.freeSlot env p n c) :=
  .of_letGo h (Plant.freeSlot_slots h) (Plant.freeSlot_current h).1

theorem Plant.abandon_freed {sl : Slot} {c : AbandonCause} (h : p.slot? n = some sl) : p.Freed n (Plant.abandon env p n c) :=
  .of_letGo h (Plant.abandon_slots h) (Plant.abandon_current h).1

theorem Plant.Freed.unmarked (h : p.Freed n q) : p.Freed n q.unmarked :=
  ⟨h.slot, by rw [Plant.unmarked_current]; exact h.tracks, by rw [Plant.unmarked_current]; exact h.points, h.others⟩

end

/-- Settles O56: each expiry frees the slot on the plant at the moment it falls due. -/
theorem slotTimersFreeTheSlot : Obligations.SlotTimersFreeTheSlot := by
  unfold Obligations.SlotTimersFreeTheSlot
  intro s n sl due hsl htimer hquiet freed
  have hexpires {c : Instr} {st : SlotState} {f : Env → Plant → Plant} (hst : sl.state = st)
      (hc : exec c s = .next (s.event fun env p => p.slotDue n st (f env)))
      (hcascade : ∀ q : Plant, q.Cascade (f s.env q)) (hfreed : ∀ q : Plant, q.slot? n = some sl → q.Freed n (f s.env q)) :
      freed c := by
    let q := s.plant.advanceTo s.plant.active due
    have hdue : s.plant.slotDue n st (f s.env) = f s.env q := by
      simp only [Plant.slotDue, hsl, htimer, Timer.expiry?, if_pos hst, q]
    have hq : (f s.env q).quiet s.env := (hcascade q).quiet (Plant.advance_quiet hquiet _)
    have hdone := (hfreed q hsl).unmarked
    exact ⟨_, hc.trans (congrArg Host.Outcome.next (State.event_of_quiet hdue hq)), rfl, hdone.slot, hdone.tracks, hdone.points,
      hdone.others⟩
  refine ⟨fun hst => ?_, fun hst => ?_, fun hst => ?_⟩
  · exact hexpires (f := fun env q => Plant.abandon env q n .settingLimit) hst rfl (fun q => (Plant.Cascade.refl q).abandon)
      fun q hq => Plant.abandon_freed hq
  · exact hexpires (f := fun env q => Plant.freeSlot env q n .approachExpired) hst rfl (fun q => (Plant.Cascade.refl q).freeSlot)
      fun q hq => Plant.freeSlot_freed hq
  · exact hexpires (f := fun env q => Plant.freeSlot env q n .emergencyExpired) hst rfl (fun q => (Plant.Cascade.refl q).freeSlot)
      fun q hq => Plant.freeSlot_freed hq

end Sys2Proof.Machine
end

section
/-! SUPPORT. EMERGENCY RELEASE and CANCEL ROUTE (5.4, 5.5, 6.2.5). -/

namespace Sys2Proof.Machine

open Sys2Proof

section
variable {env : Env} {p q : Plant} {n route : Nat} {sl : Slot} {r : RouteRecord}

/-- The slot of a route is in use for it. -/
theorem Plant.slotOfRoute_spec (h : p.slotOfRoute route = some sl) : sl.inUse = true ∧ sl.route = some route := by
  have hmem := List.mem_of_find?_eq_some h
  have hroute := List.find?_some h
  exact ⟨(List.mem_filter.mp hmem).2, beq_iff_eq.mp hroute⟩

theorem Plant.slotOfRoute_record (h : p.slotOfRoute route = some sl) (hr : env.layout.route? route = some r) :
    env.slotRoute sl = some r := by
  rw [Env.slotRoute, (Plant.slotOfRoute_spec h).2]
  exact hr

@[simp] theorem State.dispatch_slotOfRoute (s : State) (port : Port) (kind tag : Byte) (route : Nat) :
    (s.dispatch port kind tag).plant.slotOfRoute route = s.plant.slotOfRoute route := by cases port <;> rfl

@[simp] theorem State.dispatch_request? (s : State) (port : Port) (kind tag : Byte) (route : Nat) :
    (s.dispatch port kind tag).plant.request? route = s.plant.request? route := by cases port <;> rfl

@[simp] theorem State.dispatch_hasAuthority (s : State) (port : Port) (kind tag : Byte) (port' : Port) :
    (s.dispatch port kind tag).plant.hasAuthority port' = s.plant.hasAuthority port' := by cases port <;> cases port' <;> rfl

@[simp] theorem State.answered_slotOfRoute (s : State) (port : Port) (kind tag : Byte) (a : Answer) (route : Nat) :
    (s.answered port kind tag a).plant.slotOfRoute route = s.plant.slotOfRoute route := by
  simp only [Plant.slotOfRoute, Plant.used, State.answered_slots]

@[simp] theorem State.answered_slot? (s : State) (port : Port) (kind tag : Byte) (a : Answer) (n : Nat) :
    (s.answered port kind tag a).plant.slot? n = s.plant.slot? n := Plant.slot?_congr (State.answered_slots ..) n

@[simp] theorem State.answered_base (s : State) (port : Port) (kind tag : Byte) (a : Answer) (sd : Side) :
    (s.answered port kind tag a).plant.base sd = s.plant.base sd := by
  cases sd <;> simp [Plant.base]

/-! ## Timed releases -/

/-- A slot whose entry signal has been stopped and that waits on a timer: nothing else of the yard in force and no other slot
changes. -/
structure Plant.Timed (sl x : Slot) (n : Nat) (p q : Plant) : Prop where
  slot : q.slot? sl.number = some x
  others : ∀ m, m ≠ sl.number → q.slot? m = p.slot? m
  stopped : ∀ g, q.current.signal? n = some g → g.commanded = .stop
  signals : ∀ m, m ≠ n → q.current.signal? m = p.current.signal? m
  current : q.current = { p.current with signals := q.current.signals }

/-- A slot that is written after its entry signal has been stopped, and reported. -/
theorem Plant.Timed.of_stopped {x : Slot} {b : ReportBody} {f : Slot → Slot} (hf : ∀ y, y.number = sl.number → (f y).number = sl.number)
    (hsl : p.slot? sl.number = some sl) (h : p.Commands n .stop q) (hx : f sl = x) :
    p.Timed sl x n ((q.mapSlot sl.number f).report q.active b) := by
  have hcurrent : ((q.mapSlot sl.number f).report q.active b).current = q.current := by simp
  have hslots : ((q.mapSlot sl.number f).report q.active b).slots = (p.mapSlot sl.number f).slots := by
    rw [Plant.report_slots]
    simp only [Plant.mapSlot, h.slots]
  refine ⟨?_, fun m hm => ?_, ?_, ?_, ?_⟩
  · rw [Plant.slot?_congr hslots, p.mapSlot_slot?_self hf hsl, hx]
  · rw [Plant.slot?_congr hslots, p.mapSlot_slot?_ne hf hm]
  · rw [hcurrent]
    exact h.commanded
  · rw [hcurrent]
    exact h.others
  · rw [hcurrent]
    exact h.current

theorem Plant.beginEmergency_timed (hsl : p.slot? sl.number = some sl) (hr : env.slotRoute sl = some r) :
    p.Timed sl { sl with
        state := .emergencyTiming, timer := .running (p.base p.active + 1000 * env.params.emergencyTime) } r.signal
      (Plant.beginEmergency env p sl) :=
  .of_stopped (f := fun x => { x with
    state := .emergencyTiming, timer := .running (p.base p.active + 1000 * env.params.emergencyTime) })
    (fun _ h => h) hsl (Plant.stopEntrySignal_commands hr p) rfl

theorem Plant.beginApproachTiming_timed (hsl : p.slot? sl.number = some sl) (hr : env.slotRoute sl = some r) :
    p.Timed sl { sl with
        state := .approachTiming, timer := .running (p.base p.active + 1000 * r.releaseSeconds) } r.signal
      ((Plant.stopEntrySignal env p sl).beginApproachTiming sl r) := by
  have hstop := Plant.stopEntrySignal_commands hr p
  refine .of_stopped (f := fun x => { x with
    state := .approachTiming
    timer := .running ((Plant.stopEntrySignal env p sl).base (Plant.stopEntrySignal env p sl).active + 1000 * r.releaseSeconds) })
    (fun _ h => h) hsl hstop ?_
  rw [hstop.active, hstop.base]

end

/-- Settles O27: the emergency timer is written after the entry signal has been stopped, on a quiet plant. -/
theorem emergencyReleaseTimes : Obligations.EmergencyReleaseTimes := by
  unfold Obligations.EmergencyReleaseTimes
  intro s tag route sl r hears hpermit hheld hroute hquiet hslot hsl hunopened hstate u
  have hr : s.env.slotRoute sl = some r := Plant.slotOfRoute_record hslot hroute
  have hemergency : sl.emergency = false := beq_eq_false_iff_ne.mpr hstate
  have hanswer : emergencyReleaseAnswer .desk route (s.dispatch .desk TelegramKind.emergencyRelease.code tag) = .accepted := by
    have hgranted : s.plant.permit.isNone = false := by
      cases hp : s.plant.permit with
      | none => rw [hp] at hpermit; cases hpermit
      | some due => rfl
    simp [emergencyReleaseAnswer, hslot, hgranted, hheld, hroute, hunopened, hemergency]
  have hevent : Plant.emergencyRelease s.env u.plant route = Plant.beginEmergency s.env u.plant sl := by
    have hslot' : u.plant.slotOfRoute route = some sl := (State.answered_slotOfRoute ..).trans hslot
    simp only [Plant.emergencyRelease, hslot', hunopened, hemergency, Bool.false_eq_true, if_false]
  have hcascade : u.plant.Cascade (Plant.beginEmergency s.env u.plant sl) :=
    hevent ▸ (Plant.Cascade.refl u.plant).emergencyRelease
  have htimed := Plant.beginEmergency_timed (env := s.env) (p := u.plant) ((State.answered_slot? ..).trans hsl) hr
  generalize Plant.beginEmergency s.env u.plant sl = z at hevent hcascade htimed
  refine ⟨_, congrArg Host.Outcome.next (State.takeTelegram_event_quiet hears (p := z) hanswer (by simp) hevent
    (hcascade.quiet (State.answered_quiet hquiet ..))), rfl, hcascade.permit, ?_, fun m hm => ?_, fun g hg => ?_, ?_⟩
  · have hslot := htimed.slot
    rw [State.answered_base, State.answered_active] at hslot
    exact hslot
  · exact (htimed.others m hm).trans (State.answered_slot? ..)
  · rw [Plant.unmarked_current] at hg
    exact htimed.stopped g hg
  · rw [Plant.unmarked_current]
    exact htimed.current.trans (by rw [State.answered_current])

end Sys2Proof.Machine
end

section
/-! SUPPORT. CANCEL ROUTE (6.2.5, 5.4). -/

namespace Sys2Proof.Machine

open Sys2Proof

section
variable {env : Env} {p q : Plant} {sl : Slot} {r : RouteRecord} {n : Nat}

/-- A slot that is freed by a withdrawal: it holds nothing, its entry signal is at STOP, and nothing else of the elements changes. -/
structure Plant.Withdrawn (n signal : Nat) (p q : Plant) : Prop where
  slot : q.slot? n = some (Slot.free n)
  others : ∀ m, m ≠ n → q.slot? m = p.slot? m
  stopped : ∀ g, q.current.signal? signal = some g → g.commanded = .stop
  signals : ∀ m, m ≠ signal → q.current.signal? m = p.current.signal? m
  points : q.current.points = (p.current.letGo n).points
  tracks : q.current.tracks = (p.current.letGo n).tracks
  faults : q.current.faults = p.current.faults
  expectations : q.current.expectations = p.current.expectations

/-- A slot of a route that is freed, its entry signal stopped before or not. -/
theorem Plant.freeSlot_withdrawn {c : RouteCause} (hc : c ≠ .freed) (hsl : p.slot? n = some sl) (hslots : q.slots = p.slots)
    (hstop : p.Commands r.signal .stop (Plant.stopEntrySignal env q sl))
    (hexpects : q.current.expectations = p.current.expectations) : p.Withdrawn n r.signal (Plant.freeSlot env q n c) := by
  have hqsl : q.slot? n = some sl := (Plant.slot?_congr hslots n).trans hsl
  obtain ⟨hcurrent, -, hexp⟩ := Plant.freeSlot_current (env := env) (c := c) hqsl
  have hsame : (Plant.stopEntrySignal env q sl).current.letGo n =
      { p.current.letGo n with signals := (Plant.stopEntrySignal env q sl).current.signals } := by
    rw [hstop.current]
    rfl
  have hfreed := Plant.freeSlot_freed (env := env) (c := c) hqsl
  rw [hsame] at hcurrent
  have hsignals : (Plant.freeSlot env q n c).current.signals = (Plant.stopEntrySignal env q sl).current.signals :=
    (congrArg Yard.signals hcurrent :)
  refine ⟨hfreed.slot, fun m hm => (hfreed.others m hm).trans (Plant.slot?_congr hslots m), fun g hg => hstop.commanded g ?_,
    fun m hm => ?_, (congrArg Yard.points hcurrent :), (congrArg Yard.tracks hcurrent :), (congrArg Yard.faults hcurrent :),
    (hexp hc).trans hexpects⟩
  · rwa [Yard.signal?, hsignals] at hg
  · rw [Yard.signal?, hsignals]
    exact hstop.others m hm

/-- What the rest of a telegram leaves of what is asked of a slot that is withdrawn. -/
theorem Plant.Withdrawn.unmarked {s : Nat} (h : p.Withdrawn n s q) : p.Withdrawn n s q.unmarked := by
  have hcurrent : q.unmarked.current = q.current := Plant.unmarked_current q
  exact ⟨h.slot, h.others, by rw [hcurrent]; exact h.stopped, by rw [hcurrent]; exact h.signals, by rw [hcurrent]; exact h.points,
    by rw [hcurrent]; exact h.tracks, by rw [hcurrent]; exact h.faults, by rw [hcurrent]; exact h.expectations⟩

end

theorem Plant.approachClear_congr {p q : Plant} (h : p.SameTake q) (env : Env) (r : RouteRecord) :
    Plant.approachClear env q r = Plant.approachClear env p r := by
  simp only [Plant.approachClear, h.trackClear env]

theorem State.answered_sameTake (s : State) (port : Port) (kind tag : Byte) (a : Answer) :
    s.plant.SameTake (s.answered port kind tag a).plant :=
  ⟨by simp, by simp, by simp, by simp, by simp, by simp, by simp, by simp, by simp [Plant.headAnswer]⟩

theorem State.dispatch_sameTake (s : State) (port : Port) (kind tag : Byte) :
    s.plant.SameTake (s.dispatch port kind tag).plant := by
  cases port <;> exact ⟨rfl, rfl, rfl, rfl, rfl, rfl, rfl, rfl, rfl⟩

/-- CANCEL ROUTE of a route that the layout holds is answered as the queue or the slot gives it. -/
theorem cancelRouteAnswer_of_slot {s : State} {port : Port} {tag : Byte} {route : Nat} {sl : Slot} {r : RouteRecord}
    (hauth : s.plant.hasAuthority port = true) (hheld : s.store.held = true) (hroute : s.store.layout.route? route = some r)
    (hqueue : s.plant.queue = []) (hslot : s.plant.slotOfRoute route = some sl) :
    cancelRouteAnswer port route (s.dispatch port TelegramKind.cancelRoute.code tag) =
      if sl.unopened then .done
      else if sl.state = .opened ∨ sl.state = .locked then (if Plant.approachClear s.env s.plant r then .done else .accepted)
      else Plant.cancelAnswer s.env s.plant sl := by
  have hr : s.env.slotRoute sl = some r := Plant.slotOfRoute_record hslot hroute
  have hrequest : s.plant.request? route = none := by simp [Plant.request?, hqueue]
  have hclear := fun x => Plant.approachClear_congr (s.dispatch_sameTake port TelegramKind.cancelRoute.code tag) s.env x
  have hcancel : Plant.cancelAnswer s.env (s.dispatch port TelegramKind.cancelRoute.code tag).plant sl =
      Plant.cancelAnswer s.env s.plant sl := by
    simp only [Plant.cancelAnswer, funext hclear]
  have hanswer : cancelRouteAnswer port route (s.dispatch port TelegramKind.cancelRoute.code tag) =
      Plant.cancelAnswer s.env s.plant sl := by
    simp [cancelRouteAnswer, hauth, hheld, hroute, hrequest, hslot, hcancel]
  rw [hanswer, Plant.cancelAnswer]
  split
  · rfl
  · next h =>
    cases hst : sl.state <;> simp [hr]

/-- Settles O25: the one queued request leaves the queue; a slot is freed at once, or waits for its approach section. -/
theorem cancelRouteWithdraws : Obligations.CancelRouteWithdraws := by
  unfold Obligations.CancelRouteWithdraws
  intro s port tag hears hauth hheld
  constructor
  · intro x hroute hqueue horigin hauto u
    have hrequest : s.plant.request? x.route = some x := by simp [Plant.request?, hqueue, findBy_cons]
    have hanswer : cancelRouteAnswer port x.route (s.dispatch port TelegramKind.cancelRoute.code tag) = .done := by
      have hnone : (s.store.layout.route? x.route).isNone = false := by
        cases h : s.store.layout.route? x.route with
        | none => rw [h] at hroute; cases hroute
        | some r => rfl
      simp [cancelRouteAnswer, hauth, hheld, hnone, hrequest]
    have hfilter : u.plant.queue.filter (fun y => y.route != x.route) = [] := by simp [u, hqueue]
    have hdrop := Plant.dropRequest_of_origin (env := s.env) (p := u.plant) horigin .cancelled .cancelled
    rw [hfilter, show u.plant.active = s.plant.active from State.answered_active ..] at hdrop
    have hevent : Plant.cancelRoute s.env u.plant x.route = Plant.dropRequest s.env u.plant x .cancelled .cancelled := by
      have hfound : u.plant.request? x.route = some x := by simpa [Plant.request?, u] using hrequest
      simp only [Plant.cancelRoute, hfound]
    refine congrArg Host.Outcome.next ((State.takeTelegram_event_quiet hears hanswer (by simp) (hevent.trans hdrop) ?_).trans ?_)
    · refine ⟨by simp, ?_⟩
      have hreal : Plant.automatic s.env u.plant = false := by
        rw [← hauto]
        simp [Plant.automatic, Plant.frozen, Plant.holding, u]
      simpa [Plant.automatic, Plant.frozen, Plant.holding] using hreal
    · rw [Plant.askScan_unmarked]
  · intro route sl r hroute hquiet hslot hsl n shown gives freed
    have hr : s.env.slotRoute sl = some r := Plant.slotOfRoute_record hslot hroute
    have hanswer := cancelRouteAnswer_of_slot (tag := tag) hauth hheld hroute hquiet.1 hslot
    have hslot' : ∀ a, (s.answered port TelegramKind.cancelRoute.code tag a).plant.slotOfRoute route = some sl := fun a =>
      (State.answered_slotOfRoute ..).trans hslot
    have hsl' : ∀ a, (s.answered port TelegramKind.cancelRoute.code tag a).plant.slot? n = some sl := fun a =>
      (State.answered_slot? ..).trans hsl
    have hevent : ∀ a, Plant.cancelRoute s.env (s.answered port TelegramKind.cancelRoute.code tag a).plant route =
        Plant.cancelSlot s.env (s.answered port TelegramKind.cancelRoute.code tag a).plant sl := fun a => by
      have hnone : (s.answered port TelegramKind.cancelRoute.code tag a).plant.request? route = none := by
        simp [Plant.request?, hquiet.1]
      simp only [Plant.cancelRoute, hnone, hslot' a]
    have hgives : ∀ (a : Answer) (z : Plant), a.outcome ≠ .refused →
        cancelRouteAnswer port route (s.dispatch port TelegramKind.cancelRoute.code tag) = a →
        Plant.cancelSlot s.env (s.answered port TelegramKind.cancelRoute.code tag a).plant sl = z →
        exec (.cancelRoute port tag route) s =
            .next { s.answered port TelegramKind.cancelRoute.code tag a with plant := z.unmarked } ∧ z.queue = [] := by
      intro a z hrefused ha hz
      have hq : z.quiet s.env := by
        rw [← hz]
        exact (Plant.Cascade.refl _).cancelSlot.quiet (State.answered_quiet hquiet ..)
      exact ⟨congrArg Host.Outcome.next (State.takeTelegram_event_quiet hears ha hrefused ((hevent a).trans hz) hq), hq.1⟩
    have hfreed : ∀ z : Plant, cancelRouteAnswer port route (s.dispatch port TelegramKind.cancelRoute.code tag) = .done →
        Plant.cancelSlot s.env (s.answered port TelegramKind.cancelRoute.code tag .done).plant sl = z →
        (s.answered port TelegramKind.cancelRoute.code tag .done).plant.Withdrawn n r.signal z → freed := by
      intro z ha hz hw
      obtain ⟨hexec, hqueue⟩ := hgives .done z (by simp) ha hz
      have hu := hw.unmarked
      refine ⟨_, hexec, rfl, hu.slot, fun m hm => (hu.others m hm).trans (State.answered_slot? ..), hu.stopped, fun m hm => ?_,
        hqueue, ?_, ?_, ?_, ?_⟩
      · exact (hu.signals m hm).trans (by rw [State.answered_current])
      · exact hu.points.trans (by rw [State.answered_current]; rfl)
      · exact hu.tracks.trans (by rw [State.answered_current]; rfl)
      · exact hu.faults.trans (by rw [State.answered_current])
      · exact hu.expectations.trans (by rw [State.answered_current])
    have hclear : ∀ a, Plant.approachClear s.env (s.answered port TelegramKind.cancelRoute.code tag a).plant r =
        Plant.approachClear s.env s.plant r := fun a => Plant.approachClear_congr (s.answered_sameTake ..) s.env r
    have hshown : shown → sl.unopened = false ∧ (sl.state = .opened ∨ sl.state = .locked) ∧
        (sl.state == .opened || sl.state == .locked) = true := by
      rintro (h | ⟨h, ho⟩)
      · simp [Slot.unopened, h]
      · simp [Slot.unopened, h, ho]
    refine ⟨fun hun => ?_, fun hs hac => ?_, fun hs hac => ?_⟩
    · have hunopened : sl.unopened = true := by
        rcases hun with h | ⟨h, ho⟩ <;> simp [Slot.unopened, *]
      refine hfreed _ (by rw [hanswer, if_pos hunopened]) (if_pos hunopened) ?_
      exact Plant.freeSlot_withdrawn (by simp) (hsl' _) rfl (Plant.stopEntrySignal_commands hr _) rfl
    · obtain ⟨hunopened, hst, hst'⟩ := hshown hs
      let u := (s.answered port TelegramKind.cancelRoute.code tag .done).plant
      have hcancel : Plant.cancelSlot s.env u sl = Plant.freeSlot s.env (Plant.stopEntrySignal s.env u sl) n .cancelled := by
        simp only [Plant.cancelSlot, hunopened, hst', hr, u, hclear, hac, Bool.false_eq_true, if_false, if_true, n]
      refine hfreed _ (by rw [hanswer]; simp [hunopened, hst, hac]) hcancel ?_
      have hstop := Plant.stopEntrySignal_commands hr u
      exact Plant.freeSlot_withdrawn (by simp) (hsl' _) hstop.slots
        (hstop.trans (Plant.stopEntrySignal_commands hr _)) (congrArg Yard.expectations hstop.current :)
    · obtain ⟨hunopened, hst, hst'⟩ := hshown hs
      let u := (s.answered port TelegramKind.cancelRoute.code tag .accepted).plant
      have hcancel : Plant.cancelSlot s.env u sl = (Plant.stopEntrySignal s.env u sl).beginApproachTiming sl r := by
        simp only [Plant.cancelSlot, hunopened, hst', hr, u, hclear, hac, Bool.false_eq_true, if_false, if_true]
      have htimed := Plant.beginApproachTiming_timed (hsl' .accepted) hr
      rw [← show Plant.cancelSlot s.env u sl = _ from hcancel] at htimed
      obtain ⟨hexec, hqueue⟩ := hgives .accepted _ (by simp) (by rw [hanswer]; simp [hunopened, hst, hac]) rfl
      generalize Plant.cancelSlot s.env u sl = z at htimed hexec hqueue
      refine ⟨_, hexec, rfl, ?_, fun m hm => (htimed.others m hm).trans (State.answered_slot? ..), ?_, ?_, hqueue, ?_⟩
      · have := htimed.slot
        rw [State.answered_base, State.answered_active] at this
        exact this
      · rw [Plant.unmarked_current]
        exact htimed.stopped
      · rw [Plant.unmarked_current]
        exact fun m hm => (htimed.signals m hm).trans (by rw [State.answered_current])
      · show z.unmarked.current = { s.plant.current with signals := z.unmarked.current.signals }
        rw [Plant.unmarked_current]
        exact htimed.current.trans (by rw [State.answered_current])

end Sys2Proof.Machine
end

section
/-! SUPPORT. A yard that freezes: every signal at STOP, no throw, no slot OPEN, no timer running (R161, R162). -/

namespace Sys2Proof.Machine

open Sys2Proof

section
variable {env : Env} {ex : Nat → Prop} {p q r : Plant} {n : Nat}

/-! ## Scans and rounds of a frozen yard -/

/-- What scans and rounds of a frozen yard may change: the held marks of the requests, and reports of them. -/
structure Plant.Waiting (p q : Plant) : Prop where
  rest : q = { p with
    planOut := q.planOut, deskOut := q.deskOut, queue := q.queue, wantScan := q.wantScan, wantRound := q.wantRound }
  queue : q.queue.map Request.expiry? = p.queue.map Request.expiry?

theorem Plant.Waiting.refl (p : Plant) : p.Waiting p := ⟨rfl, rfl⟩

theorem Plant.Waiting.trans (h : p.Waiting q) (h' : q.Waiting r) : p.Waiting r where
  rest := h'.rest.trans (congrArg (fun z : Plant => { z with
    planOut := r.planOut, deskOut := r.deskOut, queue := r.queue, wantScan := r.wantScan, wantRound := r.wantRound }) h.rest)
  queue := h'.queue.trans h.queue

theorem Plant.Waiting.frozen (h : p.Waiting q) : q.frozen = p.frozen := by
  rw [Plant.frozen, h.rest]
  rfl

theorem Plant.Waiting.report {sd : Side} {b : ReportBody} (h : p.Waiting q) : p.Waiting (q.report sd b) :=
  h.trans ⟨rfl, rfl⟩

theorem Plant.Waiting.promote {route : Nat} (h : p.Waiting q) : p.Waiting (Plant.promote env q route) := by
  unfold Plant.promote
  split
  · exact h
  · split
    · exact .report (h.trans ⟨rfl, updBy_map_of_eq (f := fun x : Request => { x with held := true }) (fun _ => rfl) _ _⟩)
    · exact h

/-- In a frozen yard no request is taken (R161). -/
theorem Plant.offer_of_frozen {route : Nat} (h : p.frozen = true) : Plant.offer env p route = p := by
  unfold Plant.offer
  split
  · dsimp only
    split
    · rfl
    · simp [Plant.takeTest, h]
  · rfl

theorem Plant.scan_waiting (h : p.frozen = true) : p.Waiting (Plant.scan env p) := by
  have hpromoted : ∀ l : List Nat, ∀ z : Plant, p.Waiting z → p.Waiting (l.foldl (fun q n => Plant.promote env q n) z) := fun l z hz =>
    List.foldlRecOn (motive := fun w => p.Waiting w) l _ hz fun _ hw _ _ => hw.promote
  unfold Plant.scan
  refine List.foldlRecOn (motive := fun w => p.Waiting w) _ _ (hpromoted _ _ (.refl p)) fun w hw k _ => ?_
  rw [Plant.offer_of_frozen (hw.frozen.trans h)]
  exact hw

theorem Plant.settle_waiting (k : Nat) (h : p.frozen = true) : p.Waiting (Plant.settle env k p) := by
  induction k generalizing p with
  | zero => exact .refl p
  | succ k ih =>
    unfold Plant.settle
    split
    · have hasked : p.Waiting { p with wantScan := false } := ⟨rfl, rfl⟩
      have hscan : ({ p with wantScan := false } : Plant).Waiting (Plant.scan env { p with wantScan := false }) := Plant.scan_waiting h
      exact (hasked.trans hscan).trans (ih (hscan.frozen.trans h))
    · split
      · have hauto : Plant.automatic env { p with wantRound := false } = false := Plant.automatic_of_frozen h
        have hround : Plant.round env { p with wantRound := false } = { p with wantRound := false } := Plant.round_of_idle env hauto
        have hasked : p.Waiting { p with wantRound := false } := ⟨rfl, rfl⟩
        rw [hround]
        exact hasked.trans (ih (p := { p with wantRound := false }) h)
      · exact .refl p

theorem Plant.settled_waiting (env : Env) (h : p.frozen = true) : p.Waiting (Plant.settled env p) := Plant.settle_waiting _ h

/-! ## A frozen yard at stop -/

/-- The real yard in force, frozen, with every signal at STOP. -/
structure Plant.Shut (p : Plant) : Prop where
  active : p.active = .real
  frozen : p.frozen = true
  stop : p.yard.allAtStop

/-- What a cascade leaves shut: no signal is written but to STOP. -/
theorem Plant.Shut.cascade (h : p.Shut) (hc : p.Cascade q)
    (hs : ∀ g ∈ q.yard.signals, g.commanded = .stop ∨ g ∈ p.yard.signals) : q.Shut where
  active := hc.active.trans h.active
  frozen := by
    rw [Plant.frozen, hc.freeze]
    exact h.frozen
  stop g hg := (hs g hg).elim id (h.stop g)

theorem Plant.Shut.same (h : p.Shut) (hc : p.Cascade q) (hs : q.yard.signals = p.yard.signals) : q.Shut :=
  h.cascade hc fun _ hg => .inr (hs ▸ hg)

theorem Plant.Shut.ite {c : Prop} [Decidable c] (h : p.Shut) (h' : q.Shut) : (if c then p else q).Shut := by split <;> assumption

/-- The signals of the real yard when one is commanded STOP: it is at STOP, and every other as it was. -/
theorem Plant.writeRealAspect_stop (p : Plant) (n : Nat) :
    ∀ g ∈ (Plant.writeRealAspect env p n .stop).yard.signals, g.commanded = .stop ∨ (g ∈ p.yard.signals ∧ g.number ≠ n) := by
  have hwritten : ∀ k : Nat, ∀ g ∈ updBy Signal.number n (fun x => { x with commanded := .stop, command := k }) p.yard.signals,
      g.commanded = .stop ∨ (g ∈ p.yard.signals ∧ g.number ≠ n) := by
    intro k g hg
    obtain ⟨x, hx, rfl⟩ := List.mem_map.mp hg
    split
    · exact .inl rfl
    · next hn => exact .inr ⟨hx, fun h => hn (beq_iff_eq.mpr h)⟩
  unfold Plant.writeRealAspect
  split
  · next hnone => exact fun g hg => .inr ⟨hg, (findBy_eq_none Signal.number).mp hnone g hg⟩
  · split
    · next l _ =>
      intro g hg
      rw [Plant.sendUp_yard] at hg
      exact hwritten _ g hg
    · exact fun g hg => hwritten _ g hg

theorem Plant.Shut.writeAspect (h : p.Shut) : (Plant.writeAspect env p .real n .stop).Shut :=
  h.cascade (Plant.Cascade.refl p).writeAspect fun g hg => (p.writeRealAspect_stop n g hg).imp id And.left

theorem Plant.Shut.stopEntrySignal {sl : Slot} (h : p.Shut) : (Plant.stopEntrySignal env p sl).Shut := by
  unfold Plant.stopEntrySignal Plant.stopSignal
  rw [h.active]
  split
  · exact .ite h.writeAspect h
  · exact h

theorem Plant.Shut.report {sd : Side} {b : ReportBody} (h : p.Shut) : (p.report sd b).Shut :=
  h.same (Plant.Cascade.refl p).report (by rw [Plant.report_yard])

theorem Plant.Shut.mapSlot {f : Slot → Slot} (h : p.Shut) : (p.mapSlot n f).Shut := h.same (Plant.Cascade.refl p).mapSlot rfl

theorem Plant.Shut.mapPoint {f : Point → Point} (h : p.Shut) : (p.mapPoint .real n f).Shut :=
  h.same (Plant.Cascade.refl p).mapPoint rfl

theorem Plant.Shut.askScan {sd : Side} (h : p.Shut) : (p.askScan sd).Shut :=
  h.same (Plant.Cascade.refl p).askScan (by rw [Plant.askScan_yard])

theorem Plant.Shut.revert {c : RouteCause} {f : FailedCondition} (h : p.Shut) : (Plant.revert env p n c f).Shut := by
  unfold Plant.revert
  split
  · exact h
  · exact .ite (.report h.stopEntrySignal.mapSlot) h

/-- In a frozen yard no slot opens (R68). -/
theorem Plant.tryOpen_of_frozen (h : p.frozen = true) : Plant.tryOpen env p n = p := by
  unfold Plant.tryOpen
  split
  · rfl
  · next sl _ =>
    have hclosed : Plant.mayOpen env p sl = false := by
      unfold Plant.mayOpen
      cases env.slotRoute sl with
      | none => rfl
      | some r => simp [h]
    rw [hclosed]

theorem Plant.Shut.pointChanged (h : p.Shut) : (Plant.pointChanged env p .real n).Shut := by
  have hslot : ∀ z : Plant, z.Shut → ∀ k, (Plant.slotPoint env z n k).Shut := by
    intro z hz k
    unfold Plant.slotPoint
    split
    · exact hz
    · refine .ite hz.revert ?_
      rw [Plant.tryOpen_of_frozen hz.frozen]
      exact hz
  have hslots : ((Plant.slotsOfPoint env p n).foldl (fun q k => Plant.slotPoint env q n k) p).Shut :=
    List.foldlRecOn (motive := Plant.Shut) _ _ h fun z hz k _ => hslot z hz k
  unfold Plant.pointChanged
  exact .ite (.askScan (.ite hslots h)) (.ite hslots h)

/-! ## The throws of a yard that freezes (R32) -/

theorem Plant.Shut.freezeThrow {x : Point} (h : p.Shut) : (Plant.freezeThrow env p .real x).Shut := by
  have hstop : (Plant.stopDrive env p .real x).Shut := by
    refine h.same (Plant.Cascade.refl p).stopDrive ?_
    simp only [Plant.stopDrive, Plant.sendStop]
    split
    · split <;> simp
    · rfl
  have hclaim : ∀ z : Plant, z.Shut → ∀ s, (Plant.slotThrowEnd env z s x.number .frozen).Shut := by
    intro z hz s
    unfold Plant.slotThrowEnd
    split
    · exact hz
    · rw [hz.active]
      exact .ite hz.mapPoint hz
  unfold Plant.freezeThrow Plant.throwEnd
  split
  · exact hstop
  · split
    · exact hstop
    · refine .askScan (.pointChanged (.report ?_))
      split
      · exact .ite (hclaim _ hstop.mapPoint _) hstop.mapPoint
      · exact hstop.mapPoint

/-- A throw that a freeze ends is over. -/
theorem Plant.freezeThrow_self {x y : Point} (hy : p.yard.point? x.number = some y) :
    ∃ y', (Plant.freezeThrow env p .real x).yard.point? x.number = some y' ∧ y'.throw = none := by
  have hz : p.FieldKept (fun _ => False) (Plant.stopDrive env p .real x) := .ite (.sendStop (.refl _ _)) (.refl _ _)
  obtain ⟨w, hw, -⟩ := hz.points x.number y id hy
  unfold Plant.freezeThrow
  cases ht : w.throw with
  | none =>
    rw [Plant.throwEnd_of_rest (sd := .real) hw ht]
    exact ⟨w, hw, ht⟩
  | some th =>
    obtain ⟨y', hy', hkept⟩ := Plant.throwEnd_point (env := env) (c := .frozen) (st := x.rest) (k := none) (by simp) hw ht
    exact ⟨y', hy', by rw [hkept.rest]; rfl⟩

theorem Plant.FieldKept.freezeThrow {x : Point} (hx : ex x.number) (h : p.FieldKept ex q) :
    p.FieldKept ex (Plant.freezeThrow env q .real x) := .throwEnd hx (.ite h.sendStop h)

/-- Only the points named are throwing. -/
def Plant.ThrowsAmong (ns : List Nat) (p : Plant) : Prop :=
  ∀ k x, p.yard.point? k = some x → x.throw ≠ none → k ∈ ns

/-- A freeze ends one throw after another, and the yard stays shut. -/
theorem Plant.freezeThrows_rest (l : List Point) (h : p.Shut) (hamong : p.ThrowsAmong (l.map Point.number)) :
    (l.foldl (fun q x => Plant.freezeThrow env q q.active x) p).Shut ∧
      (l.foldl (fun q x => Plant.freezeThrow env q q.active x) p).yard.noThrow := by
  induction l generalizing p with
  | nil => exact ⟨h, fun k x hx => Classical.byContradiction fun hn => List.not_mem_nil (hamong k x hx hn)⟩
  | cons y l ih =>
    rw [List.foldl_cons, h.active]
    refine ih h.freezeThrow fun k x hx hn => ?_
    have hkept := Plant.FieldKept.freezeThrow (env := env) (x := y) (ex := (· = y.number)) rfl (.refl _ p)
    obtain ⟨w, hw⟩ := Option.isSome_iff_exists.mp ((hkept.numbers k).symm.trans (by rw [hx]; rfl))
    by_cases hk : k = y.number
    · subst hk
      obtain ⟨x', hx', hrest⟩ := Plant.freezeThrow_self (env := env) hw
      rw [hx] at hx'
      obtain rfl := Option.some.inj hx'
      exact absurd hrest hn
    · obtain ⟨x', hx', hsame⟩ := hkept.points k w hk hw
      rw [hx] at hx'
      obtain rfl := Option.some.inj hx'
      rw [hsame.rest] at hn
      exact (List.mem_cons.mp (hamong k w hw hn)).resolve_left hk

/-! ## The freeze (R161) -/

/-- Every signal of the real yard is commanded STOP, one after another. -/
theorem Plant.stopSignals_shut (ns : List Nat) (hactive : p.active = .real) (hfrozen : p.frozen = true)
    (h : ∀ g ∈ p.yard.signals, g.commanded = .stop ∨ g.number ∈ ns) :
    (ns.foldl (fun q n => Plant.writeAspect env q q.active n .stop) p).Shut := by
  induction ns generalizing p with
  | nil => exact ⟨hactive, hfrozen, fun g hg => (h g hg).resolve_right List.not_mem_nil⟩
  | cons n ns ih =>
    have hc := (Plant.Cascade.refl p).writeAspect (env := env) (sd := p.active) (n := n) (a := .stop)
    refine ih (hc.active.trans hactive) ?_ fun g hg => ?_
    · rw [Plant.frozen, hc.freeze]
      exact hfrozen
    · change g ∈ (Plant.writeAspect env p p.active n .stop).yard.signals at hg
      rw [hactive] at hg
      rcases p.writeRealAspect_stop (env := env) n g hg with hstop | ⟨hmem, hne⟩
      · exact .inl hstop
      · exact (h g hmem).imp id fun hin => (List.mem_cons.mp hin).resolve_left hne

/-- What a freeze of the real yard in force makes of it. -/
theorem Plant.frozenTables_shut {c : Cause} (h : p.session = none) :
    (Plant.frozenTables env p c).Shut ∧ (Plant.frozenTables env p c).yard.noThrow ∧ (Plant.frozenTables env p c).noneOpen := by
  let f : Plant := { p with freeze := some ⟨c, [], false⟩ }
  have hfactive : f.active = .real := Plant.active_of_none h
  have hfcurrent : f.current = p.yard := by rw [Plant.current, hfactive]; rfl
  have hstop : (Plant.stopAll env f).Shut := by
    unfold Plant.stopAll
    rw [hfcurrent]
    exact Plant.stopSignals_shut _ hfactive rfl fun g hg => .inr (List.mem_map_of_mem hg)
  have hcurrent : (Plant.stopAll env f).current = (Plant.stopAll env f).yard := by rw [Plant.current, hstop.active]; rfl
  obtain ⟨hshut, hnone⟩ := Plant.freezeThrows_rest (env := env) ((Plant.stopAll env f).current.points.filter Point.throwing) hstop (by
    intro k x hx hn
    rw [hcurrent]
    refine List.mem_map.mpr ⟨x, List.mem_filter.mpr ⟨findBy_mem _ hx, ?_⟩, findBy_key _ hx⟩
    exact Option.isSome_iff_ne_none.mpr hn)
  let thrown := Plant.freezeThrows env (Plant.stopAll env f)
  have hslots : (Plant.freezeSlots env thrown).Shut ∧ thrown.FieldKept (fun _ => False) (Plant.freezeSlots env thrown) :=
    ⟨List.foldlRecOn (motive := Plant.Shut) _ _ hshut fun z hz k _ => hz.revert, .foldl (fun _ _ h => h.revert) _ (.refl _ _)⟩
  refine ⟨hslots.1, fun k x hx => ?_, fun m sl hm ho => ?_⟩
  · obtain ⟨w, hw⟩ := Option.isSome_iff_exists.mp ((hslots.2.numbers k).symm.trans (by
      rw [show (Plant.freezeSlots env thrown).yard.point? k = some x from hx]; rfl))
    obtain ⟨x', hx', hsame⟩ := hslots.2.points k w id hw
    rw [show (Plant.freezeSlots env thrown).yard.point? k = some x from hx] at hx'
    obtain rfl := Option.some.inj hx'
    rw [hsame.rest]
    exact hnone k w hw
  · obtain ⟨hslot, hnot⟩ := Plant.revertAll_opened _ hm ho
    exact hnot (List.mem_map.mpr ⟨sl, findBy_mem _ hslot, Plant.slot?_number hslot⟩)

theorem Plant.holdTimers_timersStopped (p : Plant) : p.holdTimers.timersStopped := by
  constructor
  · intro sl hsl
    obtain ⟨x, -, rfl⟩ := List.mem_map.mp hsl
    show (Timer.hold _ x.timer).expiry? = none
    cases x.timer <;> rfl
  · intro r hr
    obtain ⟨x, -, rfl⟩ := List.mem_map.mp hr
    rfl

theorem Plant.holdTimers_noneOpen (h : p.noneOpen) : p.holdTimers.noneOpen := by
  intro n sl hsl
  have hmap : p.holdTimers.slot? n = (p.slot? n).map fun sl => { sl with timer := sl.timer.hold (p.base p.active) } :=
    findBy_map Slot.number (fun sl => { sl with timer := sl.timer.hold (p.base p.active) }) (fun _ => rfl) n p.slots
  rw [hmap] at hsl
  obtain ⟨x, hx, rfl⟩ := Option.map_eq_some_iff.mp hsl
  exact h n x hx

/-- The plant of a yard that has just frozen. -/
structure Plant.JustFrozen (c : Cause) (p : Plant) : Prop where
  freeze : p.freeze = some ⟨c, [], false⟩
  session : p.session = none
  hold : p.hold = none
  stop : p.yard.allAtStop
  noThrow : p.yard.noThrow
  noneOpen : p.noneOpen
  timers : p.timersStopped

theorem Plant.freezeYard_justFrozen {c : Cause} (h : p.session = none) : (Plant.freezeYard env p c).JustFrozen c := by
  obtain ⟨hshut, hnone, hopen⟩ := Plant.frozenTables_shut (env := env) (c := c) h
  refine ⟨Plant.freezeYard_freeze .., ?_, rfl, hshut.stop, hnone, Plant.holdTimers_noneOpen hopen, Plant.holdTimers_timersStopped _⟩
  have hactive : (Plant.frozenTables env p c).active = .real := hshut.active
  cases hs : (Plant.frozenTables env p c).session with
  | none => exact hs
  | some c => rw [Plant.active_of_some hs] at hactive; cases hactive

theorem Plant.JustFrozen.report {c : Cause} {sd : Side} {b : ReportBody} (h : p.JustFrozen c) : (p.report sd b).JustFrozen c where
  freeze := by rw [Plant.report_freeze]; exact h.freeze
  session := by rw [Plant.report_session]; exact h.session
  hold := by rw [Plant.report_hold]; exact h.hold
  stop := by rw [Plant.report_yard]; exact h.stop
  noThrow := by rw [Plant.report_yard]; exact h.noThrow
  noneOpen n sl hsl := h.noneOpen n sl ((Plant.slot?_congr (Plant.report_slots ..) n).symm.trans hsl)
  timers := by
    unfold Plant.timersStopped
    rw [Plant.report_slots, Plant.report_queue]
    exact h.timers

/-- Scans and rounds leave a yard that has just frozen as it is. -/
theorem Plant.JustFrozen.settled {c : Cause} (h : p.JustFrozen c) : (Plant.settled env p).JustFrozen c := by
  have hw := Plant.settled_waiting env (p := p) (by rw [Plant.frozen, h.freeze]; rfl)
  have hslots : (Plant.settled env p).slots = p.slots := (congrArg Plant.slots hw.rest :)
  have hyard : (Plant.settled env p).yard = p.yard := (congrArg Plant.yard hw.rest :)
  refine ⟨(congrArg Plant.freeze hw.rest :).trans h.freeze, (congrArg Plant.session hw.rest :).trans h.session,
    (congrArg Plant.hold hw.rest :).trans h.hold, by rw [hyard]; exact h.stop, by rw [hyard]; exact h.noThrow,
    fun n sl hsl => h.noneOpen n sl ((Plant.slot?_congr hslots n).symm.trans hsl), by rw [hslots]; exact h.timers.1, fun r hr => ?_⟩
  have hmem : r.expiry? ∈ (Plant.settled env p).queue.map Request.expiry? := List.mem_map_of_mem hr
  rw [hw.queue] at hmem
  obtain ⟨x, hx, hexpiry⟩ := List.mem_map.mp hmem
  exact hexpiry ▸ h.timers.2 x hx

end

/-- Settles O30: the fault of an unfrozen yard ends the session and freezes the real yard; no scan and no round undoes it. -/
theorem allStopFreezesTheYard : Obligations.AllStopFreezesTheYard := by
  unfold Obligations.AllStopFreezesTheYard
  intro s tag hears
  have hnot : s.plant.freeze = none := hears.2.resolve_right (by decide)
  let u := s.answered .desk TelegramKind.allStop.code tag .done
  let c : Cause := ⟨s.plant.yard.faults.next, .allStop, none, s.plant.yard.clock.time, none, none⟩
  have hfrozen : (Plant.yardFault s.env u.plant .real .allStop none none none).JustFrozen c := by
    have hfreeze : u.plant.freeze = none := (State.answered_freeze ..).trans hnot
    have hyard : u.plant.yardOf .real = s.plant.yard := State.answered_yardOf ..
    have htime : u.plant.time .real = s.plant.yard.clock.time := by rw [Plant.time, hyard]
    simp only [Plant.yardFault, hfreeze, hyard, htime]
    exact (Plant.freezeYard_justFrozen (Plant.endSessionByFault_session s.env _)).report
  have hdone := hfrozen.settled (env := s.env)
  refine ⟨_, congrArg Host.Outcome.next ((State.takeTelegram_of_hears hears (a := .done) rfl (by simp)).trans (State.event_of rfl)),
    rfl, ?_⟩
  rw [State.answered_env]
  exact ⟨hdone.freeze, hdone.session, hdone.hold, hdone.stop, hdone.noThrow, hdone.noneOpen, hdone.timers⟩

end Sys2Proof.Machine
end

section
/-! SUPPORT. The end of a freeze (R166). -/

namespace Sys2Proof.Machine

open Sys2Proof

section
variable {env : Env} {p q r : Plant} {n : Nat}

/-! ## What the acknowledgement frees -/

/-- The fault list of the yard in force stays, and the yard in force. -/
structure Plant.FaultsKept (p q : Plant) : Prop where
  faults : q.current.faults = p.current.faults
  active : q.active = p.active

theorem Plant.FaultsKept.refl (p : Plant) : p.FaultsKept p := ⟨rfl, rfl⟩

theorem Plant.FaultsKept.trans (h : p.FaultsKept q) (h' : q.FaultsKept r) : p.FaultsKept r :=
  ⟨h'.faults.trans h.faults, h'.active.trans h.active⟩

theorem Plant.BerthsOnly.faultsKept (h : p.BerthsOnly p.active q) : p.FaultsKept q :=
  ⟨(congrArg Yard.faults h.current :), h.active⟩

theorem Plant.Dropping.faultsKept (h : p.Dropping q) : p.FaultsKept q := ⟨(congrArg Yard.faults h.current :), h.active⟩

theorem Plant.ackSlot_faultsKept (env : Env) (p : Plant) (sl : Slot) : p.FaultsKept (Plant.ackSlot env p sl) := by
  let gone := (p.mapYard p.active fun y => y.letGo sl.number).routeState sl .free .freeze .none sl.aspectHeld
  have hgone : p.FaultsKept gone := by
    refine ⟨?_, ?_⟩
    · rw [show gone.current = (p.mapYard p.active fun y => y.letGo sl.number).current from Plant.report_current .., Plant.mapYard_current]
      rfl
    · exact (Plant.report_active ..).trans (Plant.mapYard_active ..)
  let told := Plant.handFate env gone gone.active sl.origin (sl.route.getD 0) sl.tram .withdrawn
  have htold : gone.FaultsKept told := (Plant.BerthsOnly.handFate (.refl _ _)).faultsKept
  have hend : told.FaultsKept (Plant.ackSlot env p sl) := by
    have hcurrent : (Plant.ackSlot env p sl).current = told.current :=
      (Plant.tellFreed_current _).trans ((Plant.clearSlot_current ..).trans (Plant.discardRun_current ..).1)
    exact ⟨congrArg Yard.faults hcurrent,
      (Plant.tellFreed_active _).trans ((Plant.clearSlot_active ..).trans (Plant.discardRun_current ..).2)⟩
  exact (hgone.trans htold).trans hend

theorem Plant.ackSlot_slots (env : Env) (p : Plant) (sl : Slot) :
    (Plant.ackSlot env p sl).slots = (p.clearSlot sl.number).slots := by
  simp [Plant.ackSlot, Plant.clearSlot, Plant.mapSlot]

/-- After the slots of a list have been freed, only slots outside it are in use. -/
theorem Plant.ackSlots_used (l : List Slot) (h : ∀ sl ∈ p.slots, sl.inUse = true → sl.number ∈ l.map Slot.number) :
    (l.foldl (fun q sl => Plant.ackSlot env q sl) p).used = [] := by
  induction l generalizing p with
  | nil => exact List.filter_eq_nil_iff.mpr fun sl hsl hu => List.not_mem_nil (h sl hsl hu)
  | cons x l ih =>
    refine ih fun sl hsl hu => ?_
    rw [Plant.ackSlot_slots] at hsl
    obtain ⟨y, hy, rfl⟩ := List.mem_map.mp hsl
    split at hu
    · cases hu
    · next hn =>
      rw [if_neg hn]
      exact (List.mem_cons.mp (h y hy hu)).resolve_left fun he => hn (beq_iff_eq.mpr he)

theorem Plant.used_congr (h : q.slots = p.slots) : q.used = p.used := by rw [Plant.used, h]; rfl

/-- The slots are free, the queue is empty and the fault list is as it was, when a freeze is acknowledged. -/
theorem Plant.acknowledged_spec (env : Env) (p : Plant) :
    p.FaultsKept (Plant.acknowledged env p) ∧ (Plant.acknowledged env p).used = [] ∧ (Plant.acknowledged env p).queue = [] := by
  let freed := p.used.foldl (fun q sl => Plant.ackSlot env q sl) p
  let dropped := Plant.dropWhere env freed (fun _ => true) .freeze .withdrawn
  have hfreed : p.FaultsKept freed :=
    List.foldlRecOn (motive := p.FaultsKept) _ _ (.refl p) fun z hz sl _ => hz.trans (Plant.ackSlot_faultsKept env z sl)
  have hused : freed.used = [] := Plant.ackSlots_used _ fun sl hsl hu => List.mem_map_of_mem (List.mem_filter.mpr ⟨hsl, hu⟩)
  have hdropped : freed.Dropping dropped := .dropWhere (.refl _)
  have hroads : dropped.BerthsOnly dropped.active (Plant.acknowledged env p) := .unverifyAll (.refl _ _)
  have hqueue : dropped.queue = [] := by
    rw [Plant.dropWhere_queue]
    simp
  refine ⟨(hfreed.trans hdropped.faultsKept).trans hroads.faultsKept, ?_, (congrArg Plant.queue hroads.rest :).trans hqueue⟩
  have hslots : dropped.slots = freed.slots := (congrArg Plant.slots hdropped.rest :)
  rw [Plant.used_congr hroads.slots, Plant.used_congr hslots, hused]

/-! ## The end of the freeze -/

/-- A fault list that has room takes a record at its end (R157). -/
theorem FaultList.store_of_room {l : FaultList} {x : FaultRecord} (h : l.records.length < 16) :
    l.store x = ({ l with records := l.records ++ [x] }, true) := if_pos h

/-- The record of a freeze, as the fault list takes it. -/
theorem Plant.endFreeze_spec {f : FreezeRecord} (h : p.freeze = some f) :
    p.endFreeze.freeze = none ∧ p.endFreeze.slots = p.slots ∧ p.endFreeze.queue = p.queue ∧ p.endFreeze.active = p.active ∧
      p.endFreeze.now = p.now ∧
      p.endFreeze.current.faults = (p.current.faults.store (f.record (p.active == .copy))).1 := by
  let stored : Plant := { p.mapYard p.active fun y =>
    { y with faults := (p.current.faults.store (f.record (p.active == .copy))).1 } with freeze := none }
  have hstored : p.storeFreeze = (stored, (p.current.faults.store (f.record (p.active == .copy))).2) := by
    simp only [Plant.storeFreeze, h]
    rfl
  have hcurrent : stored.current.faults = (p.current.faults.store (f.record (p.active == .copy))).1 := by
    have := Plant.mapYard_current p fun y => { y with faults := (p.current.faults.store (f.record (p.active == .copy))).1 }
    exact (congrArg Yard.faults this :)
  have hactive : stored.active = p.active := Plant.mapYard_active ..
  have hslots : stored.slots = p.slots := Plant.mapYard_slots ..
  have hqueue : stored.queue = p.queue := Plant.mapYard_queue ..
  have hnow : stored.now = p.now := Plant.mapYard_now ..
  have hfreeze : stored.freeze = none := rfl
  clear_value stored
  unfold Plant.endFreeze
  simp only [h, hstored]
  split <;> simp [hfreeze, hslots, hqueue, hnow, hactive, hcurrent]

end

theorem State.dispatch_primaryGone (s : State) (port : Port) (kind tag : Byte) (env : Env) (c : Cause) :
    Plant.primaryGone env (s.dispatch port kind tag).plant c = Plant.primaryGone env s.plant c := by
  cases port <;> rfl

/-- Settles O31: the slots, the queue and the record are worked first, and the restart hold leaves nothing to scan. -/
theorem freezeAcknowledgeEndsTheFreeze : Obligations.FreezeAcknowledgeEndsTheFreeze := by
  unfold Obligations.FreezeAcknowledgeEndsTheFreeze
  intro s tag f hwaits hfreeze hgone
  let u := s.answered .desk TelegramKind.freezeAcknowledge.code tag .done
  obtain ⟨hfaults, hused, hqueue⟩ := Plant.acknowledged_spec s.env u.plant
  have hcascade := Plant.acknowledged_cascade s.env u.plant
  have hevent : Plant.acknowledge s.env u.plant = Plant.startHold s.env (Plant.acknowledged s.env u.plant).endFreeze :=
    Plant.acknowledge_eq ..
  generalize Plant.acknowledged s.env u.plant = z at hfaults hused hqueue hcascade hevent
  have hzfreeze : z.freeze = some f := hcascade.freeze.trans ((State.answered_freeze ..).trans hfreeze)
  have htime : z.now = s.plant.now := hcascade.now.trans (State.answered_now ..)
  have hlist : z.current.faults = s.plant.current.faults := hfaults.faults.trans (by rw [State.answered_current])
  have hside : z.active = s.plant.active := hfaults.active.trans (State.answered_active ..)
  obtain ⟨hend, hslots, hendqueue, hactive, hnow, hrecords⟩ := Plant.endFreeze_spec hzfreeze
  generalize z.endFreeze = e at hend hslots hendqueue hactive hnow hrecords hevent
  have hanswer : judge [((Port.desk == .plan), Reason.notAuthority),
      ((s.dispatch .desk TelegramKind.freezeAcknowledge.code tag).plant.freeze.isNone, .state),
      ((s.dispatch .desk TelegramKind.freezeAcknowledge.code tag).plant.freeze.any (fun f =>
        !Plant.primaryGone (s.dispatch .desk TelegramKind.freezeAcknowledge.code tag).env
          (s.dispatch .desk TelegramKind.freezeAcknowledge.code tag).plant f.primary), .stillPresent)] .done = .done := by
    simp [hfreeze, State.dispatch_primaryGone, hgone]
  have hquiet : (Plant.startHold s.env e).quiet s.env := Plant.quiet_of_hold (hendqueue.trans hqueue) rfl
  refine ⟨_, congrArg Host.Outcome.next (State.takeTelegram_event_quiet (p := Plant.startHold s.env e)
    (State.hears_of_takenFrozen hwaits rfl) hanswer (by simp) hevent hquiet), rfl, hend, (Plant.used_congr hslots).trans hused,
    hendqueue.trans hqueue, congrArg (fun t => some (t + _)) (hnow.trans htime), fun hroom => ?_⟩
  have hmarker : (s.plant.active == Side.copy) = s.plant.session.isSome := by
    cases hs : s.plant.session <;> simp [Plant.active, hs]
  have hcurrent : (Plant.startHold s.env e).current = e.current := Plant.current_congr rfl rfl
  rw [Plant.unmarked_current, hcurrent, hrecords, hlist, hside, hmarker, FaultList.store_of_room hroom]
  rfl

end Sys2Proof.Machine
end

section
/-! SUPPORT. Faults handed on in the real yard, and the end of a throw that no slot claims (R31, R157). -/

namespace Sys2Proof.Machine

open Sys2Proof

section
variable {env : Env} {p q : Plant} {n : Nat}

/-! ## A fault of the real yard (R157) -/

/-- The record of a fault of the real yard as it stands. -/
def Plant.faultRecord (p : Plant) (k : FaultKind) (e : FaultElement) (c : Option RouteContext) (d : Option CheckData) : FaultRecord :=
  { number := p.yard.faults.next, kind := k, element := some e, time := p.time .real, context := c, check := d, further := [],
    more := false, cleared := k.cls == .corrected, marker := false }

/-- A fault of the real yard that is handed on writes its fault list and is reported. -/
theorem Plant.handFault_real (p : Plant) (k : FaultKind) (e : FaultElement) (c : Option RouteContext) (d : Option CheckData) :
    p.handFault .real k e c d = { p with
      planOut := (p.handFault .real k e c d).planOut
      deskOut := (p.handFault .real k e c d).deskOut
      yard := { p.yard with faults := (p.yard.faults.numbered.store (p.faultRecord k e c d)).1 } } := by
  unfold Plant.handFault
  dsimp only
  rw [if_neg (show ¬(Side.real = Side.copy) by decide)]
  split <;> rfl

/-- A fault list that has room holds the record of a fault handed on at its end. -/
theorem Plant.handFault_records {k : FaultKind} {e : FaultElement} {c : Option RouteContext} {d : Option CheckData}
    (h : p.yard.faults.records.length < 16) :
    (p.handFault .real k e c d).yard.faults.records = p.yard.faults.records ++ [p.faultRecord k e c d] := by
  have hroom : p.yard.faults.numbered.records.length < 16 := h
  rw [p.handFault_real, FaultList.store_of_room hroom]
  rfl

/-- A kind that is handed on once is not handed on when an OPEN record of it stands. -/
theorem Plant.handFaultOnce_real (p : Plant) (k : FaultKind) (e : FaultElement) (c : Option RouteContext) :
    p.handFaultOnce .real k e c = if p.yard.faults.holdsOpen k e then p else p.handFault .real k e c none := rfl

/-! ## A plant with no slot in use -/

/-- A change that does not touch what a report of a point leaves: no slot is in use that could take it. -/
theorem Plant.pointChanged_unused (h : p.used = []) (sd : Side) (n : Nat) :
    (Plant.pointChanged env p sd n).unmarked = p.unmarked := by
  have hnone : Plant.slotsOfPoint env p n = [] := by simp [Plant.slotsOfPoint, h]
  simp only [Plant.pointChanged, hnone, List.foldl_nil, ite_self]
  split
  · exact Plant.askScan_unmarked ..
  · rfl

/-- What the end of a throw of the real yard makes of the plant, when no slot takes part. -/
structure Plant.ThrowOver (n : Nat) (st : PointState) (x : Point) (th : Throw) (k : Option FaultKind) (p q : Plant) : Prop where
  yard : q.yard = { p.yard with
    points := updBy Point.number n (fun y => y.ended st ((p.now - th.startedAt) / 100) th.peak) p.yard.points
    faults := q.yard.faults }
  unrecorded : k = none → q.yard.faults = p.yard.faults
  recorded : ∀ f, k = some f → p.yard.faults.records.length < 16 →
    ∃ r, q.yard.faults.records = p.yard.faults.records ++ [r] ∧ r.kind = f ∧ r.element = some (.point n) ∧
      r.check = some (.throwData th.target x.attempts th.peak ((p.now - th.startedAt) / 100))
  slots : q.slots = p.slots
  now : q.now = p.now

theorem Plant.ThrowOver.unmarked {st : PointState} {x : Point} {th : Throw} {k : Option FaultKind} (h : p.ThrowOver n st x th k q) :
    p.ThrowOver n st x th k q.unmarked := ⟨h.yard, h.unrecorded, h.recorded, h.slots, h.now⟩

/-- What the end of a throw that no slot claims writes: the point, and the fault handed on with it. -/
def Plant.endThrow (p : Plant) (n : Nat) (st : PointState) (x : Point) (th : Throw) : Option FaultKind → Plant
  | none => p.mapPoint .real n fun y => y.ended st ((p.now - th.startedAt) / 100) th.peak
  | some k => (p.mapPoint .real n fun y => y.ended st ((p.now - th.startedAt) / 100) th.peak).handFault .real k (.point n) none
      (some (.throwData th.target x.attempts th.peak ((p.now - th.startedAt) / 100)))

theorem Plant.endThrow_slots (p : Plant) (n : Nat) (st : PointState) (x : Point) (th : Throw) (k : Option FaultKind) :
    (p.endThrow n st x th k).slots = p.slots := by cases k <;> simp [Plant.endThrow]

theorem Plant.endThrow_now (p : Plant) (n : Nat) (st : PointState) (x : Point) (th : Throw) (k : Option FaultKind) :
    (p.endThrow n st x th k).now = p.now := by
  cases k with
  | none => simp [Plant.endThrow]
  | some f =>
    rw [Plant.endThrow, Plant.handFault_real]
    simp

theorem Plant.throwEnd_unclaimed {c : ThrowCause} {st : PointState} {k : Option FaultKind} {x : Point} {th : Throw}
    (hx : p.yard.point? n = some x) (ht : x.throw = some th) (hc : x.claim = none) :
    Plant.throwEnd env p .real n c st k = (Plant.pointChanged env ((p.endThrow n st x th k).report .real
      (.throwEnded n th.target c st x.attempts ((p.now - th.startedAt) / 100) th.peak)) .real n).askScan .real := by
  have hx' : (p.yardOf .real).point? n = some x := hx
  cases k <;> simp only [Plant.throwEnd, hx', ht, hc] <;> rfl

/-- The end of a throw that no slot claims, with no slot in use (R31). -/
theorem Plant.throwEnd_over {c : ThrowCause} {st : PointState} {k : Option FaultKind} {x : Point} {th : Throw}
    (hx : p.yard.point? n = some x) (ht : x.throw = some th) (hc : x.claim = none) (hu : p.used = []) :
    p.ThrowOver n st x th k (Plant.throwEnd env p .real n c st k).unmarked := by
  let ended := p.endThrow n st x th k
  obtain ⟨b, hend⟩ : ∃ b, (Plant.throwEnd env p .real n c st k).unmarked = (ended.report .real b).unmarked := by
    have hused : (ended.report .real
        (.throwEnded n th.target c st x.attempts ((p.now - th.startedAt) / 100) th.peak)).used = [] :=
      (Plant.used_congr ((Plant.report_slots ..).trans (p.endThrow_slots ..))).trans hu
    exact ⟨_, by rw [Plant.throwEnd_unclaimed hx ht hc, Plant.askScan_unmarked, Plant.pointChanged_unused hused]⟩
  have hyard : (ended.report .real b).unmarked.yard = ended.yard := by rw [Plant.unmarked_yard, Plant.report_yard]
  have hslots : (ended.report .real b).unmarked.slots = p.slots := by
    rw [Plant.unmarked_slots, Plant.report_slots]
    exact p.endThrow_slots ..
  have hnow : (ended.report .real b).unmarked.now = p.now := by
    rw [Plant.unmarked_now, Plant.report_now]
    exact p.endThrow_now ..
  rw [hend]
  refine ⟨?_, ?_, fun f hf hroom => ?_, hslots, hnow⟩
  · rw [hyard]
    cases k with
    | none => rfl
    | some f => rw [show ended = _ from Plant.handFault_real ..]; rfl
  · rw [hyard]
    rintro rfl
    rfl
  · subst hf
    have hrecords := Plant.handFault_records (k := f) (e := .point n) (c := none)
      (d := some (.throwData th.target x.attempts th.peak ((p.now - th.startedAt) / 100)))
      (p := p.mapPoint .real n fun y => y.ended st ((p.now - th.startedAt) / 100) th.peak) hroom
    exact ⟨_, (congrArg (fun y => y.faults.records) hyard).trans hrecords, rfl, rfl, rfl⟩

end

end Sys2Proof.Machine
end

section
/-! SUPPORT. The throw timers of the real yard (R27, R30). -/

namespace Sys2Proof.Machine

open Sys2Proof

section
variable {env : Env} {p q : Plant} {n link : Nat} {x : Point} {th : Throw}

/-- STOP to a point of the real yard writes no table of the yard and no slot. -/
structure Plant.TablesKept (p q : Plant) : Prop where
  yard : q.yard = p.yard
  slots : q.slots = p.slots
  now : q.now = p.now

theorem Plant.sendStop_tablesKept (env : Env) (p : Plant) (n : Nat) : p.TablesKept (Plant.sendStop env p .real n) := by
  simp only [Plant.sendStop]
  split
  · exact ⟨by simp, by simp, by simp⟩
  · exact ⟨rfl, rfl, rfl⟩

theorem Plant.ThrowOver.of_kept {st : PointState} {k : Option FaultKind} {r : Plant} (h : p.TablesKept q)
    (h' : q.ThrowOver n st x th k r) : p.ThrowOver n st x th k r := by
  obtain ⟨hy, hn, hs, hsl, hnow⟩ := h'
  rw [h.yard, h.now] at hy hs
  exact ⟨hy, fun hk => (hn hk).trans (by rw [h.yard]), hs, hsl.trans h.slots, hnow.trans h.now⟩

theorem Plant.ThrowOver.point?_self {st : PointState} {k : Option FaultKind} (h : p.ThrowOver n st x th k q)
    (hx : p.yard.point? n = some x) : q.yard.point? n = some (x.ended st ((p.now - th.startedAt) / 100) th.peak) := by
  rw [h.yard]
  exact (p.mapPoint_point?_self (f := fun y => y.ended st ((p.now - th.startedAt) / 100) th.peak) fun _ => rfl).trans (by rw [hx]; rfl)

theorem Plant.mapPoint_point?_ne (p : Plant) {f : Point → Point} (hf : ∀ x, (f x).number = x.number) {k : Nat} (h : k ≠ n) :
    (p.mapPoint .real n f).yard.point? k = p.yard.point? k :=
  findBy_updBy_ne Point.number f p.yard.points (fun x hx => (hf x).trans hx) h

theorem Plant.ThrowOver.point?_ne {st : PointState} {k : Option FaultKind} (h : p.ThrowOver n st x th k q) {m : Nat} (hm : m ≠ n) :
    q.yard.point? m = p.yard.point? m := by
  rw [h.yard]
  exact p.mapPoint_point?_ne (f := fun y => y.ended st ((p.now - th.startedAt) / 100) th.peak) (fun _ => rfl) hm

/-- A point may be driven whatever the time. -/
theorem Plant.mayDrive_advance (h : p.session = none) (ms : Nat) (x : Point) :
    Plant.mayDrive env (p.advance ms) .real x = Plant.mayDrive env p .real x := by
  have hs : (p.advance ms).session = none := by simp [Plant.advance, h]
  simp only [Plant.mayDrive, hs, h]
  rfl

theorem Plant.mayDrive_linkUp (h : Plant.mayDrive env p .real x = true) (hl : env.layout.linkOf (.point x.number) = some link) :
    p.linkUp link = true := by
  simp only [Plant.mayDrive, Bool.and_eq_true] at h
  obtain ⟨⟨⟨-, hup⟩, -⟩, -⟩ := h
  rwa [Plant.elementUp_real hl] at hup

/-- A drive that may start is commanded on the point's link, its samples and runs afresh (R23, R24). -/
theorem Plant.driveOn_real (h : Plant.mayDrive env p .real x = true) (hl : env.layout.linkOf (.point x.number) = some link)
    (pos : Position) (restore : Bool) :
    Plant.driveOn env p .real x th pos restore = (p.mapPoint .real x.number fun y =>
      { y with
        state := if restore then .restoring else .moving
        throw := some { th with driveAt := p.now, samples := 0, obstructionRun := 0, openRun := 0, pauseEnd := none } }).send
      link (.drive x.number pos) :=
  (if_pos h).trans (Plant.sendDrive_real (p := p.mapPoint .real x.number _) hl (Plant.mayDrive_linkUp h hl) pos restore)

end

/-- Settles O55: the limit ends the throw, the pause drives again, each on the plant at the moment it falls due. -/
theorem throwTimersFallDue : Obligations.ThrowTimersFallDue := by
  unfold Obligations.ThrowTimersFallDue
  intro s n x th hs hx ht hclaim hused hquiet
  have hnumber : x.number = n := findBy_key _ hx
  have hcurrent : s.plant.current.point? n = some x := by rwa [Plant.current_of_none hs]
  have hactive : s.plant.active = .real := Plant.active_of_none hs
  have hlater : ∀ ms, (s.plant.advance ms).current.point? n = some x := fun ms => by
    rw [Plant.current_of_none (by simp [Plant.advance, hs])]
    exact hx
  have hlaterActive : ∀ ms, (s.plant.advance ms).active = .real := fun ms =>
    Plant.active_of_none (by simp [Plant.advance, hs])
  refine ⟨fun hst => ?_, fun due link hst hdue hdrive hlink => ?_⟩
  · intro now
    let p := s.plant.advance (th.driveAt + 100 * th.timeLimit - s.plant.now)
    have hlimit : x.limitDue = some (th.driveAt + 100 * th.timeLimit) := by
      rcases hst with h | h <;> simp [Point.limitDue, h, ht]
    have hnow : p.now = now := by
      show s.plant.now + (th.driveAt + 100 * th.timeLimit - s.plant.now) = max s.plant.now (th.driveAt + 100 * th.timeLimit)
      omega
    have hkept := Plant.sendStop_tablesKept s.env p n
    have hover := Plant.ThrowOver.of_kept hkept (Plant.throwEnd_over (env := s.env) (c := .noDetection) (st := .failed)
      (k := some .throwNoDetection) (p := Plant.sendStop s.env p .real n) (by rw [hkept.yard]; exact hx) ht hclaim
      (by rw [Plant.used_congr hkept.slots]; exact hused))
    have hcascade : p.Cascade (Plant.throwEnd s.env (Plant.sendStop s.env p .real n) .real n .noDetection .failed
      (some .throwNoDetection)) := (Plant.Cascade.refl p).sendStop.throwEnd
    refine ⟨_, congrArg Host.Outcome.next (State.event_of_quiet (p := Plant.throwEnd s.env (Plant.sendStop s.env p .real n) .real n
      .noDetection .failed (some .throwNoDetection)) ?_ (hcascade.quiet (Plant.advance_quiet hquiet _))), rfl,
      hover.now.trans hnow, ?_, fun hroom => ?_, fun m hm => hover.point?_ne hm⟩
    · simp only [hcurrent, Option.bind_some, hlimit, hactive, Plant.advanceTo_real, hlater, hlaterActive, Plant.driveLimit, hnumber, p]
    · rw [hover.point?_self hx, hnow]
      rfl
    · have := hover.recorded _ rfl hroom
      rwa [hnow] at this
  · let p := s.plant.advance (due - s.plant.now)
    have hpause : x.pauseDue = some due := by simp [Point.pauseDue, hst, ht, hdue]
    have hnow : p.now = max s.plant.now due := by
      show s.plant.now + (due - s.plant.now) = _
      omega
    have hmay : Plant.mayDrive s.env p .real x = true := (Plant.mayDrive_advance hs ..).trans hdrive
    have hretry : Plant.retry s.env p .real x th = (p.mapPoint .real n fun y =>
        { y with
          state := .moving
          throw := some { th with
            driveAt := max s.plant.now due, samples := 0, obstructionRun := 0, openRun := 0, pauseEnd := none } }).send
        link (.drive n th.target) := by
      have hdrive := Plant.driveOn_real (th := th) hmay (by rw [hnumber]; exact hlink) th.target false
      rwa [hnumber, hnow] at hdrive
    refine congrArg Host.Outcome.next ((State.event_of_quiet (p := Plant.retry s.env p .real x th) ?_
      ((Plant.Cascade.refl p).retry.quiet (Plant.advance_quiet hquiet _))).trans (by rw [hretry]))
    simp only [hcurrent, Option.bind_some, hpause, hactive, Plant.advanceTo_real, hlater, hlaterActive, ht, p]

end Sys2Proof.Machine
end

section
/-! SUPPORT. What opening and reverting a slot leaves of the real yard: its points, its sections and its faults (chapter 4). -/

namespace Sys2Proof.Machine

open Sys2Proof

section
variable {env : Env} {p q r : Plant} {sd : Side} {n : Nat}

/-- What opening and reverting a slot change of the real yard: its signals, and the stabling record and run-out list. -/
structure Plant.LockingOnly (p q : Plant) : Prop where
  yard : q.yard = { p.yard with
    signals := q.yard.signals, roads := q.yard.roads, arrivals := q.yard.arrivals, expectations := q.yard.expectations
    runOut := q.yard.runOut }

theorem Plant.LockingOnly.refl (p : Plant) : p.LockingOnly p := ⟨rfl⟩

theorem Plant.LockingOnly.trans (h : p.LockingOnly q) (h' : q.LockingOnly r) : p.LockingOnly r :=
  ⟨h'.yard.trans (congrArg (fun y : Yard => { y with
    signals := r.yard.signals, roads := r.yard.roads, arrivals := r.yard.arrivals, expectations := r.yard.expectations
    runOut := r.yard.runOut }) h.yard)⟩

theorem Plant.LockingOnly.points (h : p.LockingOnly q) : q.yard.points = p.yard.points := (congrArg Yard.points h.yard :)
theorem Plant.LockingOnly.tracks (h : p.LockingOnly q) : q.yard.tracks = p.yard.tracks := (congrArg Yard.tracks h.yard :)
theorem Plant.LockingOnly.faults (h : p.LockingOnly q) : q.yard.faults = p.yard.faults := (congrArg Yard.faults h.yard :)

theorem Plant.LockingOnly.point? (h : p.LockingOnly q) (k : Nat) : q.yard.point? k = p.yard.point? k := by
  rw [Yard.point?, h.points]
  rfl

theorem Plant.LockingOnly.ite {c : Prop} [Decidable c] (h : p.LockingOnly q) (h' : p.LockingOnly r) :
    p.LockingOnly (if c then q else r) := by split <;> assumption

theorem Plant.LockingOnly.same (h : p.LockingOnly q) (hr : r.yard = q.yard := by simp) : p.LockingOnly r := ⟨by
  rw [hr]
  exact h.yard⟩

theorem Plant.LockingOnly.foldl {α : Type} {f : Plant → α → Plant} (hf : ∀ r x, p.LockingOnly r → p.LockingOnly (f r x))
    (l : List α) (h : p.LockingOnly q) : p.LockingOnly (l.foldl f q) := by
  induction l generalizing q with
  | nil => exact h
  | cons x l ih => exact ih (hf q x h)

/-- A yard of which only the stabling record and the run-out list have changed. -/
theorem Plant.LockingOnly.of_unberthed (h : q.yard = { p.yard with
    roads := q.yard.roads, arrivals := q.yard.arrivals, expectations := q.yard.expectations, runOut := q.yard.runOut }) :
    p.LockingOnly q := by
  have hsignals : q.yard.signals = p.yard.signals := (congrArg Yard.signals h :)
  exact ⟨by rw [hsignals]; exact h⟩

theorem Plant.LockingOnly.berths (h : p.LockingOnly q) (h' : q.BerthsOnly sd r) : p.LockingOnly r := by
  cases sd with
  | real => exact h.trans (.of_unberthed h'.yard)
  | copy =>
    cases hs : q.session with
    | some c => exact h.same (h'.copy rfl (by rw [hs]; rfl))
    | none =>
      have hr : r.session = none := by simpa [hs] using h'.isSome
      have hyard := h'.yard
      simp only [Plant.yardOf, hs, hr] at hyard
      exact h.trans (.of_unberthed hyard)

theorem Plant.LockingOnly.mapSlot {f : Slot → Slot} (h : p.LockingOnly q) : p.LockingOnly (q.mapSlot n f) := h.same rfl
theorem Plant.LockingOnly.mapSession {f : Session → Session} (h : p.LockingOnly q) : p.LockingOnly (q.mapSession f) := h.same rfl
theorem Plant.LockingOnly.report {b : ReportBody} (h : p.LockingOnly q) : p.LockingOnly (q.report sd b) := h.same
theorem Plant.LockingOnly.askScan (h : p.LockingOnly q) : p.LockingOnly (q.askScan sd) := h.same

theorem Plant.LockingOnly.writeAspect {a : Aspect} (h : p.LockingOnly q) :
    p.LockingOnly (Plant.writeAspect env q q.active n a) := by
  cases hs : q.session with
  | some c => exact h.same (by
      rw [Plant.active_of_some hs]
      exact Plant.writeCopyAspect_yard (by rw [hs]; rfl))
  | none =>
    rw [Plant.active_of_none hs]
    refine h.trans ?_
    simp only [Plant.writeAspect, Plant.writeRealAspect]
    split
    · exact .refl _
    · have hmap : ∀ k, q.LockingOnly (q.mapSignal .real n fun g => { g with commanded := a, command := k }) := fun _ => ⟨rfl⟩
      split
      · next g _ _ _ _ => exact (hmap (nextCommand g.command)).same
      · exact hmap _

theorem Plant.LockingOnly.stopEntrySignal {sl : Slot} (h : p.LockingOnly q) : p.LockingOnly (Plant.stopEntrySignal env q sl) := by
  unfold Plant.stopEntrySignal Plant.stopSignal
  split
  · exact .ite h.writeAspect h
  · exact h

theorem Plant.LockingOnly.revert {c : RouteCause} {f : FailedCondition} (h : p.LockingOnly q) :
    p.LockingOnly (Plant.revert env q n c f) := by
  unfold Plant.revert
  split
  · exact h
  · exact .ite (.report h.stopEntrySignal.mapSlot) h

theorem Plant.LockingOnly.tryOpen (h : p.LockingOnly q) : p.LockingOnly (Plant.tryOpen env q n) := by
  unfold Plant.tryOpen
  dsimp only
  split
  · exact h
  · split
    · have hopen : ∀ z : Plant, p.LockingOnly z → ∀ k a (f : Slot → Slot),
          p.LockingOnly ((Plant.writeAspect env z z.active k a).mapSlot n f) := fun z hz k a f => hz.writeAspect.mapSlot
      exact .report (.ite (hopen _ (.ite h h.mapSession) _ _ _)
        ((hopen _ (.ite h h.mapSession) _ _ _).berths (Plant.routeOpened_berthsOnly ..)))
    · exact h

theorem Plant.LockingOnly.pointChanged (h : p.LockingOnly q) : p.LockingOnly (Plant.pointChanged env q sd n) := by
  have hslots := Plant.LockingOnly.foldl (f := fun q k => Plant.slotPoint env q n k) (fun z k hz => by
    unfold Plant.slotPoint
    split
    · exact hz
    · exact .ite hz.revert hz.tryOpen) (Plant.slotsOfPoint env q n) h
  unfold Plant.pointChanged
  exact .ite (.askScan (.ite hslots h)) (.ite hslots h)

theorem Plant.LockingOnly.lampChanged (h : p.LockingOnly q) : p.LockingOnly (Plant.lampChanged env q sd n) := by
  unfold Plant.lampChanged
  refine .ite ?_ h
  split
  · exact h
  · exact .ite (.ite h h.revert) h.tryOpen

end

end Sys2Proof.Machine
end

section
/-! SUPPORT. The detection of a point at rest (R35 to R37). -/

namespace Sys2Proof.Machine

open Sys2Proof

section
variable {env : Env} {p q w : Plant} {n m : Nat} {x : Point}

/-! ## What a report writes of its point -/

/-- One point of the real yard is written, and no slot. -/
structure Plant.PointOnly (n : Nat) (x : Point) (p w : Plant) : Prop where
  point : w.yard.point? n = some x
  others : ∀ m, m ≠ n → w.yard.point? m = p.yard.point? m
  yard : w.yard = { p.yard with points := w.yard.points }
  slots : w.slots = p.slots
  freeze : w.freeze = p.freeze
  cascade : p.Cascade w

theorem Plant.PointOnly.mapPoint {y : Point} {f : Point → Point} (h : p.PointOnly n x w) (hf : ∀ z, (f z).number = z.number)
    (hy : f x = y) : p.PointOnly n y (w.mapPoint .real n f) where
  point := by rw [w.mapPoint_point?_self hf, h.point, Option.map_some, hy]
  others m hm := (w.mapPoint_point?_ne hf hm).trans (h.others m hm)
  yard := (congrArg (fun y : Yard => { y with points := (w.mapPoint .real n f).yard.points }) h.yard :)
  slots := h.slots
  freeze := h.freeze
  cascade := h.cascade.mapPoint

theorem Plant.PointOnly.refl (h : p.yard.point? n = some x) : p.PointOnly n x p := ⟨h, fun _ _ => rfl, rfl, rfl, rfl, .refl p⟩

theorem Plant.PointOnly.report {sd : Side} {b : ReportBody} (h : p.PointOnly n x w) : p.PointOnly n x (w.report sd b) where
  point := by rw [Plant.report_yard]; exact h.point
  others := by rw [Plant.report_yard]; exact h.others
  yard := by rw [Plant.report_yard]; exact h.yard
  slots := (Plant.report_slots ..).trans h.slots
  freeze := (Plant.report_freeze ..).trans h.freeze
  cascade := h.cascade.report

theorem Plant.PointOnly.ite {c : Prop} [Decidable c] (h : p.PointOnly n x q) (h' : p.PointOnly n x w) :
    p.PointOnly n x (if c then q else w) := by split <;> assumption

/-- A point at rest that is not locked elsewhere takes the position reported (R35, R37). -/
theorem Plant.pointDetection_takes {pos : Position} (hx : p.yard.point? n = some x) (ht : x.throw = none)
    (hl : x.lockedAt = none ∨ x.lockedAt = some pos) :
    ∃ w, p.PointOnly n (x.detecting (some pos)) w ∧
      (Plant.pointDetection env p .real n (some pos) = w ∨
        Plant.pointDetection env p .real n (some pos) = Plant.pointChanged env w .real n) := by
  have hnumber : x.number = n := findBy_key _ hx
  have hx' : (p.yardOf .real).point? n = some x := hx
  have htake : Plant.pointDetection env p .real n (some pos) =
      Plant.takeDetection env (p.mapPoint .real n fun y => { y with detected := some pos }) .real x pos := by
    rcases hl with h | h <;> simp only [Plant.pointDetection, hx', ht, h, ↓reduceIte]
  have hdetected := (Plant.PointOnly.refl hx).mapPoint (f := fun y => { y with detected := some pos })
    (y := { x with detected := some pos }) (fun _ => rfl) rfl
  rw [htake, Plant.takeDetection, hnumber]
  split
  · next hlies =>
    have hstate : x.state = pos.state := beq_iff_eq.mp hlies
    have hsame : ({ x with detected := some pos } : Point) = x.detecting (some pos) := by simp [Point.detecting, ← hstate]
    exact ⟨_, hsame ▸ hdetected, .inl rfl⟩
  · have hstate := hdetected.mapPoint (f := fun y => { y with state := pos.state }) (y := x.detecting (some pos)) (fun _ => rfl) rfl
    exact ⟨_, .ite hstate.report (.ite hstate.report hstate), .inr rfl⟩

/-- A point at rest that loses its detection is FAILED, and the loss is recorded once (R36). -/
theorem Plant.pointDetection_loses (hx : p.yard.point? n = some x) (ht : x.throw = none) :
    ∃ w, p.PointOnly n (x.detecting none) w ∧ (Plant.pointDetection env p .real n none =
      if x.state = .failed then w
      else Plant.pointChanged env (w.handFault .real .detectionLost (.point n) none none) .real n) := by
  have hnumber : x.number = n := findBy_key _ hx
  have hx' : (p.yardOf .real).point? n = some x := hx
  have hlose : Plant.pointDetection env p .real n none =
      Plant.loseDetection env (p.mapPoint .real n fun y => { y with detected := none }) .real x := by
    simp only [Plant.pointDetection, hx', ht]
  have hdetected := (Plant.PointOnly.refl hx).mapPoint (f := fun y => { y with detected := none })
    (y := { x with detected := none }) (fun _ => rfl) rfl
  rw [hlose, Plant.loseDetection, hnumber]
  split
  · next hfailed =>
    have hsame : ({ x with detected := none } : Point) = x.detecting none := by simp [Point.detecting, ← hfailed]
    exact ⟨_, hsame ▸ hdetected, rfl⟩
  · exact ⟨_, hdetected.mapPoint (f := fun y => { y with state := .failed }) (y := x.detecting none) (fun _ => rfl) rfl, rfl⟩

/-! ## What passing a point's change on leaves -/

/-- A change of a point passed on keeps the points, the sections, the faults and the freeze of the real yard. -/
theorem Plant.PointOnly.pointChanged (h : p.PointOnly n x w) :
    (Plant.pointChanged env w .real n).yard.point? n = some x ∧
      (∀ m, m ≠ n → (Plant.pointChanged env w .real n).yard.point? m = p.yard.point? m) ∧
      (Plant.pointChanged env w .real n).yard.faults = p.yard.faults ∧
      (Plant.pointChanged env w .real n).freeze = p.freeze ∧ p.Cascade (Plant.pointChanged env w .real n) := by
  have hlocking := Plant.LockingOnly.pointChanged (env := env) (sd := .real) (n := n) (.refl w)
  refine ⟨(hlocking.point? n).trans h.point, fun m hm => (hlocking.point? m).trans (h.others m hm), ?_, ?_, h.cascade.pointChanged⟩
  · rw [hlocking.faults]
    exact (congrArg Yard.faults h.yard :)
  · exact (Plant.Cascade.refl w).pointChanged.freeze.trans h.freeze

/-! ## The slots that a failed point reverts (R69) -/

theorem Plant.tryOpen_slots (env : Env) (p : Plant) (n : Nat) :
    (Plant.tryOpen env p n).slots = p.slots ∨
      (Plant.tryOpen env p n).slots = (p.mapSlot n fun x => { x with state := .opened, openedOnce := true }).slots := by
  unfold Plant.tryOpen
  dsimp only
  split
  · exact .inl rfl
  · next sl _ =>
    split
    · refine .inr ?_
      rw [Plant.routeState_slots]
      split
      · simp only [Plant.mapSlot, Plant.writeAspect_slots]
      · rw [(Plant.routeOpened_berthsOnly ..).slots]
        simp only [Plant.mapSlot, Plant.writeAspect_slots]
        rfl
    · exact .inl rfl

theorem Plant.slotPoint_ne {k : Nat} (h : m ≠ k) : (Plant.slotPoint env p n k).slot? m = p.slot? m := by
  have htry : (Plant.tryOpen env p k).slot? m = p.slot? m := by
    rcases Plant.tryOpen_slots env p k with hs | hs
    · exact Plant.slot?_congr hs m
    · exact (Plant.slot?_congr hs m).trans (p.mapSlot_slot?_ne
        (f := fun x => { x with state := .opened, openedOnce := true }) (fun _ hx => hx) h)
  have hrevert : ∀ c f, (Plant.revert env p k c f).slot? m = p.slot? m := by
    intro c f
    by_cases hopen : ∃ sl, p.slot? k = some sl ∧ sl.state = .opened
    · obtain ⟨sl, hsl, ho⟩ := hopen
      exact (Plant.slot?_congr (Plant.revert_slots hsl ho) m).trans (p.mapSlot_slot?_ne
        (f := fun x => { x with state := .locked, aspectHeld := sl.aspectHeld || c == .aspectLost }) (fun _ hx => hx) h)
    · rw [Plant.revert_of_not_opened fun sl hsl ho => hopen ⟨sl, hsl, ho⟩]
  unfold Plant.slotPoint
  split
  · rfl
  · dsimp only
    split
    · exact hrevert ..
    · exact htry

/-- A slot of a route, in one of the states given. -/
def Plant.SlotIn (env : Env) (m : Nat) (r : RouteRecord) (states : List SlotState) (p : Plant) : Prop :=
  ∃ sl, p.slot? m = some sl ∧ env.slotRoute sl = some r ∧ sl.state ∈ states

/-- A point of the real yard in force that no position fits. -/
def Plant.FailedAt (n : Nat) (p : Plant) : Prop := p.active = .real ∧ ∃ x, p.yard.point? n = some x ∧ x.state = .failed

theorem Plant.FailedAt.kept (h : p.FailedAt n) (hl : p.LockingOnly q) (hc : p.Cascade q) : q.FailedAt n := by
  obtain ⟨hactive, x, hx, hstate⟩ := h
  exact ⟨hc.active.trans hactive, x, (hl.point? n).trans hx, hstate⟩

theorem Plant.slotPoint_kept (env : Env) (p : Plant) (n k : Nat) :
    p.LockingOnly (Plant.slotPoint env p n k) ∧ p.Cascade (Plant.slotPoint env p n k) := by
  unfold Plant.slotPoint
  split
  · exact ⟨.refl p, .refl p⟩
  · exact ⟨.ite (Plant.LockingOnly.refl p).revert (Plant.LockingOnly.refl p).tryOpen,
      .ite (Plant.Cascade.refl p).revert (Plant.Cascade.refl p).tryOpen⟩

/-- A slot whose route requires a failed point is LOCKED after the change of the point has been passed to it. -/
theorem Plant.slotPoint_locks {r : RouteRecord} (hf : p.FailedAt n) (hr : (r.position? n).isSome = true)
    (h : p.SlotIn env m r [.opened, .locked]) : (Plant.slotPoint env p n m).SlotIn env m r [.locked] := by
  obtain ⟨sl, hsl, hroute, hstate⟩ := h
  obtain ⟨hactive, x, hx, hfailed⟩ := hf
  have hcurrent : p.current.point? n = some x := by rw [Plant.current, hactive]; exact hx
  have hlies : ∀ pos, x.lies pos = false := fun pos => by cases pos <;> simp [Point.lies, hfailed, Position.state]
  by_cases ho : sl.state = .opened
  · have hpass : Plant.slotPoint env p n m = Plant.revert env p m .reverted .point := by
      simp [Plant.slotPoint, hsl, ho, hroute, hcurrent, hlies]
    refine ⟨{ sl with state := .locked, aspectHeld := sl.aspectHeld || RouteCause.reverted == .aspectLost }, ?_, hroute, by simp⟩
    rw [hpass, Plant.slot?_congr (Plant.revert_slots hsl ho)]
    exact p.mapSlot_slot?_self (f := fun x => { x with state := .locked, aspectHeld := sl.aspectHeld || RouteCause.reverted == .aspectLost })
      (fun _ hx => hx) hsl
  · have hlocked : sl.state = .locked := by simpa [ho] using hstate
    have hclosed : Plant.mayOpen env p sl = false := by
      obtain ⟨pos, hpos⟩ := Option.isSome_iff_exists.mp hr
      obtain ⟨y, hy, -⟩ := Option.map_eq_some_iff.mp hpos
      have hmem := List.mem_of_find?_eq_some hy
      have hy1 : y.1 = n := by simpa using List.find?_some hy
      have hholds : Plant.holds env p sl.number y = false := by
        simp [Plant.holds, hy1, hcurrent, Plant.pointLies, hlies]
      have hall : r.required.all (Plant.holds env p sl.number) = false :=
        List.all_eq_false.mpr ⟨y, hmem, by rw [hholds]; exact Bool.false_ne_true⟩
      simp [Plant.mayOpen, hroute, hall]
    have hpass : Plant.slotPoint env p n m = p := by
      simp [Plant.slotPoint, hsl, hlocked, Plant.tryOpen, hclosed]
    rw [hpass]
    exact ⟨sl, hsl, hroute, by simp [hlocked]⟩

theorem Plant.slotPoints_lock {r : RouteRecord} (ns : List Nat) (hf : p.FailedAt n) (hr : (r.position? n).isSome = true) (hm : m ∈ ns)
    (h : p.SlotIn env m r [.opened, .locked]) :
    (ns.foldl (fun q k => Plant.slotPoint env q n k) p).SlotIn env m r [.locked] := by
  have hstep : ∀ z : Plant, ∀ k, z.FailedAt n → (Plant.slotPoint env z n k).FailedAt n := fun z k hz =>
    hz.kept (Plant.slotPoint_kept env z n k).1 (Plant.slotPoint_kept env z n k).2
  have hne : ∀ z : Plant, ∀ k states, k ≠ m → z.SlotIn env m r states → (Plant.slotPoint env z n k).SlotIn env m r states :=
    fun z k states hk ⟨sl, hsl, hrest⟩ => ⟨sl, (Plant.slotPoint_ne (Ne.symm hk)).trans hsl, hrest⟩
  have hdone : ∀ l : List Nat, ∀ z : Plant, z.FailedAt n → z.SlotIn env m r [.locked] →
      (l.foldl (fun q k => Plant.slotPoint env q n k) z).SlotIn env m r [.locked] := by
    intro l
    induction l with
    | nil => exact fun z _ hz => hz
    | cons k l ih =>
      refine fun z hzf hz => ih _ (hstep z k hzf) ?_
      by_cases hk : k = m
      · subst hk
        obtain ⟨sl, hsl, hroute, hst⟩ := hz
        exact Plant.slotPoint_locks hzf hr ⟨sl, hsl, hroute, List.mem_cons_of_mem _ hst⟩
      · exact hne z k _ hk hz
  induction ns generalizing p with
  | nil => cases hm
  | cons k ns ih =>
    by_cases hk : k = m
    · subst hk
      exact hdone ns _ (hstep p k hf) (Plant.slotPoint_locks hf hr h)
    · exact ih (hstep p k hf) ((List.mem_cons.mp hm).resolve_left (Ne.symm hk)) (hne p k _ hk h)

end

end Sys2Proof.Machine
end

section
/-! SUPPORT. A locked point that is trailed (R37), and the detection of a point at rest (O51). -/

namespace Sys2Proof.Machine

open Sys2Proof

section
variable {env : Env} {p q : Plant} {n m : Nat} {x : Point}

/-! ## A freeze keeps a point at rest -/

/-- A point of the real yard at rest, the real yard being in force. -/
def Plant.RestsAt (n : Nat) (x : Point) (p : Plant) : Prop := p.active = .real ∧ p.yard.point? n = some x

theorem Plant.RestsAt.locking (h : p.RestsAt n x) (hl : p.LockingOnly q) (hc : p.Cascade q) : q.RestsAt n x :=
  ⟨hc.active.trans h.1, (hl.point? n).trans h.2⟩

theorem Plant.RestsAt.mapPoint_ne {f : Point → Point} (h : p.RestsAt n x) (hf : ∀ x, (f x).number = x.number) {k : Nat} (hk : n ≠ k) :
    (p.mapPoint .real k f).RestsAt n x :=
  ⟨(Plant.Cascade.refl p).mapPoint.active.trans h.1, (p.mapPoint_point?_ne hf hk).trans h.2⟩

theorem Plant.RestsAt.ite {c : Prop} [Decidable c] (h : p.RestsAt n x) (h' : q.RestsAt n x) : (if c then p else q).RestsAt n x := by
  split <;> assumption

theorem Plant.RestsAt.report {sd : Side} {b : ReportBody} (h : p.RestsAt n x) : (p.report sd b).RestsAt n x :=
  h.locking (Plant.LockingOnly.refl p).report (Plant.Cascade.refl p).report

/-- The throw of another point that a freeze ends does not touch a point at rest. -/
theorem Plant.RestsAt.freezeThrow {y : Point} (h : p.RestsAt n x) (ht : x.throw = none) :
    (Plant.freezeThrow env p .real y).RestsAt n x := by
  have hstop : (Plant.stopDrive env p .real y).RestsAt n x := by
    have hkept := Plant.sendStop_tablesKept env p y.number
    have hsent : (Plant.sendStop env p .real y.number).RestsAt n x :=
      ⟨(Plant.Cascade.refl p).sendStop.active.trans h.1, by rw [hkept.yard]; exact h.2⟩
    exact .ite hsent h
  unfold Plant.freezeThrow
  by_cases hn : n = y.number
  · rw [← hn, Plant.throwEnd_of_rest (sd := .real) hstop.2 ht]
    exact hstop
  · have hclaim : ∀ z : Plant, z.RestsAt n x → ∀ s, (Plant.slotThrowEnd env z s y.number .frozen).RestsAt n x := by
      intro z hz s
      unfold Plant.slotThrowEnd
      split
      · exact hz
      · rw [hz.1]
        exact .ite (hz.mapPoint_ne (f := fun x => { x with claim := none }) (fun _ => rfl) hn) hz
    have hpass : ∀ z : Plant, z.RestsAt n x → ((Plant.pointChanged env z .real y.number).askScan .real).RestsAt n x := fun z hz =>
      hz.locking (Plant.LockingOnly.refl z).pointChanged.askScan (Plant.Cascade.refl z).pointChanged.askScan
    unfold Plant.throwEnd
    split
    · exact hstop
    · split
      · exact hstop
      · have hended := fun st d pk => hstop.mapPoint_ne
          (f := fun z => { z with state := st, throw := none, lastDuration := d, lastPeak := pk }) (fun _ => rfl) hn
        refine hpass _ (.report ?_)
        split
        · exact .ite (hclaim _ (hended _ _ _) _) (hended _ _ _)
        · exact hended _ _ _

theorem Plant.frozenTables_restsAt {c : Cause} (h : p.RestsAt n x) (ht : x.throw = none) :
    (Plant.frozenTables env p c).yard.point? n = some x := by
  let f : Plant := { p with freeze := some ⟨c, [], false⟩ }
  have hf : f.RestsAt n x := h
  have hstop : (Plant.stopAll env f).RestsAt n x :=
    hf.locking (.foldl (fun _ _ h => h.writeAspect) _ (.refl _)) (Plant.Cascade.refl f).stopAll
  have hthrows : ∀ l : List Point, ∀ z : Plant, z.RestsAt n x →
      (l.foldl (fun q y => Plant.freezeThrow env q q.active y) z).RestsAt n x := by
    intro l
    induction l with
    | nil => exact fun z hz => hz
    | cons y l ih =>
      intro z hz
      rw [List.foldl_cons, hz.1]
      exact ih _ (hz.freezeThrow ht)
  have hthrown := hthrows ((Plant.stopAll env f).current.points.filter Point.throwing) _ hstop
  exact (hthrown.locking (.foldl (fun _ _ h => h.revert) _ (.refl _)) (Plant.Cascade.refl _).freezeSlots).2

/-! ## A yard fault of the real yard, outside a freeze -/

/-- A fault that freezes the real yard in force. -/
theorem Plant.yardFault_justFrozen {k : FaultKind} {e : Option FaultElement} {c : Option RouteContext} {d : Option CheckData}
    (hf : p.freeze = none) :
    (Plant.yardFault env p .real k e c d).JustFrozen ⟨p.yard.faults.next, k, e, p.yard.clock.time, c, d⟩ := by
  simp only [Plant.yardFault, hf]
  exact (Plant.freezeYard_justFrozen (Plant.endSessionByFault_session env _)).report

theorem Plant.yardFault_point {k : FaultKind} {e : Option FaultElement} {c : Option RouteContext} {d : Option CheckData}
    (hs : p.session = none) (hf : p.freeze = none) (hx : p.yard.point? n = some x) (ht : x.throw = none) :
    (Plant.yardFault env p .real k e c d).yard.point? n = some x := by
  let q := p.mapYard .real fun y => { y with faults := y.faults.numbered }
  have hq : q.RestsAt n x := ⟨Plant.active_of_none hs, hx⟩
  simp only [Plant.yardFault, hf]
  rw [Plant.report_yard]
  change (Plant.freezeYard env (Plant.endSessionByFault env q) _).yard.point? n = _
  rw [Plant.endSessionByFault_of_none (p := q) hs]
  exact Plant.frozenTables_restsAt hq ht

/-- In a frozen yard with no OPEN slot, a point's change moves no slot. -/
theorem Plant.pointChanged_of_frozen (hf : p.frozen = true) (hn : p.noneOpen) (sd : Side) (k : Nat) :
    (Plant.pointChanged env p sd k).unmarked = p.unmarked := by
  have hslot : ∀ j, Plant.slotPoint env p k j = p := by
    intro j
    unfold Plant.slotPoint
    split
    · rfl
    · next sl hsl =>
      rw [if_neg (by simp [hn j sl hsl]), Plant.tryOpen_of_frozen hf]
  have hslots : (Plant.slotsOfPoint env p k).foldl (fun q n => Plant.slotPoint env q k n) p = p :=
    List.foldlRecOn (motive := fun z => z = p) _ _ rfl fun z hz j _ => by rw [hz, hslot]
  simp only [Plant.pointChanged, hslots, ite_self]
  split
  · exact Plant.askScan_unmarked ..
  · rfl

/-! ## The context of a trailed point -/

theorem foldl_min_eq {ns : List Nat} {n k : Nat} (hmem : k ∈ n :: ns) (hle : ∀ j ∈ n :: ns, k ≤ j) : ns.foldl min n = k := by
  induction ns generalizing n with
  | nil => exact (List.mem_singleton.mp hmem).symm
  | cons j ns ih =>
    have hn := hle n List.mem_cons_self
    have hj := hle j (List.mem_cons_of_mem _ List.mem_cons_self)
    refine ih ?_ fun i hi => ?_
    · rcases List.mem_cons.mp hmem with rfl | hk
      · rw [Nat.min_eq_left hj]
        exact List.mem_cons_self
      · rcases List.mem_cons.mp hk with rfl | hk
        · rw [Nat.min_eq_right hn]
          exact List.mem_cons_self
        · exact List.mem_cons_of_mem _ hk
    · rcases List.mem_cons.mp hi with rfl | hi
      · exact Nat.le_min_of_le_of_le hn hj
      · exact hle i (List.mem_cons_of_mem _ (List.mem_cons_of_mem _ hi))

/-- The route context of a trailed point is that of the lowest-numbered slot that locks it. -/
theorem Plant.trailedContext_eq {k : Lock} (hactive : p.active = .real) (hk : k ∈ x.locks) (hle : ∀ k' ∈ x.locks, k.slot ≤ k'.slot) :
    p.trailedContext .real x = (p.slot? k.slot).bind Slot.context := by
  unfold Plant.trailedContext
  rw [if_pos hactive.symm]
  cases hl : x.locks with
  | nil => rw [hl] at hk; cases hk
  | cons a rest =>
    have hmin : (rest.map Lock.slot).foldl min a.slot = k.slot := by
      rw [hl] at hk
      refine foldl_min_eq (List.mem_map_of_mem (f := Lock.slot) hk) fun j hj => ?_
      obtain ⟨k', hk', rfl⟩ := List.mem_map.mp (show j ∈ (a :: rest).map Lock.slot from hj)
      exact hle k' (hl ▸ hk')
    simp only [List.map_cons, hmin]

/-- In force again, a real yard that has just frozen is as it was. -/
theorem Plant.JustFrozen.unmarked {c : Cause} (h : p.JustFrozen c) : p.unmarked.JustFrozen c :=
  ⟨h.freeze, h.session, h.hold, h.stop, h.noThrow, h.noneOpen, h.timers⟩

/-! ## A point whose detection is lost -/

theorem Plant.opened_mem_slotsOfPoint {sl : Slot} {r : RouteRecord} (h : p.slot? m = some sl) (ho : sl.state = .opened)
    (hr : env.slotRoute sl = some r) (hpos : (r.position? n).isSome = true) : m ∈ Plant.slotsOfPoint env p n := by
  refine List.mem_map.mpr ⟨sl, List.mem_filter.mpr ⟨List.mem_filter.mpr ⟨findBy_mem _ h, by simp [Slot.inUse, ho]⟩, ?_⟩,
    Plant.slot?_number h⟩
  simpa [hr] using hpos

theorem Plant.pointChanged_slots (h : p.active = .real) (k : Nat) : (Plant.pointChanged env p .real k).slots =
    ((Plant.slotsOfPoint env p k).foldl (fun q j => Plant.slotPoint env q k j) p).slots := by
  unfold Plant.pointChanged
  rw [if_pos h.symm]
  dsimp only
  split
  · exact Plant.askScan_slots ..
  · rfl

/-- A point that fails reverts every OPEN slot whose route requires it (R69). -/
theorem Plant.pointChanged_locks {r : RouteRecord} {sl : Slot} (hf : p.FailedAt n) (h : p.slot? m = some sl) (ho : sl.state = .opened)
    (hr : env.slotRoute sl = some r) (hpos : (r.position? n).isSome = true) :
    ∃ sl', (Plant.pointChanged env p .real n).slot? m = some sl' ∧ sl'.state = .locked := by
  obtain ⟨sl', hsl', -, hstate⟩ := Plant.slotPoints_lock (Plant.slotsOfPoint env p n) hf hpos
    (Plant.opened_mem_slotsOfPoint h ho hr hpos) ⟨sl, h, hr, by simp [ho]⟩
  exact ⟨sl', (Plant.slot?_congr (Plant.pointChanged_slots hf.1 n) m).trans hsl', by simpa using hstate⟩

/-- A detection lost: the point is as `x`, and the fault is recorded when the list has room for it. -/
structure Plant.DetectionLost (n : Nat) (x : Point) (p w : Plant) : Prop where
  point : w.yard.point? n = some x
  others : ∀ m, m ≠ n → w.yard.point? m = p.yard.point? m
  yard : w.yard = { p.yard with points := w.yard.points, faults := w.yard.faults }
  slots : w.slots = p.slots
  recorded : p.yard.faults.records.length < 16 → ∃ r, w.yard.faults.records = p.yard.faults.records ++ [r] ∧
    r.kind = .detectionLost ∧ r.element = some (.point n) ∧ r.number = p.yard.faults.next
  cascade : p.Cascade w

theorem Plant.PointOnly.faults {w : Plant} (h : p.PointOnly n x w) : w.yard.faults = p.yard.faults := (congrArg Yard.faults h.yard :)

theorem Plant.PointOnly.unrecorded {w : Plant} (h : p.PointOnly n x w) :
    w.yard = { p.yard with points := w.yard.points, faults := w.yard.faults } :=
  h.yard.trans (congrArg (fun f => { p.yard with points := w.yard.points, faults := f }) h.faults.symm :)

theorem Plant.PointOnly.lost {w : Plant} (h : p.PointOnly n x w) :
    p.DetectionLost n x (w.handFault .real .detectionLost (.point n) none none) := by
  have hreal := w.handFault_real .detectionLost (.point n) none none
  have hyard : (w.handFault .real .detectionLost (.point n) none none).yard = { w.yard with
      faults := (w.handFault .real .detectionLost (.point n) none none).yard.faults } := by rw [hreal]
  have hpoints : (w.handFault .real .detectionLost (.point n) none none).yard.points = w.yard.points := (congrArg Yard.points hyard :)
  have hpoint : ∀ m, (w.handFault .real .detectionLost (.point n) none none).yard.point? m = w.yard.point? m := fun m => by
    rw [Yard.point?, hpoints]
    rfl
  have hfaults := h.faults
  refine ⟨(hpoint n).trans h.point, fun m hm => (hpoint m).trans (h.others m hm), ?_, (Plant.handFault_slots ..).trans h.slots,
    fun hroom => ⟨w.faultRecord .detectionLost (.point n) none none, ?_, rfl, rfl, (congrArg FaultList.next hfaults :)⟩, h.cascade.handFault⟩
  · rw [hpoints]
    exact hyard.trans (congrArg (fun y : Yard => { y with
      points := w.yard.points
      faults := (w.handFault .real .detectionLost (.point n) none none).yard.faults }) h.yard :)
  · rw [Plant.handFault_records (hfaults ▸ hroom), hfaults]

theorem Plant.DetectionLost.used {w : Plant} (h : p.DetectionLost n x w) : w.used = p.used := Plant.used_congr h.slots

end

/-- What a detection report of a point makes of the part, taken from the point's own UP link on a quiet plant. -/
theorem exec_pointDetectionReport {s : State} {n link : Nat} {det : Option Position} (hup : s.plant.linkUp link = true)
    (hlink : s.env.layout.linkOf (.point n) = some link) (hquiet : s.plant.quiet s.env) :
    exec (.pointDetectionReport link n det) s = .next
      { s with plant := (Plant.pointDetection s.env (s.plant.goodFrame link) .real n det).unmarked } := by
  refine congrArg Host.Outcome.next (State.event_of_quiet
    (Plant.fieldReport_taken (fun q => Plant.pointDetection s.env q .real n det) hup hlink) ?_)
  exact (Plant.pointDetection_calm ..).quiet s.env (Plant.goodFrame_quiet hquiet link)

/-- Settles O51: a report writes its point, and passing the change on writes no point; a trailed point freezes the yard first. -/
theorem idlePointTakesDetection : Obligations.IdlePointTakesDetection := by
  unfold Obligations.IdlePointTakesDetection
  intro s n link x hup hlink hx ht hquiet
  let p := s.plant.goodFrame link
  have hpx : p.yard.point? n = some x := hx
  have hexec : ∀ det, exec (.pointDetectionReport link n det) s = .next
      { s with plant := (Plant.pointDetection s.env p .real n det).unmarked } := fun det =>
    exec_pointDetectionReport hup hlink hquiet
  have hpyard : p.yard = s.plant.yard := rfl
  have hpslots : p.slots = s.plant.slots := rfl
  have hpfreeze : p.freeze = s.plant.freeze := rfl
  refine ⟨fun hlocks hclaim hused => ⟨fun pos => ?_, ?_⟩, fun held hheld => ⟨?_, ?_, fun hs hf => ?_⟩⟩
  · obtain ⟨w, hw, hres⟩ := Plant.pointDetection_takes (env := s.env) (pos := pos) hpx ht (.inl (by simp [Point.lockedAt, hlocks]))
    have hused' : w.used = [] := (Plant.used_congr hw.slots).trans hused
    have hend : (Plant.pointDetection s.env p .real n (some pos)).unmarked = w.unmarked := by
      rcases hres with h | h <;> rw [h]
      exact Plant.pointChanged_unused hused' .real n
    rw [hexec, hend]
    exact ⟨_, rfl, rfl, hw.point, hw.others, hw.yard, hw.slots⟩
  · obtain ⟨w, hw, hres⟩ := Plant.pointDetection_loses (env := s.env) hpx ht
    rw [hexec, hres]
    split
    · next hfailed =>
      exact ⟨_, rfl, rfl, hw.point, hw.others, hw.unrecorded, fun h => absurd hfailed h⟩
    · have hlost := hw.lost
      rw [Plant.pointChanged_unused (hlost.used.trans hused)]
      exact ⟨_, rfl, rfl, hlost.point, hlost.others, hlost.yard, fun _ => hlost.recorded⟩
  · obtain ⟨w, hw, hres⟩ := Plant.pointDetection_takes (env := s.env) hpx ht (.inr hheld)
    obtain ⟨hpoint, hothers, hfaults, hfreeze, -⟩ := hw.pointChanged (env := s.env)
    rw [hexec]
    rcases hres with h | h <;> rw [h]
    · exact ⟨_, rfl, rfl, hw.point, hw.others, (congrArg Yard.faults hw.yard :), hw.freeze⟩
    · exact ⟨_, rfl, rfl, hpoint, hothers, hfaults, hfreeze⟩
  · obtain ⟨w, hw, hres⟩ := Plant.pointDetection_loses (env := s.env) hpx ht
    rw [hexec, hres]
    split
    · next hfailed =>
      exact ⟨_, rfl, rfl, hw.point, hw.others, hw.freeze, fun h => absurd hfailed h, fun h => absurd hfailed h⟩
    · have hlost := hw.lost
      have hlocking := Plant.LockingOnly.pointChanged (env := s.env) (sd := .real) (n := n)
        (.refl (w.handFault .real .detectionLost (.point n) none none))
      have hcascade := hlost.cascade.pointChanged (env := s.env) (sd := .real) (n := n)
      refine ⟨_, rfl, rfl, (hlocking.point? n).trans hlost.point, fun m hm => (hlocking.point? m).trans (hlost.others m hm),
        hcascade.freeze, fun _ hroom => ?_, fun _ hs m sl r hsl ho hr hpos => ?_⟩
      · obtain ⟨r, hr, hkind, helement, -⟩ := hlost.recorded hroom
        exact ⟨r, (congrArg FaultList.records hlocking.faults).trans hr, hkind, helement⟩
      · exact Plant.pointChanged_locks ⟨hlost.cascade.active.trans (Plant.active_of_none hs), _, hlost.point, rfl⟩
          ((Plant.slot?_congr hlost.slots m).trans hsl) ho hr hpos
  · let z := (p.mapPoint .real n fun y => { y with detected := some held.opposite }).setPointState .real n held.opposite.state
    let c : Cause := ⟨p.yard.faults.next, .pointTrailed, some (.point n), p.yard.clock.time, p.trailedContext .real x,
      some (.throwData held 0 0 0)⟩
    let w := Plant.yardFault s.env z .real .pointTrailed (some (.point n)) (p.trailedContext .real x) (some (.throwData held 0 0 0))
    have hnumber : x.number = n := findBy_key _ hx
    have hz : p.PointOnly n (x.detecting (some held.opposite)) z := ((Plant.PointOnly.refl hpx).mapPoint
      (f := fun y => { y with detected := some held.opposite }) (y := { x with detected := some held.opposite })
      (fun _ => rfl) rfl).mapPoint (f := fun y => { y with state := held.opposite.state }) (fun _ => rfl) rfl
    have htrailed : Plant.pointDetection s.env p .real n (some held.opposite) = Plant.pointChanged s.env w .real n := by
      have hx' : (p.yardOf .real).point? n = some x := hpx
      have hother : held.opposite ≠ held := by cases held <;> decide
      simp only [Plant.pointDetection, hx', ht, hheld, if_neg hother, Plant.trailed, hnumber]
      rfl
    have hjust : w.JustFrozen c := Plant.yardFault_justFrozen (p := z) hf
    have hpoint : w.yard.point? n = some (x.detecting (some held.opposite)) := Plant.yardFault_point hs hf hz.point ht
    have hpassed : (Plant.pointChanged s.env w .real n).unmarked = w.unmarked :=
      Plant.pointChanged_of_frozen (by rw [Plant.frozen, hjust.freeze]; rfl) hjust.noneOpen .real n
    rw [hexec, htrailed, hpassed]
    exact ⟨_, _, rfl, rfl, hpoint, hjust.freeze, fun k hk hle => Plant.trailedContext_eq (Plant.active_of_none hs) hk hle,
      hjust.stop, hjust.noThrow, hjust.noneOpen, hjust.timers⟩

end Sys2Proof.Machine
end

section
/-! SUPPORT. A signal's report (R47 to R50): what is written of the signal, the faults, and what passes to the slot (O54). -/

namespace Sys2Proof.Machine

open Sys2Proof

section
variable {env : Env} {p q w : Plant} {n k : Nat} {g y : Signal} {a : Aspect} {l : Lamp} {fs : FaultList}

/-! ## One signal and the fault list written -/

/-- Of the real yard one signal is written, and the fault list is as given. -/
structure Plant.SignalOnly (n : Nat) (y : Signal) (fs : FaultList) (p w : Plant) : Prop where
  signal : w.yard.signal? n = some y
  others : ∀ m, m ≠ n → w.yard.signal? m = p.yard.signal? m
  yard : w.yard = { p.yard with signals := w.yard.signals, faults := fs }
  freeze : w.freeze = p.freeze
  session : w.session = p.session

theorem Plant.SignalOnly.faults (h : p.SignalOnly n y fs w) : w.yard.faults = fs := (congrArg Yard.faults h.yard :)

theorem Plant.SignalOnly.recorded (h : p.SignalOnly n y fs w) :
    w.yard = { p.yard with signals := w.yard.signals, faults := w.yard.faults } :=
  h.yard.trans (congrArg (fun f => { p.yard with signals := w.yard.signals, faults := f }) h.faults.symm :)

theorem Plant.SignalOnly.refl (h : p.yard.signal? n = some y) : p.SignalOnly n y p.yard.faults p := ⟨h, fun _ _ => rfl, rfl, rfl, rfl⟩

/-- What does not touch the real yard, the freeze and the session. -/
theorem Plant.SignalOnly.same {z : Plant} (h : p.SignalOnly n y fs w) (hyard : z.yard = w.yard := by simp)
    (hfreeze : z.freeze = w.freeze := by simp) (hsession : z.session = w.session := by simp) : p.SignalOnly n y fs z := by
  refine ⟨?_, ?_, ?_, hfreeze.trans h.freeze, hsession.trans h.session⟩ <;> rw [hyard]
  · exact h.signal
  · exact h.others
  · exact h.yard

theorem Plant.SignalOnly.mapSignal {y' : Signal} {f : Signal → Signal} (h : p.SignalOnly n y fs w) (hf : ∀ x, (f x).number = x.number)
    (hy : f y = y') : p.SignalOnly n y' fs (w.mapSignal .real n f) where
  signal := by rw [w.mapSignal_signal?_self hf, h.signal, Option.map_some, hy]
  others m hm := (w.mapSignal_signal?_ne hf hm).trans (h.others m hm)
  yard := (congrArg (fun z : Yard => { z with signals := (w.mapSignal .real n f).yard.signals }) h.yard :)
  freeze := h.freeze
  session := h.session

theorem Plant.SignalOnly.report {sd : Side} {b : ReportBody} (h : p.SignalOnly n y fs w) : p.SignalOnly n y fs (w.report sd b) := h.same

theorem Plant.SignalOnly.signalChanged {sd : Side} {o : Option Aspect} {b : Option Lamp} (h : p.SignalOnly n y fs w) :
    p.SignalOnly n y fs (w.signalChanged sd k o b) := by
  unfold Plant.signalChanged
  split
  · exact h
  · exact h.report

theorem Plant.SignalOnly.ite {c : Prop} [Decidable c] (h : p.SignalOnly n y fs q) (h' : p.SignalOnly n y fs w) :
    p.SignalOnly n y fs (if c then q else w) := by split <;> assumption

theorem Plant.SignalOnly.handFault {x : FaultKind} {e : FaultElement} {c : Option RouteContext} {d : Option CheckData}
    (h : p.SignalOnly n y fs w) : p.SignalOnly n y (w.handFault .real x e c d).yard.faults (w.handFault .real x e c d) := by
  have hreal := w.handFault_real x e c d
  have hyard : (w.handFault .real x e c d).yard = { w.yard with faults := (w.handFault .real x e c d).yard.faults } := by rw [hreal]
  have hsignals : (w.handFault .real x e c d).yard.signals = w.yard.signals := (congrArg Yard.signals hyard :)
  have hsignal : ∀ m, (w.handFault .real x e c d).yard.signal? m = w.yard.signal? m := fun m => by
    rw [Yard.signal?, hsignals]
    rfl
  refine ⟨(hsignal n).trans h.signal, fun m hm => (hsignal m).trans (h.others m hm), ?_, ?_, ?_⟩
  · rw [hsignals]
    exact hyard.trans (congrArg (fun z : Yard => { z with
      signals := w.yard.signals
      faults := (w.handFault .real x e c d).yard.faults }) h.yard :)
  · rw [hreal]
    exact h.freeze
  · rw [hreal]
    exact h.session

theorem Plant.SignalOnly.handFaultOnce {x : FaultKind} {e : FaultElement} {c : Option RouteContext} (h : p.SignalOnly n y fs w) :
    p.SignalOnly n y (w.handFaultOnce .real x e c).yard.faults (w.handFaultOnce .real x e c) := by
  rw [Plant.handFaultOnce_real]
  split
  · rwa [h.faults]
  · exact h.handFault

/-- The entry signal of an OPEN slot is commanded STOP when the slot reverts (R69). -/
theorem Plant.SignalOnly.revert {sl : Slot} {r : RouteRecord} {c : RouteCause} {f : FailedCondition} (h : p.SignalOnly n y fs w)
    (hs : p.session = none) (hsl : w.slot? k = some sl) (ho : sl.state = .opened) (hr : env.slotRoute sl = some r) (hn : r.signal = n)
    (hy : y.commanded = .proceed) :
    p.SignalOnly n { y with commanded := .stop, command := nextCommand y.command } fs (Plant.revert env w k c f) := by
  have hreal : w.active = .real := Plant.active_of_none (h.session.trans hs)
  have hwritten := h.mapSignal (f := fun x => { x with commanded := .stop, command := nextCommand y.command }) (fun _ => rfl) rfl
  have hstop : p.SignalOnly n { y with commanded := .stop, command := nextCommand y.command } fs (Plant.stopEntrySignal env w sl) := by
    simp only [Plant.stopEntrySignal, hr, hreal, Plant.stopSignal, Plant.yardOf_real, hn, h.signal, Option.any_some, hy,
      beq_self_eq_true, if_true, Plant.writeAspect, Plant.writeRealAspect]
    split
    · exact hwritten.same
    · exact hwritten
  simp only [Plant.revert, hsl, ho, if_true, Plant.routeState]
  exact .report (hstop.same rfl rfl rfl)

/-! ## The stages of a report -/

/-- The signal written and its aspect judged (R47, R48). -/
def Plant.signalJudged (env : Env) (p : Plant) (n : Nat) (g : Signal) (a : Aspect) (l : Lamp) (k : Nat) : Plant :=
  let q := p.mapSignal .real n (g.reportedAs a l k)
  if k == g.command then Plant.judgeAspect env q .real g a l else q

/-- A lamp failure recorded (R50). -/
def Plant.lampRecorded (env : Env) (p : Plant) (n : Nat) (g : Signal) (l : Lamp) : Plant :=
  if l = .failed && g.lamp != some .failed then p.handFaultOnce .real .lampFailed (.signal n) (Plant.signalContext env p .real n) else p

/-- The lamp's change passed on, and the change reported. -/
def Plant.lampPassed (env : Env) (p : Plant) (n : Nat) (g : Signal) (a : Aspect) (l : Lamp) : Plant :=
  let q := if g.lamp != some l then Plant.lampChanged env p .real n else p
  if g.reported != some a || g.lamp != some l then q.signalChanged .real n (some a) (some l) else q

theorem Plant.signalReport_eq (hg : p.yard.signal? n = some g) :
    Plant.signalReport env p .real n a l k =
      let q := Plant.lampPassed env (Plant.lampRecorded env (Plant.signalJudged env p n g a l k) n g l) n g a l
      if k == g.command && aspectLoss g a l then Plant.passLoss env q .real n else q := by
  have hg' : (p.yardOf .real).signal? n = some g := hg
  unfold Plant.signalReport
  rw [hg']
  rfl

/-- A report is current and shows an aspect that is lost. -/
def Signal.Loses (g : Signal) (a : Aspect) (l : Lamp) (k : Nat) : Prop := k = g.command ∧ a = .stop ∧ g.commanded = .proceed ∧ l = .ok

/-- A report is current and shows a wrong aspect that was not raised before. -/
def Signal.Wrong (g : Signal) (a : Aspect) (k : Nat) : Prop :=
  k = g.command ∧ a = .proceed ∧ g.commanded = .stop ∧ g.wrongRaised = false

theorem Signal.loses_iff : g.Loses a l k ↔ (k == g.command && aspectLoss g a l) = true := by
  simp only [Signal.Loses, aspectLoss, Bool.and_eq_true, beq_iff_eq]
  exact ⟨fun ⟨hk, ha, hc, hl⟩ => ⟨hk, ⟨hc, ha⟩, hl⟩, fun ⟨hk, ⟨hc, ha⟩, hl⟩ => ⟨hk, ha, hc, hl⟩⟩

theorem Plant.signalJudged_of_loses (h : g.Loses a l k) : Plant.signalJudged env p n g a l k =
    (p.mapSignal .real n (g.reportedAs a l k)).handFault .real .aspectLost (.signal g.number)
      (Plant.signalContext env (p.mapSignal .real n (g.reportedAs a l k)) .real g.number) (some (.aspects .proceed .stop)) := by
  obtain ⟨hk, ha, hc, hl⟩ := h
  simp [Plant.signalJudged, Plant.judgeAspect, hk, ha, hc, hl]

theorem Plant.signalJudged_of_wrong (h : g.Wrong a k) : Plant.signalJudged env p n g a l k =
    Plant.yardFault env ((p.mapSignal .real n (g.reportedAs a l k)).mapSignal .real g.number fun x => { x with wrongRaised := true })
      .real .wrongAspect (some (.signal g.number)) none (some (.aspects .stop .proceed)) := by
  obtain ⟨hk, ha, hc, hraised⟩ := h
  simp [Plant.signalJudged, Plant.judgeAspect, hk, ha, hc, hraised]

theorem Plant.signalJudged_otherwise (hw : ¬g.Wrong a k) (hl : ¬g.Loses a l k) :
    Plant.signalJudged env p n g a l k = p.mapSignal .real n (g.reportedAs a l k) := by
  unfold Plant.signalJudged Plant.judgeAspect
  dsimp only
  split
  · next hk =>
    have hk' : k = g.command := by simpa using hk
    split
    · next hc =>
      exact if_pos (by simpa using fun hraised => hw ⟨hk', rfl, hc, hraised⟩)
    · next hc => exact if_neg fun hlamp => hl ⟨hk', rfl, hc, hlamp⟩
    · rfl
  · rfl

/-! ## A signal that no slot of the real yard uses -/

theorem Plant.lampChanged_unused (h : Side.real = p.active → p.slotOfSignal env n = none) : Plant.lampChanged env p .real n = p := by
  unfold Plant.lampChanged
  split
  · next ha => rw [h ha]
  · rfl

theorem Plant.passLoss_unused (h : Side.real = p.active → p.slotOfSignal env n = none) : Plant.passLoss env p .real n = p := by
  unfold Plant.passLoss
  split
  · next ha => rw [h ha]
  · rfl

theorem Plant.slotOfSignal_congr (h : q.slots = p.slots) : q.slotOfSignal env n = p.slotOfSignal env n := by
  rw [Plant.slotOfSignal, Plant.used_congr h]
  rfl

theorem Plant.signalChanged_slots (sd : Side) (o : Option Aspect) (b : Option Lamp) : (p.signalChanged sd k o b).slots = p.slots := by
  unfold Plant.signalChanged
  split
  · rfl
  · exact Plant.report_slots ..

theorem Plant.signalChanged_active (sd : Side) (o : Option Aspect) (b : Option Lamp) : (p.signalChanged sd k o b).active = p.active := by
  unfold Plant.signalChanged
  split
  · rfl
  · exact Plant.report_active ..

/-- Of a signal that no slot of the real yard uses, a report writes no more than its stages up to the faults. -/
theorem Plant.signalReport_unused (hg : p.yard.signal? n = some g)
    (hz : Side.real = (Plant.lampRecorded env (Plant.signalJudged env p n g a l k) n g l).active →
      (Plant.lampRecorded env (Plant.signalJudged env p n g a l k) n g l).slotOfSignal env n = none)
    (hq : p.SignalOnly n y fs (Plant.lampRecorded env (Plant.signalJudged env p n g a l k) n g l)) :
    p.SignalOnly n y fs (Plant.signalReport env p .real n a l k) := by
  rw [Plant.signalReport_eq hg]
  generalize Plant.lampRecorded env (Plant.signalJudged env p n g a l k) n g l = z at hz hq
  dsimp only [Plant.lampPassed]
  rw [Plant.lampChanged_unused hz, ite_self]
  have hpassed : ∀ w : Plant, w = z ∨ w = z.signalChanged .real n (some a) (some l) → p.SignalOnly n y fs w ∧ Plant.passLoss env w .real n = w := by
    rintro w (rfl | rfl)
    · exact ⟨hq, Plant.passLoss_unused hz⟩
    · refine ⟨hq.signalChanged, Plant.passLoss_unused fun ha => ?_⟩
      rw [Plant.slotOfSignal_congr (Plant.signalChanged_slots ..)]
      exact hz (by rwa [Plant.signalChanged_active] at ha)
  obtain ⟨hw, hloss⟩ := hpassed (if g.reported != some a || g.lamp != some l then z.signalChanged .real n (some a) (some l) else z) (by
    split
    · exact .inr rfl
    · exact .inl rfl)
  rw [hloss, ite_self]
  exact hw

/-! ## The faults of a report -/

theorem Signal.reportedAs_self : g.reportedAs a l k g =
    { g with
      reported := some a, lamp := some l, answered := some k
      wrongRaised := if k = g.command ∧ (a = g.commanded ∨ a = .stop) then false else g.wrongRaised } := by
  unfold Signal.reportedAs
  congr 1
  by_cases h : k = g.command ∧ (a = g.commanded ∨ a = .stop)
  · have hproved : (k == g.command && (a == g.commanded || a == .stop)) = true := by simpa using h
    rw [if_pos h, hproved]
    rfl
  · have hnot : (k == g.command && (a == g.commanded || a == .stop)) = false := by
      rw [← Bool.not_eq_true]
      simpa using h
    rw [if_neg h, hnot]
    rfl

theorem Plant.lampRecorded_ok (h : l = .ok) : Plant.lampRecorded env p n g l = p := by simp [Plant.lampRecorded, h]

theorem Plant.lampRecorded_of_failed (h : l = .failed ∧ g.lamp ≠ some .failed) :
    Plant.lampRecorded env p n g l = p.handFaultOnce .real .lampFailed (.signal n) (Plant.signalContext env p .real n) := by
  simp [Plant.lampRecorded, h.1, h.2]

theorem Plant.lampRecorded_otherwise (h : ¬(l = .failed ∧ g.lamp ≠ some .failed)) : Plant.lampRecorded env p n g l = p := by
  unfold Plant.lampRecorded
  exact if_neg (by simpa using h)

theorem Plant.reported_signalOnly (hg : p.yard.signal? n = some g) :
    p.SignalOnly n (g.reportedAs a l k g) p.yard.faults (p.mapSignal .real n (g.reportedAs a l k)) :=
  (Plant.SignalOnly.refl hg).mapSignal (fun _ => rfl) rfl

/-- A report that shows an aspect lost records the loss. -/
theorem Plant.recorded_of_loses (hg : p.yard.signal? n = some g) (h : g.Loses a l k) :
    let q := p.mapSignal .real n (g.reportedAs a l k)
    Plant.lampRecorded env (Plant.signalJudged env p n g a l k) n g l =
      q.handFault .real .aspectLost (.signal n) (Plant.signalContext env q .real n) (some (.aspects .proceed .stop)) := by
  obtain rfl : g.number = n := findBy_key _ hg
  rw [Plant.signalJudged_of_loses h, Plant.lampRecorded_ok h.2.2.2]

/-- A report that shows a lamp newly failed, and no wrong aspect, records the failure once. -/
theorem Plant.recorded_of_failed (hw : ¬g.Wrong a k) (h : l = .failed ∧ g.lamp ≠ some .failed) :
    let q := p.mapSignal .real n (g.reportedAs a l k)
    Plant.lampRecorded env (Plant.signalJudged env p n g a l k) n g l =
      q.handFaultOnce .real .lampFailed (.signal n) (Plant.signalContext env q .real n) := by
  rw [Plant.signalJudged_otherwise hw fun hl => (nomatch h.1.symm.trans hl.2.2.2), Plant.lampRecorded_of_failed h]

theorem Plant.recorded_otherwise (hw : ¬g.Wrong a k) (hl : ¬g.Loses a l k) (h : ¬(l = .failed ∧ g.lamp ≠ some .failed)) :
    Plant.lampRecorded env (Plant.signalJudged env p n g a l k) n g l = p.mapSignal .real n (g.reportedAs a l k) := by
  rw [Plant.signalJudged_otherwise hw hl, Plant.lampRecorded_otherwise h]

/-- The stages of a report up to the faults, of a signal without a wrong aspect. -/
theorem Plant.recorded_spec (hg : p.yard.signal? n = some g) (hw : ¬g.Wrong a k) :
    ∃ z fs, Plant.lampRecorded env (Plant.signalJudged env p n g a l k) n g l = z ∧
      p.SignalOnly n (g.reportedAs a l k g) fs z ∧ z.slots = p.slots ∧
      (¬g.Loses a l k → ¬(l = .failed ∧ g.lamp ≠ some .failed) → fs = p.yard.faults) ∧
      (p.yard.faults.records.length < 16 →
        (g.Loses a l k → fs.records.map (fun r => (r.kind, r.element)) =
          p.yard.faults.records.map (fun r => (r.kind, r.element)) ++ [(.aspectLost, some (.signal n))]) ∧
        (l = .failed ∧ g.lamp ≠ some .failed → p.yard.faults.holdsOpen .lampFailed (.signal n) = false →
          fs.records.map (fun r => (r.kind, r.element)) =
            p.yard.faults.records.map (fun r => (r.kind, r.element)) ++ [(.lampFailed, some (.signal n))])) := by
  have hq := Plant.reported_signalOnly (p := p) (a := a) (l := l) (k := k) hg
  let q := p.mapSignal .real n (g.reportedAs a l k)
  by_cases hl : g.Loses a l k
  · refine ⟨_, _, Plant.recorded_of_loses hg hl, hq.handFault, Plant.handFault_slots .., fun h => absurd hl h, fun hroom =>
      ⟨fun _ => ?_, fun h => (nomatch h.1.symm.trans hl.2.2.2)⟩⟩
    rw [Plant.handFault_records (p := q) hroom, List.map_append]
    rfl
  · by_cases hf : l = .failed ∧ g.lamp ≠ some .failed
    · refine ⟨_, _, Plant.recorded_of_failed hw hf, hq.handFaultOnce, Plant.handFaultOnce_slots .., fun _ h => absurd hf h, fun hroom =>
        ⟨fun h => absurd h hl, fun _ hopen => ?_⟩⟩
      have hnone : ¬(q.yard.faults.holdsOpen .lampFailed (.signal n) = true) := by
        rw [show q.yard.faults = p.yard.faults from rfl, hopen]
        exact Bool.false_ne_true
      rw [Plant.handFaultOnce_real, if_neg hnone, Plant.handFault_records (p := q) hroom, List.map_append]
      rfl
    · exact ⟨_, _, Plant.recorded_otherwise hw hl hf, hq, rfl, fun _ _ => rfl, fun _ =>
        ⟨fun h => absurd h hl, fun h => absurd h hf⟩⟩

/-! ## A wrong aspect freezes the yard (R48, R161) -/

theorem Plant.JustFrozen.handFaultOnce {c : Cause} {x : FaultKind} {e : FaultElement} {r : Option RouteContext} (h : p.JustFrozen c) :
    (p.handFaultOnce .real x e r).JustFrozen c := by
  rw [Plant.handFaultOnce_real]
  split
  · exact h
  · rw [Plant.handFault_real]
    exact ⟨h.freeze, h.session, h.hold, h.stop, h.noThrow, h.noneOpen, h.timers⟩

theorem Plant.JustFrozen.signalChanged {c : Cause} {sd : Side} {o : Option Aspect} {b : Option Lamp} (h : p.JustFrozen c) :
    (p.signalChanged sd n o b).JustFrozen c := by
  unfold Plant.signalChanged
  split
  · exact h
  · exact h.report

theorem Plant.JustFrozen.lampRecorded {c : Cause} (h : p.JustFrozen c) : (Plant.lampRecorded env p n g l).JustFrozen c := by
  unfold Plant.lampRecorded
  split
  · exact h.handFaultOnce
  · exact h

/-- In a frozen yard with no OPEN slot, a lamp's change moves no slot. -/
theorem Plant.JustFrozen.lampChanged {c : Cause} (h : p.JustFrozen c) : Plant.lampChanged env p .real n = p := by
  have hfrozen : p.frozen = true := by rw [Plant.frozen, h.freeze]; rfl
  unfold Plant.lampChanged
  split
  · split
    · rfl
    · next sl _ =>
      split
      · have hclosed : ∀ x f, Plant.revert env p sl.number x f = p := fun x f =>
          Plant.revert_of_not_opened fun sl' hsl' => h.noneOpen _ _ hsl'
        rw [hclosed, ite_self]
      · exact Plant.tryOpen_of_frozen hfrozen
  · rfl

theorem Plant.signalReport_wrong (hf : p.freeze = none) (hg : p.yard.signal? n = some g) (hw : g.Wrong a k) :
    (Plant.signalReport env p .real n a l k).JustFrozen
      ⟨p.yard.faults.next, .wrongAspect, some (.signal n), p.yard.clock.time, none, some (.aspects .stop .proceed)⟩ := by
  have hnumber : g.number = n := findBy_key _ hg
  let z := (p.mapSignal .real n (g.reportedAs a l k)).mapSignal .real n fun x => { x with wrongRaised := true }
  have hjudged : (Plant.signalJudged env p n g a l k).JustFrozen
      ⟨p.yard.faults.next, .wrongAspect, some (.signal n), p.yard.clock.time, none, some (.aspects .stop .proceed)⟩ := by
    rw [Plant.signalJudged_of_wrong hw, hnumber]
    exact Plant.yardFault_justFrozen (p := z) hf
  have hrecorded := hjudged.lampRecorded (env := env) (n := n) (g := g) (l := l)
  have hnot : ¬(k == g.command && aspectLoss g a l) = true := fun h => by
    have hstop := hw.2.1.symm.trans (Signal.loses_iff.mpr h).2.1
    cases hstop
  rw [Plant.signalReport_eq hg]
  dsimp only
  rw [if_neg hnot]
  unfold Plant.lampPassed
  rw [hrecorded.lampChanged, ite_self]
  split
  · exact hrecorded.signalChanged
  · exact hrecorded

/-- The signal of a wrong aspect that freezes the yard. -/
theorem Plant.signalReport_wrong_signal (hg : p.yard.signal? n = some g) (hw : g.Wrong a k) :
    ∃ g', (Plant.signalReport env p .real n a l k).yard.signal? n = some g' ∧ g'.reported = some .proceed ∧ g'.lamp = some l ∧
      g'.answered = some k ∧ g'.wrongRaised = true := by
  have hkept := Plant.signalReport_fieldKept (env := env) (a := a) (l := l) (k := k) hg p.throwsIn_true
  have hjudged : (p.judged n g a l k).yard.signal? n =
      some { g with reported := some a, lamp := some l, answered := some k, wrongRaised := true } := by
    obtain rfl : g.number = n := findBy_key _ hg
    have hk : (k == g.command) = true := by simp [hw.1]
    have hraise : (p.mapSignal .real g.number (g.reportedAs a l k)).raise g a =
        (p.mapSignal .real g.number (g.reportedAs a l k)).mapSignal .real g.number fun x => { x with wrongRaised := true } :=
      if_pos ⟨hw.2.2.1, hw.2.1, hw.2.2.2⟩
    rw [Plant.judged, if_pos hk, hraise]
    exact (((Plant.SignalOnly.refl hg).mapSignal (f := g.reportedAs a l k) (fun _ => rfl) rfl).mapSignal
      (f := fun x => { x with wrongRaised := true }) (fun _ => rfl) rfl).signal
  have hshown := hkept.signals n
  have hraised := hkept.raised n
  rw [hjudged] at hshown hraised
  obtain ⟨g', hg', hseen⟩ := Option.map_eq_some_iff.mp hshown
  rw [hg'] at hraised
  simp only [Prod.mk.injEq] at hseen
  obtain ⟨hreported, hlamp, hanswered⟩ := hseen
  exact ⟨g', hg', hreported.trans (congrArg some hw.2.1), hlamp, hanswered, Option.some.inj hraised⟩

/-! ## The entry signal of an OPEN slot (R69) -/

theorem Plant.slotOfSignal_route {sl : Slot} (h : p.slotOfSignal env n = some sl) : ∃ r, env.slotRoute sl = some r ∧ r.signal = n := by
  have hfound := List.find?_some h
  obtain ⟨r, hr, hn⟩ := (Option.any_eq_true ..).mp hfound
  exact ⟨r, hr, by simpa using hn⟩

theorem Plant.lampChanged_opened {sl : Slot} (hactive : p.active = .real) (hslot : p.slotOfSignal env n = some sl) (ho : sl.state = .opened) :
    Plant.lampChanged env p .real n = if (p.current.signal? n).any (fun g => g.lamp == some .ok) then p
      else Plant.revert env p sl.number .reverted (if p.elementUp env .real (.signal n) then .lamp else .link) := by
  simp only [Plant.lampChanged, hactive, hslot, ho, if_true]

/-- What a report that reverts the OPEN slot of its signal leaves. -/
structure Plant.Reverts (n : Nat) (y : Signal) (fs : FaultList) (sl : Slot) (held : Bool) (p w : Plant) : Prop where
  only : p.SignalOnly n { y with commanded := .stop, command := nextCommand y.command } fs w
  slots : w.slots = (p.mapSlot sl.number fun x => { x with state := .locked, aspectHeld := held }).slots

section
variable {sl : Slot} {r : RouteRecord}

theorem Plant.SignalOnly.reverts {c : RouteCause} {f : FailedCondition} (h : p.SignalOnly n y fs w) (hslots : w.slots = p.slots)
    (hs : p.session = none) (hsl : p.slot? sl.number = some sl) (ho : sl.state = .opened) (hr : env.slotRoute sl = some r)
    (hn : r.signal = n) (hy : y.commanded = .proceed) :
    p.Reverts n y fs sl (sl.aspectHeld || c == .aspectLost) (Plant.revert env w sl.number c f) := by
  have hsl' : w.slot? sl.number = some sl := (Plant.slot?_congr hslots _).trans hsl
  refine ⟨h.revert hs hsl' ho hr hn hy, ?_⟩
  rw [Plant.revert_slots hsl' ho, Plant.mapSlot, Plant.mapSlot, hslots]

theorem Plant.Reverts.signalChanged {held : Bool} {sd : Side} {o : Option Aspect} {b : Option Lamp} (h : p.Reverts n y fs sl held w) :
    p.Reverts n y fs sl held (w.signalChanged sd k o b) := ⟨h.only.signalChanged, (Plant.signalChanged_slots ..).trans h.slots⟩

variable (hs : p.session = none) (hslot : p.slotOfSignal env n = some sl) (hsl : p.slot? sl.number = some sl)
  (ho : sl.state = .opened) (hg : p.yard.signal? n = some g) (hc : g.commanded = .proceed)
include hs hslot hsl ho hg hc

/-- At an aspect loss the slot reverts with its aspect held. -/
theorem Plant.signalReport_loses (h : g.Loses a l k) :
    let q := p.mapSignal .real n (g.reportedAs a l k)
    p.Reverts n (g.reportedAs a l k g)
      (q.handFault .real .aspectLost (.signal n) (Plant.signalContext env q .real n) (some (.aspects .proceed .stop))).yard.faults sl true
      (Plant.signalReport env p .real n a l k) := by
  intro q
  obtain ⟨r, hr, hn⟩ := Plant.slotOfSignal_route hslot
  have hrecorded := Plant.recorded_of_loses (env := env) (p := p) hg h
  have hz : p.SignalOnly n _ _ (q.handFault .real .aspectLost (.signal n) (Plant.signalContext env q .real n)
    (some (.aspects .proceed .stop))) := (Plant.reported_signalOnly hg).handFault
  have hzslots : (q.handFault .real .aspectLost (.signal n) (Plant.signalContext env q .real n)
    (some (.aspects .proceed .stop))).slots = p.slots := Plant.handFault_slots ..
  rw [Plant.signalReport_eq hg, hrecorded]
  dsimp only
  rw [if_pos (Signal.loses_iff.mp h)]
  generalize q.handFault .real .aspectLost (.signal n) (Plant.signalContext env q .real n) (some (.aspects .proceed .stop)) = z at hz hzslots
  have hpass : ∀ w : Plant, p.SignalOnly n (g.reportedAs a l k g) z.yard.faults w → w.slots = p.slots →
      p.Reverts n (g.reportedAs a l k g) z.yard.faults sl true (Plant.passLoss env w .real n) := by
    intro w hw hwslots
    have hactive : w.active = .real := Plant.active_of_none (hw.session.trans hs)
    have hreverts := hw.reverts (env := env) (c := .aspectLost) (f := .none) hwslots hs hsl ho hr hn hc
    rw [show (sl.aspectHeld || RouteCause.aspectLost == .aspectLost) = true by simp] at hreverts
    simpa only [Plant.passLoss, hactive, if_true, (Plant.slotOfSignal_congr hwslots).trans hslot] using hreverts
  have hactive : z.active = .real := Plant.active_of_none (hz.session.trans hs)
  have hlamp : Plant.lampChanged env z .real n = z := by
    rw [Plant.lampChanged_opened hactive ((Plant.slotOfSignal_congr hzslots).trans hslot) ho, Plant.current, hactive]
    exact if_pos (by rw [Plant.yardOf_real, hz.signal]; simp [Signal.reportedAs, h.2.2.2])
  unfold Plant.lampPassed
  rw [hlamp, ite_self]
  split
  · exact hpass _ hz.signalChanged ((Plant.signalChanged_slots ..).trans hzslots)
  · exact hpass _ hz hzslots

/-- At a new lamp failure the slot reverts. -/
theorem Plant.signalReport_failed (h : l = .failed ∧ g.lamp ≠ some .failed) :
    let q := p.mapSignal .real n (g.reportedAs a l k)
    p.Reverts n (g.reportedAs a l k g)
      (q.handFaultOnce .real .lampFailed (.signal n) (Plant.signalContext env q .real n)).yard.faults sl sl.aspectHeld
      (Plant.signalReport env p .real n a l k) := by
  intro q
  obtain ⟨r, hr, hn⟩ := Plant.slotOfSignal_route hslot
  have hwrong : ¬g.Wrong a k := fun hw => nomatch hc.symm.trans hw.2.2.1
  have hnot : ¬(k == g.command && aspectLoss g a l) = true := fun hl => nomatch h.1.symm.trans (Signal.loses_iff.mpr hl).2.2.2
  have hrecorded := Plant.recorded_of_failed (env := env) (p := p) (n := n) hwrong h
  have hz : p.SignalOnly n _ _ (q.handFaultOnce .real .lampFailed (.signal n) (Plant.signalContext env q .real n)) :=
    (Plant.reported_signalOnly hg).handFaultOnce
  have hzslots : (q.handFaultOnce .real .lampFailed (.signal n) (Plant.signalContext env q .real n)).slots = p.slots :=
    Plant.handFaultOnce_slots ..
  rw [Plant.signalReport_eq hg, hrecorded]
  dsimp only
  rw [if_neg hnot]
  generalize q.handFaultOnce .real .lampFailed (.signal n) (Plant.signalContext env q .real n) = z at hz hzslots
  have hactive : z.active = .real := Plant.active_of_none (hz.session.trans hs)
  have hchanged : (g.lamp != some l) = true := by simpa [h.1] using h.2
  have hlamp : Plant.lampChanged env z .real n =
      Plant.revert env z sl.number .reverted (if z.elementUp env .real (.signal n) then .lamp else .link) := by
    rw [Plant.lampChanged_opened hactive ((Plant.slotOfSignal_congr hzslots).trans hslot) ho]
    exact if_neg (by rw [Plant.current, hactive, Plant.yardOf_real, hz.signal]; simp [Signal.reportedAs, h.1])
  unfold Plant.lampPassed
  simp only [hchanged, if_true, Bool.or_true, hlamp]
  have hreverts := hz.reverts (env := env) (c := .reverted) (f := if z.elementUp env .real (.signal n) then .lamp else .link)
    hzslots hs hsl ho hr hn hc
  rw [show (sl.aspectHeld || RouteCause.reverted == .aspectLost) = sl.aspectHeld by simp] at hreverts
  exact hreverts.signalChanged

end

theorem nextCommand_eq (m : Nat) : nextCommand m = if m < 255 then m + 1 else 0 := by
  unfold nextCommand
  split <;> split <;> omega

theorem Plant.Reverts.slot? {sl : Slot} {held : Bool} (h : p.Reverts n y fs sl held w) (hsl : p.slot? sl.number = some sl) :
    w.slot? sl.number = some { sl with state := .locked, aspectHeld := held } ∧ ∀ m, m ≠ sl.number → w.slot? m = p.slot? m := by
  refine ⟨(Plant.slot?_congr h.slots _).trans (p.mapSlot_slot?_self
    (f := fun x => { x with state := .locked, aspectHeld := held }) (fun _ hx => hx) hsl), fun m hm => ?_⟩
  exact (Plant.slot?_congr h.slots m).trans (p.mapSlot_slot?_ne
    (f := fun x => { x with state := .locked, aspectHeld := held }) (fun _ hx => hx) hm)

theorem Plant.signalContext_eq {sl : Slot} (hs : p.session = none) (hslot : p.slotOfSignal env n = some sl) (ho : sl.state = .opened) :
    Plant.signalContext env p .real n = sl.route.map fun m => ⟨m, .opened, sl.tram⟩ := by
  simp only [Plant.signalContext, Plant.active_of_none hs, hslot, Option.bind_some, Slot.context, ho, if_true]

end

/-- What a signal report makes of the part, taken from the signal's own UP link on a quiet plant. -/
theorem exec_signalReport {s : State} {n link k : Nat} {a : Aspect} {l : Lamp} (hup : s.plant.linkUp link = true)
    (hlink : s.env.layout.linkOf (.signal n) = some link) (hquiet : s.plant.quiet s.env) :
    exec (.signalReport link n a l k) s = .next
      { s with plant := (Plant.signalReport s.env (s.plant.goodFrame link) .real n a l k).unmarked } := by
  refine congrArg Host.Outcome.next (State.event_of_quiet
    (Plant.fieldReport_taken (fun q => Plant.signalReport s.env q .real n a l k) hup hlink) ?_)
  exact (Plant.signalReport_calm ..).quiet s.env (Plant.goodFrame_quiet hquiet link)

/-- Settles O54: a report writes its signal and records its faults; it passes to the slot that uses the signal, and a wrong aspect
freezes the yard. -/
theorem signalReportIsTaken : Obligations.SignalReportIsTaken := by
  unfold Obligations.SignalReportIsTaken
  intro s n link g a l k hup hlink hg hquiet current wrong lost failed unused
  let p := s.plant.goodFrame link
  have hgp : p.yard.signal? n = some g := hg
  have hexec : exec (.signalReport link n a l k) s = .next
      { s with plant := (Plant.signalReport s.env p .real n a l k).unmarked } := exec_signalReport hup hlink hquiet
  refine ⟨fun hun hw => ?_, fun hun hw hf => ?_, ?_⟩
  · obtain ⟨z, fs, hz, honly, hslots, hnone, hroom⟩ := Plant.recorded_spec (env := s.env) (l := l) hgp hw
    have hresult := Plant.signalReport_unused (env := s.env) hgp (fun ha => by
      rw [hz] at ha ⊢
      have hses : s.plant.session = none := by
        cases hs : s.plant.session with
        | none => rfl
        | some c => rw [Plant.active_of_some (honly.session.trans hs)] at ha; cases ha
      exact (Plant.slotOfSignal_congr hslots).trans (hun hses)) (hz ▸ honly)
    obtain rfl := hresult.faults
    rw [hexec]
    refine ⟨_, rfl, rfl, hresult.signal.trans (congrArg some Signal.reportedAs_self), hresult.others, hresult.recorded, hresult.freeze,
      hnone, hroom⟩
  · obtain ⟨g', hg', hreported, hlamp, hanswered, hraised⟩ := Plant.signalReport_wrong_signal (env := s.env) (l := l) hgp hw
    have hjust := Plant.signalReport_wrong (env := s.env) (l := l) (p := p) hf hgp hw
    rw [hexec]
    exact ⟨_, g', rfl, rfl, ⟨[], hjust.freeze⟩, hg', hreported, hlamp, hanswered, hraised, hjust.stop⟩
  · intro sl hs hslot hsl ho hc reverts
    have hcontext : Plant.signalContext s.env (p.mapSignal .real n (g.reportedAs a l k)) .real n =
        sl.route.map fun m => ⟨m, .opened, sl.tram⟩ := Plant.signalContext_eq hs hslot ho
    have hwritten : ({ g.reportedAs a l k g with commanded := .stop, command := nextCommand (g.reportedAs a l k g).command } : Signal) =
        { g with
          commanded := .stop, command := if g.command < 255 then g.command + 1 else 0, reported := some a
          lamp := some l, answered := some k, wrongRaised := if current then false else g.wrongRaised } := by
      have haspect : a = g.commanded ∨ a = .stop := by cases a <;> simp [hc]
      rw [Signal.reportedAs_self, ← nextCommand_eq]
      simp only [haspect, and_true]
      rfl
    have hreverts : ∀ held kind check (fs : FaultList), p.Reverts n (g.reportedAs a l k g) fs sl held (Plant.signalReport s.env p .real n a l k) →
        (s.plant.yard.faults.records.length < 16 → kind = .aspectLost ∨ s.plant.yard.faults.holdsOpen kind (.signal n) = false →
          fs.records = s.plant.yard.faults.records ++ [(p.mapSignal .real n (g.reportedAs a l k)).faultRecord kind (.signal n)
            (sl.route.map fun m => ⟨m, .opened, sl.tram⟩) check]) → reverts held kind check := by
      intro held kind check fs h hrecords
      obtain ⟨hself, hother⟩ := h.slot? hsl
      refine ⟨_, hexec, rfl, hself, hother, h.only.signal.trans (congrArg some hwritten), h.only.others, h.only.recorded, h.only.freeze,
        fun hroom hkind => ⟨(p.mapSignal .real n (g.reportedAs a l k)).faultRecord kind (.signal n)
          (sl.route.map fun m => ⟨m, .opened, sl.tram⟩) check, ?_, rfl, rfl, rfl, rfl, rfl⟩⟩
      exact (congrArg FaultList.records h.only.faults).trans (hrecords hroom hkind)
    refine ⟨fun hl => hreverts _ _ _ _ (Plant.signalReport_loses (env := s.env) (p := p) hs hslot hsl ho hgp hc hl) fun hroom _ => ?_,
      fun hf => hreverts _ _ _ _ (Plant.signalReport_failed (env := s.env) (p := p) hs hslot hsl ho hgp hc hf) fun hroom hkind => ?_⟩
    · rw [hcontext, Plant.handFault_records (p := p.mapSignal .real n (g.reportedAs a l k)) hroom]
      rfl
    · have hnone := hkind.resolve_left (by decide)
      have hopen : ¬((p.mapSignal .real n (g.reportedAs a l k)).yard.faults.holdsOpen .lampFailed (.signal n) = true) := by
        rw [show (p.mapSignal .real n (g.reportedAs a l k)).yard.faults = s.plant.yard.faults from rfl, hnone]
        exact Bool.false_ne_true
      rw [hcontext, Plant.handFaultOnce_real, if_neg hopen,
        Plant.handFault_records (p := p.mapSignal .real n (g.reportedAs a l k)) hroom]
      rfl

end Sys2Proof.Machine
end

section
/-! SUPPORT. Samples, restores and throw ends of the real yard that no slot takes part in (R26 to R31). -/

namespace Sys2Proof.Machine

open Sys2Proof

section
variable {env : Env} {p q w : Plant} {n link v : Nat} {x : Point} {th : Throw}

/-! ## Links and the conditions of a drive -/

theorem Plant.linkUp_of_links (h : q.links.map Link.unsent = p.links.map Link.unsent) (k : Nat) : q.linkUp k = p.linkUp k := by
  have hlink : (q.link? k).map Link.unsent = (p.link? k).map Link.unsent := by
    rw [Plant.link?, Plant.link?, ← findBy_map Link.number Link.unsent (fun _ => rfl) k, h,
      findBy_map Link.number Link.unsent (fun _ => rfl) k]
  have hstate : ∀ o : Option Link, (o.any fun l => l.state == .up) = ((o.map Link.unsent).any fun l => l.state == .up) := fun o => by
    cases o <;> rfl
  rw [Plant.linkUp, Plant.linkUp, hstate, hlink, ← hstate]

theorem Plant.elementUp_real_congr (h : ∀ k, q.linkUp k = p.linkUp k) (e : FaultElement) :
    q.elementUp env .real e = p.elementUp env .real e := by
  simp only [Plant.elementUp, Plant.linkUpFor, h]

theorem Plant.mayDrive_real_congr (hlinks : ∀ k, q.linkUp k = p.linkUp k) (htracks : q.yard.tracks = p.yard.tracks)
    (hfreeze : q.freeze = p.freeze) (hsession : q.session = p.session) :
    Plant.mayDrive env q .real x = Plant.mayDrive env p .real x := by
  have htrack : q.yard.trackClear = p.yard.trackClear := by
    funext k
    simp only [Yard.trackClear, Yard.trackState, Yard.track?, htracks]
  simp only [Plant.mayDrive, Plant.pointClear, Plant.trackClear, Plant.elementUp_real_congr hlinks, Plant.yardOf_real, htrack,
    Plant.frozen, hfreeze, hsession]

/-! ## Two changes of one point -/

theorem updBy_updBy {α : Type} {key : α → Nat} {f g : α → α} (hf : ∀ x, key (f x) = key x) (n : Nat) (l : List α) :
    updBy key n g (updBy key n f l) = updBy key n (fun x => g (f x)) l := by
  simp only [updBy, List.map_map]
  refine List.map_congr_left fun x _ => ?_
  by_cases h : key x = n
  · simp [h, hf]
  · simp [h]

theorem Plant.mapPoint_mapPoint (p : Plant) (n : Nat) {f g : Point → Point} (hf : ∀ x, (f x).number = x.number) :
    (p.mapPoint .real n f).mapPoint .real n g = p.mapPoint .real n fun x => g (f x) :=
  (congrArg (fun l => { p with yard := { p.yard with points := l } }) (updBy_updBy (key := Point.number) (g := g) hf n p.yard.points) :)

/-! ## A sample (R26) -/

theorem Throw.sample_eq (th : Throw) (v : Nat) : th.sample v =
    { th with
      samples := th.samples + 1
      peak := if th.peak < v then v else th.peak
      obstructionRun := if th.obstruction < v then th.obstructionRun + 1 else 0
      openRun := if 6 ≤ th.samples + 1 ∧ v < th.openCircuit then th.openRun + 1 else 0 } := by
  have hpeak : max th.peak v = if th.peak < v then v else th.peak := by split <;> omega
  simp only [Throw.sample, hpeak, Bool.and_eq_true, decide_eq_true_eq]
  rfl

/-- A point whose throw a sample has been taken of. -/
def Point.sampled (x : Point) (th : Throw) (v : Nat) : Point := { x with throw := some (th.sample v) }

/-- What a sample of a throw makes of the plant, by the runs that it completes (R26 to R29). -/
theorem Plant.currentSample_eq {sd : Side} (hx : (p.yardOf sd).point? n = some x) (ht : x.throw = some th)
    (hst : x.state = .moving ∨ x.state = .restoring) :
    Plant.currentSample env p sd n v =
      let q := p.mapPoint sd n fun y => { y with throw := some (th.sample v) }
      if 5 ≤ (th.sample v).obstructionRun then
        if x.state = .moving then
          Plant.driveOn env q sd (x.sampled th v) (th.sample v) (th.sample v).target.opposite true
        else Plant.throwEnd env (Plant.sendStop env q sd n) sd n .obstructed x.rest (some .throwObstructed)
      else if 10 ≤ (th.sample v).openRun then
        Plant.throwEnd env (Plant.sendStop env q sd n) sd n .motorOpen x.rest (some .motorOpen)
      else q := by
  have hthrows : (x.state == .moving || x.state == .restoring) = true := by simpa using hst
  simp only [Plant.currentSample, hx, ht, hthrows, if_true]
  rfl

/-- While no run is complete, a sample writes the throw alone. -/
theorem Plant.currentSample_running {sd : Side} (hx : (p.yardOf sd).point? n = some x) (ht : x.throw = some th)
    (hst : x.state = .moving ∨ x.state = .restoring) (hobs : (th.sample v).obstructionRun < 5) (hopen : (th.sample v).openRun < 10) :
    Plant.currentSample env p sd n v = p.mapPoint sd n fun y => { y with throw := some (th.sample v) } :=
  (Plant.currentSample_eq hx ht hst).trans ((if_neg (by omega)).trans (if_neg (by omega)))

/-! ## The end of a throw that no slot takes part in -/

theorem Plant.PointOnly.sendStop (h : p.PointOnly n x w) (k : Nat) : p.PointOnly n x (Plant.sendStop env w .real k) := by
  have hkept := w.sendStop_tablesKept env k
  refine ⟨?_, ?_, ?_, hkept.slots.trans h.slots, ?_, h.cascade.sendStop⟩
  · rw [hkept.yard]; exact h.point
  · rw [hkept.yard]; exact h.others
  · rw [hkept.yard]; exact h.yard
  · exact (h.cascade.sendStop (env := env) (sd := .real) (n := k)).freeze

/-- The end of a throw on a plant of which one point has been written. -/
theorem Plant.PointOnly.over {c : ThrowCause} {st : PointState} {k : Option FaultKind} (h : p.PointOnly n x w) (ht : x.throw = some th)
    (hc : x.claim = none) (hu : p.used = []) :
    let d := (p.now - th.startedAt) / 100
    let z := (Plant.throwEnd env w .real n c st k).unmarked
    z.yard.point? n = some (x.ended st d th.peak) ∧ (∀ m, m ≠ n → z.yard.point? m = p.yard.point? m) ∧
      z.yard = { p.yard with points := z.yard.points, faults := z.yard.faults } ∧ (k = none → z.yard.faults = p.yard.faults) ∧
      ∀ f, k = some f → p.yard.faults.records.length < 16 →
        ∃ r, z.yard.faults.records = p.yard.faults.records ++ [r] ∧ r.kind = f ∧ r.element = some (.point n) ∧
          r.check = some (.throwData th.target x.attempts th.peak d) := by
  intro d z
  have hnow : w.now = p.now := h.cascade.now
  have hover : w.ThrowOver n st x th k z := Plant.throwEnd_over (env := env) h.point ht hc ((Plant.used_congr h.slots).trans hu)
  have hself := hover.point?_self h.point
  have hfaults := h.faults
  have hrecorded := hover.recorded
  rw [hnow] at hself hrecorded
  refine ⟨hself, fun m hm => (hover.point?_ne hm).trans (h.others m hm), ?_, fun hk => (hover.unrecorded hk).trans hfaults,
    fun f hf hroom => ?_⟩
  · have hyard : z.yard = { w.yard with points := z.yard.points, faults := z.yard.faults } :=
      hover.yard.trans (congrArg (fun l => { w.yard with points := l, faults := z.yard.faults }) (congrArg Yard.points hover.yard :).symm :)
    exact hyard.trans (congrArg (fun y : Yard => { y with points := z.yard.points, faults := z.yard.faults }) h.yard :)
  · have := hrecorded f hf (by rw [hfaults]; exact hroom)
    rwa [hfaults] at this

/-! ## A position detected during a throw (R28 to R31) -/

/-- The restore position of a throw detected: a retry pause, or the end of the throw (R28, R29). -/
theorem Plant.pointDetection_restored (hx : p.yard.point? n = some x) (ht : x.throw = some th) (hst : x.state = .restoring) :
    Plant.pointDetection env p .real n (some th.target.opposite) =
      let q := p.mapPoint .real n fun y => { y with detected := some th.target.opposite, attempts := x.attempts + 1 }
      if x.attempts + 1 ≤ th.retries then
        q.mapPoint .real n fun y => { y with state := .retryWait, throw := some { th with pauseEnd := some (p.now + 1000) } }
      else Plant.throwEnd env q .real n .obstructed th.target.opposite.state (some .throwObstructed) := by
  have hx' : (p.yardOf .real).point? n = some x := hx
  have hnumber : x.number = n := findBy_key _ hx
  have hq : (p.mapPoint .real n fun y => { y with detected := some th.target.opposite }).mapPoint .real n
      (fun y => { y with attempts := x.attempts + 1 }) =
      p.mapPoint .real n fun y => { y with detected := some th.target.opposite, attempts := x.attempts + 1 } :=
    Plant.mapPoint_mapPoint _ _ fun _ => rfl
  simp only [Plant.pointDetection, hx', ht, Plant.detectThrowing, hst, hnumber, if_true]
  rw [hq]
  rfl

/-- The target of a throw detected while it runs ends the throw (R30, R31). -/
theorem Plant.pointDetection_completed (sd : Side) (hx : (p.yardOf sd).point? n = some x) (ht : x.throw = some th)
    (hst : x.state = .moving) :
    Plant.pointDetection env p sd n (some th.target) =
      Plant.throwEnd env (p.mapPoint sd n fun y => { y with detected := some th.target }) sd n .completed th.target.state
        (if x.attempts = 0 then none else some .throwRetried) := by
  have hnumber : x.number = n := findBy_key _ hx
  simp only [Plant.pointDetection, hx, ht, Plant.detectThrowing, hst, hnumber, if_true]
  cases x.attempts <;> rfl

end

/-! ## The commands -/

section
variable {s : State} {n link v : Nat} {det : Option Position}

/-- A sample taken from the point's own UP link that leaves nothing to be made. -/
theorem exec_currentSample_settled {z : Plant} (hup : s.plant.linkUp link = true) (hlink : s.env.layout.linkOf (.point n) = some link)
    (hz : Plant.currentSample s.env (s.plant.goodFrame link) .real n v = z) (hs : z.settledAlready) :
    exec (.currentSample link n v) s = .next { s with plant := z } :=
  congrArg Host.Outcome.next (State.event_of_settled ((Plant.fieldReport_taken
    (fun q => Plant.currentSample s.env q .real n v) hup hlink).trans hz) hs)

/-- A sample taken from the point's own UP link on a quiet plant. -/
theorem exec_currentSample (hup : s.plant.linkUp link = true) (hlink : s.env.layout.linkOf (.point n) = some link)
    (hquiet : s.plant.quiet s.env) : exec (.currentSample link n v) s = .next
      { s with plant := (Plant.currentSample s.env (s.plant.goodFrame link) .real n v).unmarked } :=
  congrArg Host.Outcome.next (State.event_of_quiet (Plant.fieldReport_taken
    (fun q => Plant.currentSample s.env q .real n v) hup hlink)
    ((Plant.Cascade.refl _).currentSample.quiet (Plant.goodFrame_quiet hquiet link)))

/-- A position taken from the point's own UP link that leaves nothing to be made. -/
theorem exec_pointDetection_settled {z : Plant} (hup : s.plant.linkUp link = true) (hlink : s.env.layout.linkOf (.point n) = some link)
    (hz : Plant.pointDetection s.env (s.plant.goodFrame link) .real n det = z) (hs : z.settledAlready) :
    exec (.pointDetectionReport link n det) s = .next { s with plant := z } :=
  congrArg Host.Outcome.next (State.event_of_settled ((Plant.fieldReport_taken
    (fun q => Plant.pointDetection s.env q .real n det) hup hlink).trans hz) hs)

end

/-- A plant advanced in a session: the copies stand but for their clock, and so do the simulated drives. -/
theorem Plant.advance_session {p : Plant} {c : Session} (h : p.session = some c) (ms : Nat) :
    ∃ base clock, (p.advance ms).session = some { c with base := base, copy := { c.copy with clock := clock } } :=
  ⟨_, _, by rw [Plant.advance, h]; rfl⟩

end Sys2Proof.Machine
end

section
/-! SUPPORT. A slot that becomes LOCKED and opens: what its opening looks at and what it writes (R67, R68). -/

namespace Sys2Proof.Machine

open Sys2Proof

section
variable {env : Env} {p q w : Plant} {n k : Nat} {sl : Slot} {r : RouteRecord}

/-! ## What the opening conditions look at -/

/-- The elements of the yard in force, its links and the freeze are the same. -/
structure Plant.SameField (p q : Plant) : Prop where
  points : q.current.points = p.current.points
  tracks : q.current.tracks = p.current.tracks
  signals : q.current.signals = p.current.signals
  active : q.active = p.active
  freeze : q.freeze = p.freeze
  links : q.links.map Link.unsent = p.links.map Link.unsent

theorem Plant.SameField.refl (p : Plant) : p.SameField p := ⟨rfl, rfl, rfl, rfl, rfl, rfl⟩

theorem Plant.SameField.trans (h : p.SameField q) (h' : q.SameField w) : p.SameField w :=
  ⟨h'.points.trans h.points, h'.tracks.trans h.tracks, h'.signals.trans h.signals, h'.active.trans h.active, h'.freeze.trans h.freeze,
    h'.links.trans h.links⟩

theorem Plant.SameField.of_current (hc : q.current = p.current) (ha : q.active = p.active) (hf : q.freeze = p.freeze)
    (hl : q.links = p.links) : p.SameField q := ⟨by rw [hc], by rw [hc], by rw [hc], ha, hf, by rw [hl]⟩

theorem Plant.SameField.report {sd : Side} {b : ReportBody} (h : p.SameField q) : p.SameField (q.report sd b) :=
  h.trans (.of_current (by simp) (by simp) (by simp) (by simp))

theorem Plant.SameField.mapSlot {f : Slot → Slot} (h : p.SameField q) : p.SameField (q.mapSlot n f) :=
  h.trans (.of_current (by simp) (by simp) rfl rfl)

theorem Plant.SameField.routeState {st : SlotState} {c : RouteCause} {f : FailedCondition} {b : Bool} (h : p.SameField q) :
    p.SameField (q.routeState sl st c f b) := h.report

theorem Plant.SameField.berths (h : p.SameField q) (h' : q.BerthsOnly q.active w) : p.SameField w := by
  have hactive : w.active = q.active := by
    have := congrArg Option.isSome h'.session
    simp only [Option.isSome_map] at this
    simp only [Plant.active, this]
  have hun := h'.unberthed
  exact h.trans ⟨(congrArg Yard.points hun :), (congrArg Yard.tracks hun :), (congrArg Yard.signals hun :), hactive,
    (congrArg Plant.freeze h'.rest :), congrArg (List.map Link.unsent) (congrArg Plant.links h'.rest :)⟩

theorem Plant.SameField.point? (h : p.SameField q) (k : Nat) : q.current.point? k = p.current.point? k := by
  rw [Yard.point?, h.points]
  rfl

theorem Plant.SameField.signal? (h : p.SameField q) (k : Nat) : q.current.signal? k = p.current.signal? k := by
  rw [Yard.signal?, h.signals]
  rfl

/-- An element's link is UP as before when the links are. -/
theorem Plant.elementUp_congr (ha : q.active = p.active) (hlink : ∀ k, q.linkUp k = p.linkUp k) (e : FaultElement) :
    q.elementUp env q.active e = p.elementUp env p.active e := by
  have hup : ∀ k, q.linkUpFor q.active k = p.linkUpFor p.active k := fun k => by
    cases hs : p.session with
    | none =>
      have hreal := Plant.active_of_none hs
      rw [ha, hreal]
      exact hlink k
    | some c =>
      have hcopy := Plant.active_of_some hs
      have hq : q.session.isSome = true := Plant.session_of_copy_active ((ha.trans hcopy).symm)
      rw [ha, hcopy]
      simp [Plant.linkUpFor, hs, hq]
  simp only [Plant.elementUp, hup]

theorem Plant.SameField.elementUp (h : p.SameField q) (e : FaultElement) : q.elementUp env q.active e = p.elementUp env p.active e :=
  Plant.elementUp_congr h.active (Plant.linkUp_of_links h.links) e

theorem Plant.SameField.trackClear (h : p.SameField q) (k : Nat) : Plant.trackClear env q q.active k = Plant.trackClear env p p.active k := by
  have htrack : q.current.trackClear k = p.current.trackClear k := by
    simp only [Yard.trackClear, Yard.trackState, Yard.track?, h.tracks]
  rw [Plant.trackClear, Plant.trackClear, h.elementUp]
  exact congrArg (· && _) htrack

/-- The opening conditions hold of a plant as of one with the same field. -/
theorem Plant.SameField.mayOpen (h : p.SameField q) (sl : Slot) : Plant.mayOpen env q sl = Plant.mayOpen env p sl := by
  have hholds : ∀ m z, Plant.holds env q m z = Plant.holds env p m z := fun m z => by
    simp only [Plant.holds, Plant.pointLies, h.point?, h.elementUp]
  have hfrozen : q.frozen = p.frozen := by rw [Plant.frozen, h.freeze]; rfl
  simp only [Plant.mayOpen, funext (hholds _), h.elementUp, h.signal?, hfrozen, funext fun k => h.trackClear (env := env) k]

/-- The opening conditions of a LOCKED slot (R68). -/
theorem Plant.mayOpen_iff (hr : env.slotRoute sl = some r) (hst : sl.state = .locked) : Plant.mayOpen env p sl = true ↔
    (∀ z ∈ r.required, ∃ x, p.current.point? z.1 = some x ∧ x.state = z.2.state ∧ (∃ k ∈ x.locks, k.slot = sl.number) ∧
      p.elementUp env p.active (.point z.1) = true) ∧
    (∀ j ∈ r.tracks, Plant.trackClear env p p.active j = true) ∧ p.elementUp env p.active (.signal r.signal) = true ∧
    (p.current.signal? r.signal).any (fun g => g.lamp == some .ok) = true ∧ p.freeze = none ∧ sl.aspectHeld = false := by
  have hholds : ∀ z : Nat × Position, Plant.holds env p sl.number z = true ↔ ∃ x, p.current.point? z.1 = some x ∧ x.state = z.2.state ∧
      (∃ k ∈ x.locks, k.slot = sl.number) ∧ p.elementUp env p.active (.point z.1) = true := fun z => by
    cases hx : p.current.point? z.1 with
    | none => simp [Plant.holds, hx]
    | some x =>
      have hnumber : x.number = z.1 := findBy_key _ hx
      simp [Plant.holds, hx, Plant.pointLies, Point.lies, hnumber, and_comm, and_assoc]
  have hfrozen : p.frozen = false ↔ p.freeze = none := by
    cases hf : p.freeze <;> simp [Plant.frozen, hf]
  simp only [Plant.mayOpen, hr, Option.any_some, hst, beq_self_eq_true, Bool.true_and, Bool.and_eq_true, List.all_eq_true, hholds,
    Bool.not_eq_true', hfrozen, and_assoc]

/-! ## Opening -/

/-- What the opening of a slot makes of the plant (R68). -/
structure Plant.Opened (n : Nat) (r : RouteRecord) (p q : Plant) : Prop where
  slots : q.slots = (p.mapSlot n fun x => { x with state := .opened, openedOnce := true }).slots
  points : q.current.points = p.current.points
  tracks : q.current.tracks = p.current.tracks
  commanded : ∀ g, q.current.signal? r.signal = some g → g.commanded = .proceed
  active : q.active = p.active
  queue : q.queue = p.queue

theorem Plant.Opened.report {sd : Side} {b : ReportBody} (h : p.Opened n r q) : p.Opened n r (q.report sd b) := by
  refine ⟨(Plant.report_slots ..).trans h.slots, ?_, ?_, ?_, (Plant.report_active ..).trans h.active,
    (Plant.report_queue ..).trans h.queue⟩ <;> rw [Plant.report_current]
  · exact h.points
  · exact h.tracks
  · exact h.commanded

theorem Plant.Opened.berths (h : p.Opened n r q) (h' : q.BerthsOnly q.active w) : p.Opened n r w := by
  have hkept := (Plant.SameField.refl q).berths h'
  refine ⟨h'.slots.trans h.slots, hkept.points.trans h.points, hkept.tracks.trans h.tracks, fun g hg => ?_, hkept.active.trans h.active,
    (congrArg Plant.queue h'.rest :).trans h.queue⟩
  rw [hkept.signal?] at hg
  exact h.commanded g hg

theorem Plant.tryOpen_opens (hsl : p.slot? n = some sl) (hr : env.slotRoute sl = some r) (hmay : Plant.mayOpen env p sl = true) :
    p.Opened n r (Plant.tryOpen env p n) := by
  let z := if sl.openedOnce then p else p.startRun sl r
  have hrun : (p.startRun sl r).current = p.current := by
    rw [Plant.current, Plant.startRun, Plant.mapSession_active, Plant.mapSession_yardOf p fun _ => by rfl]
    rfl
  have hz : z.current = p.current ∧ z.slots = p.slots ∧ z.active = p.active ∧ z.queue = p.queue := by
    unfold z
    split
    · exact ⟨rfl, rfl, rfl, rfl⟩
    · exact ⟨hrun, rfl, Plant.mapSession_active .., rfl⟩
  obtain ⟨hcurrent, hslots, hactive, hqueue⟩ := hz
  have hcommands := Plant.writeAspect_commands env z r.signal .proceed
  let y := (Plant.writeAspect env z z.active r.signal .proceed).mapSlot n fun x => { x with state := .opened, openedOnce := true }
  have hy : p.Opened n r y := by
    refine ⟨?_, ?_, ?_, fun g hg => ?_, (Plant.mapSlot_active ..).trans (hcommands.active.trans hactive),
      hcommands.queue.trans hqueue⟩
    · simp only [y, Plant.mapSlot, hcommands.slots, hslots]
    · rw [Plant.mapSlot_current, hcommands.current, hcurrent]
    · rw [Plant.mapSlot_current, hcommands.current, hcurrent]
    · rw [Plant.mapSlot_current] at hg
      exact hcommands.commanded g hg
  have hopen : Plant.tryOpen env p n =
      Plant.routeState (if sl.openedOnce then y else Plant.routeOpened env y sl) sl .opened .opened .none sl.aspectHeld := by
    simp only [Plant.tryOpen, hsl, hmay, hr]
    rfl
  rw [hopen]
  refine .report ?_
  split
  · exact hy
  · exact hy.berths (Plant.routeOpened_berthsOnly ..)

theorem Plant.tryOpen_closed (hsl : p.slot? n = some sl) (hmay : Plant.mayOpen env p sl = false) : Plant.tryOpen env p n = p := by
  simp only [Plant.tryOpen, hsl, hmay]

/-! ## Becoming LOCKED (R67) -/

/-- A slot that has become LOCKED, before its opening is tried. -/
def Plant.lockedSlot (env : Env) (p : Plant) (n : Nat) (sl : Slot) (c : RouteCause) : Plant :=
  (Plant.routeLocked env (p.mapSlot n fun x => { x with state := .locked, claimed := [], timer := .off })
    { sl with state := .locked }).routeState (if c = .taken then { sl with state := .free } else sl) .locked c .none sl.aspectHeld

theorem Plant.enterLocked_eq {c : RouteCause} (hsl : p.slot? n = some sl) :
    Plant.enterLocked env p n c = Plant.tryOpen env (Plant.lockedSlot env p n sl c) n := by
  simp only [Plant.enterLocked, hsl]
  rfl

theorem Plant.lockedSlot_field (env : Env) (p : Plant) (n : Nat) (sl : Slot) (c : RouteCause) :
    p.SameField (Plant.lockedSlot env p n sl c) :=
  .routeState (((Plant.SameField.refl p).mapSlot).berths (Plant.routeLocked_berthsOnly ..))

theorem Plant.lockedSlot_slots (env : Env) (p : Plant) (n : Nat) (sl : Slot) (c : RouteCause) : (Plant.lockedSlot env p n sl c).slots =
    (p.mapSlot n fun x => { x with state := .locked, claimed := [], timer := .off }).slots :=
  (Plant.routeState_slots ..).trans (Plant.routeLocked_berthsOnly ..).slots

theorem Plant.lockedSlot_self {c : RouteCause} (hsl : p.slot? n = some sl) :
    (Plant.lockedSlot env p n sl c).slot? n = some { sl with state := .locked, claimed := [], timer := .off } :=
  (Plant.slot?_congr (Plant.lockedSlot_slots ..) n).trans (p.mapSlot_slot?_self
    (f := fun x => { x with state := .locked, claimed := [], timer := .off }) (fun _ hx => hx) hsl)

/-- A slot that becomes LOCKED opens at once when the opening conditions hold, and else stays LOCKED (R67, R68). -/
theorem Plant.enterLocked_spec {c : RouteCause} (hsl : p.slot? n = some sl) (hr : env.slotRoute sl = some r) :
    let y : Slot := { sl with state := .locked, claimed := [], timer := .off }
    let w := Plant.lockedSlot env p n sl c
    (Plant.mayOpen env p y = true → w.Opened n r (Plant.enterLocked env p n c)) ∧
      (Plant.mayOpen env p y = false → Plant.enterLocked env p n c = w) := by
  intro y w
  have hself : w.slot? n = some y := Plant.lockedSlot_self hsl
  have hmay : Plant.mayOpen env w y = Plant.mayOpen env p y := (Plant.lockedSlot_field env p n sl c).mayOpen y
  rw [Plant.enterLocked_eq hsl, ← hmay]
  exact ⟨fun h => Plant.tryOpen_opens hself hr h, fun h => Plant.tryOpen_closed hself h⟩

end

end Sys2Proof.Machine
end

section
/-! SUPPORT. The last throw that a SETTING slot claims (R62, R67, R68). -/

namespace Sys2Proof.Machine

open Sys2Proof

section
variable {env : Env} {p q w : Plant} {n m : Nat} {x : Point} {th : Throw} {sl : Slot} {r : RouteRecord}

/-! ## The end of a throw that a slot claims -/

/-- Of the real yard only points and faults are written, and no slot. -/
structure Plant.PointsOnly (p q : Plant) : Prop where
  yard : q.yard = { p.yard with points := q.yard.points, faults := q.yard.faults }
  slots : q.slots = p.slots
  session : q.session = p.session
  freeze : q.freeze = p.freeze
  links : q.links = p.links

theorem Plant.PointsOnly.refl (p : Plant) : p.PointsOnly p := ⟨rfl, rfl, rfl, rfl, rfl⟩

theorem Plant.PointsOnly.mapPoint {f : Point → Point} (h : p.PointsOnly q) : p.PointsOnly (q.mapPoint .real n f) where
  yard := (congrArg (fun y : Yard => { y with points := (q.mapPoint .real n f).yard.points }) h.yard :)
  slots := h.slots
  session := h.session
  freeze := h.freeze
  links := h.links

theorem Plant.PointsOnly.handFault {k : FaultKind} {e : FaultElement} {c : Option RouteContext} {d : Option CheckData}
    (h : p.PointsOnly q) :
    p.PointsOnly (q.handFault .real k e c d) ∧ (q.handFault .real k e c d).yard.points = q.yard.points := by
  have hreal := q.handFault_real k e c d
  generalize q.handFault .real k e c d = z at hreal
  have hyard : z.yard = { q.yard with faults := z.yard.faults } := by rw [hreal]
  have hpoints : z.yard.points = q.yard.points := (congrArg Yard.points hyard :)
  refine ⟨⟨?_, by rw [hreal]; exact h.slots, by rw [hreal]; exact h.session, by rw [hreal]; exact h.freeze,
    by rw [hreal]; exact h.links⟩, hpoints⟩
  rw [hpoints]
  exact hyard.trans (congrArg (fun y : Yard => { y with points := q.yard.points, faults := z.yard.faults }) h.yard :)

theorem Plant.PointsOnly.tracks (h : p.PointsOnly q) : q.yard.tracks = p.yard.tracks := (congrArg Yard.tracks h.yard :)
theorem Plant.PointsOnly.signals (h : p.PointsOnly q) : q.yard.signals = p.yard.signals := (congrArg Yard.signals h.yard :)

/-- What the end of a throw writes before a slot takes it: the point, and the fault handed on with the context of the slot. -/
def Plant.endClaimed (p : Plant) (n : Nat) (st : PointState) (x : Point) (th : Throw) (m : Nat) : Option FaultKind → Plant
  | none => p.mapPoint .real n fun y => y.ended st ((p.now - th.startedAt) / 100) th.peak
  | some k => (p.mapPoint .real n fun y => y.ended st ((p.now - th.startedAt) / 100) th.peak).handFault .real k (.point n)
      ((p.slot? m).bind Slot.context) (some (.throwData th.target x.attempts th.peak ((p.now - th.startedAt) / 100)))

theorem Plant.endClaimed_spec (st : PointState) (k : Option FaultKind) (hx : p.yard.point? n = some x) :
    p.PointsOnly (p.endClaimed n st x th m k) ∧
      (p.endClaimed n st x th m k).yard.point? n = some (x.ended st ((p.now - th.startedAt) / 100) th.peak) := by
  have hwritten := (Plant.PointsOnly.refl p).mapPoint (n := n) (f := fun y => y.ended st ((p.now - th.startedAt) / 100) th.peak)
  have hself : (p.mapPoint .real n fun y => y.ended st ((p.now - th.startedAt) / 100) th.peak).yard.point? n =
      some (x.ended st ((p.now - th.startedAt) / 100) th.peak) := by
    rw [p.mapPoint_point?_self (f := fun y => y.ended st ((p.now - th.startedAt) / 100) th.peak) fun _ => rfl, hx]
    rfl
  cases k with
  | none => exact ⟨hwritten, hself⟩
  | some k =>
    obtain ⟨hz, hpoints⟩ := hwritten.handFault (k := k) (e := .point n) (c := (p.slot? m).bind Slot.context)
      (d := some (.throwData th.target x.attempts th.peak ((p.now - th.startedAt) / 100)))
    refine ⟨hz, ?_⟩
    rw [Plant.endClaimed, Yard.point?, hpoints]
    exact hself

/-- The end of a throw that a slot claims: what it writes, and then the slot takes it (R31). -/
theorem Plant.throwEnd_claimed {c : ThrowCause} {st : PointState} {k : Option FaultKind} (hs : p.session = none)
    (hx : p.yard.point? n = some x) (ht : x.throw = some th) (hc : x.claim = some m) :
    ∃ b, Plant.throwEnd env p .real n c st k =
      (Plant.pointChanged env ((Plant.slotThrowEnd env (p.endClaimed n st x th m k) m n c).report .real b) .real n).askScan .real := by
  have hx' : (p.yardOf .real).point? n = some x := hx
  have hkept := (p.endClaimed_spec (th := th) (m := m) st k hx).1
  have hactive : Side.real = (p.endClaimed n st x th m k).active := (Plant.active_of_none (hkept.session.trans hs)).symm
  have hend : Plant.throwEnd env p .real n c st k = (Plant.pointChanged env
      ((if Side.real = (p.endClaimed n st x th m k).active then Plant.slotThrowEnd env (p.endClaimed n st x th m k) m n c
        else p.endClaimed n st x th m k).report .real
        (.throwEnded n th.target c st x.attempts ((p.now - th.startedAt) / 100) th.peak)) .real n).askScan .real := by
    cases k <;> simp only [Plant.throwEnd, hx', ht, hc] <;> rfl
  rw [if_pos hactive] at hend
  exact ⟨_, hend⟩

/-! ## A change of a point that no slot has to take -/

theorem Plant.pointChanged_fixed {sd : Side} (h : ∀ k ∈ Plant.slotsOfPoint env p n, Plant.slotPoint env p n k = p) :
    (Plant.pointChanged env p sd n).unmarked = p.unmarked := by
  have hfold : (Plant.slotsOfPoint env p n).foldl (fun q k => Plant.slotPoint env q n k) p = p :=
    List.foldlRecOn (motive := fun z => z = p) _ _ rfl fun z hz k hk => by rw [hz, h k hk]
  simp only [Plant.pointChanged, hfold, ite_self]
  split
  · exact Plant.askScan_unmarked ..
  · rfl

/-- No slot is in use but those of one number. -/
def Plant.UsesOnly (m : Nat) (p : Plant) : Prop := ∀ y ∈ p.slots, y.inUse = true → y.number = m

theorem Plant.UsesOnly.of_used (h : p.used = [sl]) : p.UsesOnly sl.number := fun y hy hu => by
  have hmem : y ∈ p.used := List.mem_filter.mpr ⟨hy, hu⟩
  rw [h] at hmem
  rw [List.mem_singleton.mp hmem]

theorem Plant.UsesOnly.same (h : p.UsesOnly m) (hs : q.slots = p.slots) : q.UsesOnly m := fun y hy => h y (hs ▸ hy)

theorem Plant.UsesOnly.mapSlot {f : Slot → Slot} (h : p.UsesOnly m) (hf : ∀ z, z.number = m → (f z).number = m) :
    (p.mapSlot m f).UsesOnly m := by
  intro y hy hu
  obtain ⟨z, hz, rfl⟩ := List.mem_map.mp hy
  by_cases hm : z.number = m
  · simp [hm, hf z hm]
  · simp only [hm, beq_iff_eq, if_false] at hu ⊢
    exact hm (h z hz hu)

theorem Plant.UsesOnly.slotsOfPoint (h : p.UsesOnly m) : ∀ k ∈ Plant.slotsOfPoint env p n, k = m := by
  intro k hk
  obtain ⟨y, hy, rfl⟩ := List.mem_map.mp hk
  have hused := List.mem_filter.mp (List.mem_filter.mp hy).1
  exact h y hused.1 hused.2

/-- A slot that does not stand to open is left when a point lies right. -/
theorem Plant.slotPoint_fixed {pos : Position} (hsl : p.slot? m = some sl) (hr : env.slotRoute sl = some r) (hpos : r.position? n = some pos)
    (hx : p.current.point? n = some x) (hlies : x.lies pos = true) (hmay : Plant.mayOpen env p sl = false) :
    Plant.slotPoint env p n m = p := by
  simp only [Plant.slotPoint, hsl, hr, Option.any_some, hpos, hx, hlies]
  simp only [Bool.not_true, Bool.and_false, Bool.false_eq_true, if_false]
  exact Plant.tryOpen_closed hsl hmay

theorem Plant.mayOpen_of_not_locked (h : sl.state ≠ .locked) : Plant.mayOpen env p sl = false := by
  unfold Plant.mayOpen
  cases env.slotRoute sl <;> simp [h]

/-! ## The last throw of a SETTING slot (R62) -/

/-- A slot that the end of its last throw makes LOCKED. -/
def Slot.whenLocked (sl : Slot) : Slot := { sl with state := .locked, claimed := [], timer := .off }

/-- A point that a slot has locked in a position at the end of its throw. -/
def Point.lockedFor (x : Point) (r : RouteRecord) (n m : Nat) (pos : Position) : Point :=
  { x with
    claim := if x.claim = some m then none else x.claim
    locks := x.locks ++ [⟨m, markOf r n, pos⟩] }

/-- What the last throw of a slot writes before the slot becomes LOCKED. -/
def Plant.lastLocked (p : Plant) (sl : Slot) (r : RouteRecord) (n : Nat) (pos : Position) : Plant :=
  (p.lockPoint sl r n pos).mapSlot sl.number fun x => { x with claimed := [] }

theorem Plant.slotThrowEnd_last {pos : Position} (hsl : p.slot? sl.number = some sl) (hst : sl.state = .setting)
    (hclaimed : sl.claimed = [(n, pos)]) (hr : env.slotRoute sl = some r) (hpos : r.position? n = some pos) :
    Plant.slotThrowEnd env p sl.number n .completed = Plant.enterLocked env (p.lastLocked sl r n pos) sl.number .settingDone := by
  have hleft : sl.claimed.filter (fun x => x.1 != n) = [] := by simp [hclaimed]
  simp only [Plant.slotThrowEnd, hsl, hst, if_true, hr, hpos, hleft, Option.getD_some, List.isEmpty_nil]
  rfl

theorem Plant.lastLocked_spec {pos : Position} (hs : p.session = none) (hx : p.yard.point? n = some x) (hsl : p.slot? sl.number = some sl) :
    (p.lastLocked sl r n pos).yard = { p.yard with points := (p.lastLocked sl r n pos).yard.points } ∧
      (p.lastLocked sl r n pos).yard.point? n = some (x.lockedFor r n sl.number pos) ∧
      (p.lastLocked sl r n pos).slots = (p.mapSlot sl.number fun x => { x with claimed := [] }).slots ∧
      (p.lastLocked sl r n pos).slot? sl.number = some { sl with claimed := [] } ∧ (p.lastLocked sl r n pos).session = p.session ∧
      (p.lastLocked sl r n pos).freeze = p.freeze ∧ (p.lastLocked sl r n pos).links = p.links := by
  have hactive : p.active = .real := Plant.active_of_none hs
  have hlock : p.lockPoint sl r n pos = p.mapPoint .real n fun x => x.lockedFor r n sl.number pos := by
    rw [Plant.lockPoint, hactive]
    rfl
  have hself : (p.mapPoint .real n fun x => x.lockedFor r n sl.number pos).yard.point? n = some (x.lockedFor r n sl.number pos) := by
    rw [p.mapPoint_point?_self (f := fun x => x.lockedFor r n sl.number pos) fun _ => rfl, hx]
    rfl
  rw [Plant.lastLocked, hlock]
  exact ⟨rfl, hself, rfl, p.mapSlot_slot?_self (f := fun x => { x with claimed := [] }) (fun _ hx => hx) hsl, rfl, rfl, rfl⟩

/-- The change of a point that lies right, passed to the one slot in use, which does not stand to open. -/
theorem Plant.lastPassed {pos : Position} {v : Plant} (hu : v.UsesOnly m) (hsl : v.slot? m = some sl) (hr : env.slotRoute sl = some r)
    (hpos : r.position? n = some pos) (hx : v.current.point? n = some x) (hlies : x.lies pos = true)
    (hmay : Plant.mayOpen env v sl = false) : ((Plant.pointChanged env v .real n).askScan .real).unmarked = v.unmarked := by
  rw [Plant.askScan_unmarked]
  refine Plant.pointChanged_fixed fun k hk => ?_
  rw [hu.slotsOfPoint k hk]
  exact Plant.slotPoint_fixed hsl hr hpos hx hlies hmay

/-- What the end of the last throw of a slot leaves: the point locked, and the slot LOCKED, or OPEN when the opening conditions hold. -/
structure Plant.LastThrow (env : Env) (n : Nat) (x : Point) (sl : Slot) (r : RouteRecord) (a v : Plant) : Prop where
  point : v.yard.point? n = some x
  points : v.yard.points = a.yard.points
  opens : Plant.mayOpen env a sl.whenLocked = true →
    v.slot? sl.number = some { sl.whenLocked with state := .opened, openedOnce := true } ∧
      ∀ g, v.yard.signal? r.signal = some g → g.commanded = .proceed
  waits : Plant.mayOpen env a sl.whenLocked = false → v.slot? sl.number = some sl.whenLocked

theorem Plant.throwEnd_last {st : PointState} {k : Option FaultKind} (hs : p.session = none) (hx : p.yard.point? n = some x)
    (ht : x.throw = some th) (hc : x.claim = some sl.number) (hsl : p.slot? sl.number = some sl) (hst : sl.state = .setting)
    (hclaimed : sl.claimed = [(n, th.target)]) (hr : env.slotRoute sl = some r) (hpos : r.position? n = some th.target)
    (hused : p.used = [sl]) (hlies : st = th.target.state) :
    ∃ a, a.yard = { p.yard with points := a.yard.points, faults := a.yard.faults } ∧ a.session = none ∧ a.freeze = p.freeze ∧
      a.links = p.links ∧ Plant.LastThrow env n ((x.ended st ((p.now - th.startedAt) / 100) th.peak).lockedFor r n sl.number th.target)
        sl r a (Plant.throwEnd env p .real n .completed st k).unmarked := by
  obtain ⟨b, hend⟩ := Plant.throwEnd_claimed (env := env) (c := .completed) (st := st) (k := k) hs hx ht hc
  obtain ⟨hz, hzx⟩ := p.endClaimed_spec (th := th) (m := sl.number) st k hx
  generalize p.endClaimed n st x th sl.number k = z at hend hz hzx
  have hzs := hz.session.trans hs
  have hzsl : z.slot? sl.number = some sl := (Plant.slot?_congr hz.slots _).trans hsl
  obtain ⟨hayard, hax, haslots, hasl, has, hafreeze, halinks⟩ := Plant.lastLocked_spec (r := r) (pos := th.target) hzs hzx hzsl
  rw [Plant.slotThrowEnd_last hzsl hst hclaimed hr hpos] at hend
  have hau : (z.lastLocked sl r n th.target).UsesOnly sl.number :=
    (((Plant.UsesOnly.of_used hused).same hz.slots).mapSlot (f := fun x => { x with claimed := [] }) fun _ h => h).same haslots
  generalize z.lastLocked sl r n th.target = a at hend hayard hax haslots hasl has hafreeze halinks hau
  have haactive : a.active = .real := Plant.active_of_none (has.trans hzs)
  have hacurrent : a.current = a.yard := by rw [Plant.current, haactive]; rfl
  refine ⟨a, ?_, has.trans hzs, hafreeze.trans hz.freeze, halinks.trans hz.links, ?_⟩
  · have hfaults : a.yard.faults = z.yard.faults := (congrArg Yard.faults hayard :)
    rw [hfaults]
    exact hayard.trans (congrArg (fun y : Yard => { y with points := a.yard.points }) hz.yard :)
  obtain ⟨hopens, hwaits⟩ := Plant.enterLocked_spec (c := .settingDone) hasl (show env.slotRoute { sl with claimed := [] } = some r from hr)
  have hfield := Plant.lockedSlot_field env a sl.number { sl with claimed := [] } .settingDone
  have hwsl := Plant.lockedSlot_self (env := env) (c := .settingDone) hasl
  have hwu : (Plant.lockedSlot env a sl.number { sl with claimed := [] } .settingDone).UsesOnly sl.number :=
    (hau.mapSlot (f := fun x => { x with state := .locked, claimed := [], timer := .off }) fun _ h => h).same (Plant.lockedSlot_slots ..)
  generalize Plant.lockedSlot env a sl.number { sl with claimed := [] } .settingDone = w at hopens hwaits hfield hwsl hwu
  have hliesRight : ((x.ended st ((p.now - th.startedAt) / 100) th.peak).lockedFor r n sl.number th.target).lies th.target = true := by
    simp [Point.lies, Point.lockedFor, Point.ended, hlies]
  cases hmay : Plant.mayOpen env a sl.whenLocked with
  | true =>
    have hopened := (hopens hmay).report (sd := .real) (b := b)
    rw [hend]
    generalize (Plant.enterLocked env a sl.number .settingDone).report .real b = v at hopened
    have hvactive : v.active = .real := hopened.active.trans (hfield.active.trans haactive)
    have hvcurrent : v.current = v.yard := by rw [Plant.current, hvactive]; rfl
    have hvpoints : v.yard.points = a.yard.points := by
      rw [← hvcurrent, ← hacurrent]
      exact hopened.points.trans hfield.points
    have hvx := (congrArg (findBy Point.number n) hvpoints).trans hax
    have hvsl : v.slot? sl.number = some { sl.whenLocked with state := .opened, openedOnce := true } :=
      (Plant.slot?_congr hopened.slots _).trans (w.mapSlot_slot?_self
        (f := fun x => { x with state := .opened, openedOnce := true }) (fun _ hx => hx) hwsl)
    have hvu : v.UsesOnly sl.number :=
      (hwu.mapSlot (f := fun x => { x with state := .opened, openedOnce := true }) fun _ h => h).same hopened.slots
    rw [Plant.lastPassed hvu hvsl hr hpos (by rw [hvcurrent]; exact hvx) hliesRight (Plant.mayOpen_of_not_locked (by simp))]
    exact ⟨hvx, hvpoints, fun _ => ⟨hvsl, fun g hg => hopened.commanded g (by rw [hvcurrent]; exact hg)⟩, fun h => nomatch hmay.symm.trans h⟩
  | false =>
    have hw := hwaits hmay
    have hvfield := hfield.report (sd := .real) (b := b)
    have hvslots : (w.report .real b).slots = w.slots := Plant.report_slots ..
    rw [hend, hw]
    generalize w.report .real b = v at hvfield hvslots
    have hvactive : v.active = .real := hvfield.active.trans haactive
    have hvcurrent : v.current = v.yard := by rw [Plant.current, hvactive]; rfl
    have hvpoints : v.yard.points = a.yard.points := by
      rw [← hvcurrent, ← hacurrent]
      exact hvfield.points
    have hvx := (congrArg (findBy Point.number n) hvpoints).trans hax
    have hvsl : v.slot? sl.number = some sl.whenLocked := (Plant.slot?_congr hvslots _).trans hwsl
    rw [Plant.lastPassed (hwu.same hvslots) hvsl hr hpos (by rw [hvcurrent]; exact hvx) hliesRight ((hvfield.mayOpen _).trans hmay)]
    exact ⟨hvx, hvpoints, fun h => (nomatch hmay.symm.trans h), fun _ => hvsl⟩

end

/-- Settles O52: a sample writes the throw, and a complete run or a position detected ends it; the last throw that a slot claims locks
its point, and the slot opens when nothing stands against it. -/
theorem samplesAndThrowEnds : Obligations.SamplesAndThrowEnds := by
  unfold Obligations.SamplesAndThrowEnds
  intro sampled s hset
  have hsampled : ∀ th v, th.sample v = sampled th v := Throw.sample_eq
  refine ⟨?_, ?_, ?_, ?_⟩
  · intro n link x th hup hlink hx ht ends rest
    let p := s.plant.goodFrame link
    have hpx : p.yard.point? n = some x := hx
    obtain rfl : x.number = n := findBy_key _ hx
    let n := x.number
    have hends : ∀ (c : Instr) (w : Plant) (x' : Point) (th' : Throw) (cause : ThrowCause) (st : PointState) (k : Option FaultKind),
        (s.plant.quiet s.env → exec c s = .next { s with plant := (Plant.throwEnd s.env w .real n cause st k).unmarked }) →
        p.PointOnly n x' w → x'.throw = some th' → x'.claim = x.claim → th'.startedAt = th.startedAt → th'.target = th.target →
        ends c x' st th'.peak k := by
      intro c w x' th' cause st k hexec hw ht' hc' hstart htarget hclaim hused hquiet duration
      obtain ⟨hself, hother, hyard, hnone, hrecord⟩ := hw.over (env := s.env) (c := cause) (st := st) (k := k) ht'
        (hc'.trans hclaim) hused
      rw [hstart, htarget] at hrecord
      rw [hstart] at hself
      exact ⟨_, hexec hquiet, rfl, hself, hother, hyard, hnone, hrecord⟩
    refine ⟨?_, ?_, fun hst => ?_⟩
    · intro v hst th'
      have hth : th.sample v = th' := hsampled th v
      have hwritten : p.PointOnly n (x.sampled th v) (p.mapPoint .real n fun y => { y with throw := some (th.sample v) }) :=
        (Plant.PointOnly.refl hpx).mapPoint (fun _ => rfl) rfl
      have hsample := Plant.currentSample_eq (env := s.env) (v := v) (sd := .real) hpx ht hst
      rw [← hth]
      refine ⟨fun hobs hopen => ?_, fun hmov hobs hdrive => ?_, fun hres hobs => ?_, fun hobs hopen => ?_⟩
      · exact exec_currentSample_settled hup hlink (Plant.currentSample_running (sd := .real) hpx ht hst hobs hopen) hset
      · let q := p.mapPoint .real n fun y => { y with throw := some (th.sample v) }
        have hmay : Plant.mayDrive s.env q .real (x.sampled th v) = true :=
          (Plant.mayDrive_real_congr (p := s.plant) (x := x) (fun k => s.plant.goodFrame_linkUp link k) rfl rfl rfl).trans hdrive
        have hdriven := Plant.driveOn_real (th := th.sample v) hmay (link := link) hlink
          (th.sample v).target.opposite true
        rw [if_pos hobs, if_pos hmov, hdriven] at hsample
        refine exec_currentSample_settled hup hlink (hsample.trans ?_) hset
        exact congrArg (fun w => Plant.send w link (.drive x.number (th.sample v).target.opposite))
          (p.mapPoint_mapPoint x.number (f := fun y => { y with throw := some (th.sample v) }) fun _ => rfl)
      · have hnot : x.state ≠ .moving := by simp [hres]
        refine hends _ _ (x.sampled th v) (th.sample v) .obstructed _ _ (fun hquiet => ?_) (hwritten.sendStop (env := s.env) n) rfl rfl rfl rfl
        rw [exec_currentSample hup hlink hquiet, hsample, if_pos hobs, if_neg hnot]
        rfl
      · have hnot : ¬5 ≤ (th.sample v).obstructionRun := by omega
        refine hends _ _ (x.sampled th v) (th.sample v) .motorOpen _ _ (fun hquiet => ?_) (hwritten.sendStop (env := s.env) n) rfl rfl rfl rfl
        rw [exec_currentSample hup hlink hquiet, hsample, if_neg hnot, if_pos hopen]
        rfl
    · intro hst back x'
      have hback := Plant.pointDetection_restored (env := s.env) hpx ht hst
      refine ⟨fun hle => ?_, fun hlt => ?_⟩
      · rw [if_pos hle, Plant.mapPoint_mapPoint] at hback
        · exact exec_pointDetection_settled hup hlink hback hset
        · exact fun _ => rfl
      · refine hends _ _ x' th .obstructed _ _ (fun hquiet => ?_) ((Plant.PointOnly.refl hpx).mapPoint
          (f := fun y => { y with detected := some back, attempts := x.attempts + 1 }) (fun _ => rfl) rfl) ht rfl rfl rfl
        rw [exec_pointDetectionReport hup hlink hquiet, hback, if_neg (by omega)]
    · refine hends _ _ { x with detected := some th.target } th .completed _ _ (fun hquiet => ?_)
        ((Plant.PointOnly.refl hpx).mapPoint (f := fun y => { y with detected := some th.target }) (fun _ => rfl) rfl) ht rfl rfl rfl
      rw [exec_pointDetectionReport hup hlink hquiet, Plant.pointDetection_completed .real hpx ht hst]
  · intro n link x th m sl r hup hlink hx hst ht hs hquiet hclaim hused hsl hset hclaimed hr hpos
    obtain rfl : sl.number = m := Plant.slot?_number hsl
    let p := s.plant.goodFrame link
    let q := p.mapPoint .real n fun y => { y with detected := some th.target }
    have hq : p.PointOnly n { x with detected := some th.target } q := (Plant.PointOnly.refl (p := p) hx).mapPoint
      (f := fun y => { y with detected := some th.target }) (fun _ => rfl) rfl
    obtain ⟨a, hayard, has, hafreeze, halinks, hlast⟩ := Plant.throwEnd_last (env := s.env) (p := q) (st := th.target.state)
      (k := if x.attempts = 0 then none else some .throwRetried) hs hq.point ht hclaim hsl hset hclaimed hr hpos hused rfl
    have hexec := exec_pointDetectionReport (det := some th.target) hup hlink hquiet
    rw [Plant.pointDetection_completed (p := s.plant.goodFrame link) .real hx ht hst] at hexec
    generalize (Plant.throwEnd s.env q .real n .completed th.target.state
      (if x.attempts = 0 then none else some .throwRetried)).unmarked = v at hlast hexec
    have haactive : a.active = .real := Plant.active_of_none has
    have hacurrent : a.current = a.yard := by rw [Plant.current, haactive]; rfl
    have hlink : ∀ j, a.linkUp j = s.plant.linkUp j := fun j =>
      (Plant.linkUp_of_links (q := a) (p := q) (by rw [halinks]) j).trans (s.plant.goodFrame_linkUp link j)
    have hup : ∀ e, a.elementUp s.env a.active e = s.plant.elementUp s.env .real e := fun e => by
      rw [haactive]
      exact Plant.elementUp_real_congr hlink e
    have htracks : a.yard.tracks = s.plant.yard.tracks := (congrArg Yard.tracks hayard :)
    have hclear : ∀ j, Plant.trackClear s.env a a.active j = Plant.trackClear s.env s.plant .real j := fun j => by
      rw [Plant.trackClear, Plant.trackClear, hup, haactive]
      refine congrArg (· && _) ?_
      simp only [Plant.yardOf_real, Yard.trackClear, Yard.trackState, Yard.track?, htracks]
    have hsignal : a.current.signal? r.signal = s.plant.yard.signal? r.signal := by
      rw [hacurrent, Yard.signal?, (congrArg Yard.signals hayard :)]
      rfl
    have hpoint : ∀ j, a.current.point? j = v.yard.point? j := fun j => by rw [hacurrent, Yard.point?, ← hlast.points]; rfl
    have hmay := Plant.mayOpen_iff (env := s.env) (p := a) (sl := sl.whenLocked) hr rfl
    simp only [hpoint, hup, hclear, hsignal, hafreeze] at hmay
    have hpx := hlast.point
    simp only [Point.lockedFor, Point.ended, hclaim, if_true] at hpx
    cases ho : Plant.mayOpen s.env a sl.whenLocked with
    | true =>
      obtain ⟨hvsl, hcommanded⟩ := hlast.opens ho
      exact ⟨_, _, hexec, rfl, hpx, hvsl, rfl, rfl, fun _ => ⟨rfl, hcommanded⟩, fun h => absurd (hmay.mp ho) h⟩
    | false =>
      have hvsl := hlast.waits ho
      exact ⟨_, _, hexec, rfl, hpx, hvsl, rfl, rfl, fun h => absurd ((hmay.mpr h).symm.trans ho) (by simp), fun _ => rfl⟩
  · intro n link hup
    refine congrArg Host.Outcome.next (State.event_of_settled (p := s.plant.goodFrame link) ?_ hset)
    simp only [Plant.fieldReport, hup, if_true, ite_self]
  · rintro c _ d x th hs hd rfl hrate hdue hx hst ht th' hobs hopen
    let n := d.point
    obtain ⟨base, clock, hadvanced⟩ := Plant.advance_session hs (s.plant.ownTime .copy (d.sampleDue - s.plant.base .copy))
    let w := s.plant.advanceTo .copy d.sampleDue
    let c0 : Session := { c with base := base, copy := { c.copy with clock := clock } }
    have hw : w.session = some c0 := hadvanced
    let q := w.mapSession fun c => { c with drives := updBy SimDrive.point d.point (fun x => { x with samples := x.samples + 1 }) c.drives }
    let c1 : Session := { c0 with drives := updBy SimDrive.point d.point (fun x => { x with samples := x.samples + 1 }) c0.drives }
    have hq : q.session = some c1 := congrArg (Option.map _) hw
    have hqx : (q.yardOf .copy).point? n = some x := by
      rw [Plant.yardOf_copy hq]
      exact hx
    have hth : th.sample d.current = th' := hsampled th _
    let c2 : Session := { c1 with copy := { c1.copy with points := updBy Point.number n (fun y => { y with throw := some th' }) c1.copy.points } }
    have hsample : Plant.currentSample s.env q .copy n d.current = { q with session := some c2 } := by
      rw [Plant.currentSample_running hqx ht hst (hth ▸ hobs) (hth ▸ hopen), hth]
      exact Plant.mapYard_copy hq _
    have hdrive : s.plant.simDrive? d.point = some d := by
      rw [Plant.simDrive?, hs]
      exact hd
    refine ⟨_, c2, congrArg Host.Outcome.next (State.event_of_settled (p := { q with session := some c2 }) ?_ hset), rfl, rfl, rfl, rfl, rfl⟩
    rw [← hsample]
    simp only [hdrive, Plant.simSample]
    rfl

end Sys2Proof.Machine
end

section
/-! SUPPORT. A section's change of state, and what passing it on leaves (R42 to R44). -/

namespace Sys2Proof.Machine

open Sys2Proof

section
variable {env : Env} {p q w : Plant} {k n : Nat} {x : Track} {st : TrackState}

/-! ## The fault list keeps what is OPEN (R157) -/

theorem dropOldestCleared_mem {l rest : List FaultRecord} {f : FaultRecord} (h : dropOldestCleared l = some rest) (hf : f ∈ l)
    (hc : f.cleared = false) : f ∈ rest := by
  induction l generalizing rest with
  | nil => cases hf
  | cons r l ih =>
    unfold dropOldestCleared at h
    split at h
    · next hr =>
      obtain rfl := Option.some.inj h
      refine (List.mem_cons.mp hf).resolve_left fun he => ?_
      rw [he, hr] at hc
      cases hc
    · obtain ⟨rest', hrest, rfl⟩ := Option.map_eq_some_iff.mp h
      exact (List.mem_cons.mp hf).elim (fun he => he ▸ List.mem_cons_self) fun hm => List.mem_cons_of_mem _ (ih hrest hm)

/-- A record that is not CLEARED stays when another is stored. -/
theorem FaultList.mem_store {l : FaultList} {r f : FaultRecord} (hf : f ∈ l.records) (hc : f.cleared = false) :
    f ∈ (l.store r).1.records := by
  unfold FaultList.store
  split
  · exact List.mem_append_left _ hf
  · split
    · next hdrop => exact List.mem_append_left _ (dropOldestCleared_mem hdrop hf hc)
    · exact hf

/-! ## A section over which no throw runs -/

/-- No throw runs over a section of the real yard. -/
def Plant.Unthrown (env : Env) (k : Nat) (p : Plant) : Prop :=
  ∀ d ∈ env.layout.points, d.track = k → ∀ y, p.yard.point? d.number = some y → y.throw = none

theorem Plant.interruptOver_unthrown (h : p.Unthrown env k) : Plant.interruptOver env p .real k = p := by
  unfold Plant.interruptOver
  refine List.foldlRecOn (motive := fun z => z = p) _ _ rfl fun z hz m hm => ?_
  rw [hz]
  obtain ⟨d, hd, rfl⟩ := List.mem_map.mp hm
  obtain ⟨hmem, htrack⟩ := List.mem_filter.mp hd
  split
  · next y hy =>
    have hnone : y.throw = none := h d hmem (beq_iff_eq.mp htrack) y hy
    exact if_neg (by simp [Point.throwing, hnone])
  · rfl

/-! ## What follows a section's change once the slot has taken it -/

/-- What the disturbance and the report of a section's change leave, `l` being the plant that the slot has left. -/
structure Plant.SectionTold (k : Nat) (st : TrackState) (l v : Plant) : Prop where
  yard : v.yard = { l.yard with faults := v.yard.faults }
  slots : v.slots = l.slots
  undisturbed : st ≠ .disturbed → v.yard.faults = l.yard.faults
  disturbed : st = .disturbed → v.yard.faults.holdsOpen .sectionDisturbed (.track k) = true ∨ 16 ≤ l.yard.faults.records.length
  kept : ∀ f ∈ l.yard.faults.records, f.cleared = false → f ∈ v.yard.faults.records

theorem Plant.SectionTold.report {l v : Plant} {sd : Side} {b : ReportBody} (h : l.SectionTold k st v) :
    l.SectionTold k st (v.report sd b) := by
  refine ⟨?_, (Plant.report_slots ..).trans h.slots, ?_, ?_, ?_⟩ <;> rw [Plant.report_yard]
  · exact h.yard
  · exact h.undisturbed
  · exact h.disturbed
  · exact h.kept

theorem Plant.SectionTold.unmarked {l v : Plant} (h : l.SectionTold k st v) : l.SectionTold k st v.unmarked :=
  ⟨h.yard, h.slots, h.undisturbed, h.disturbed, h.kept⟩

theorem Plant.SectionTold.of_askScan {l v : Plant} {sd : Side} (h : (l.askScan sd).SectionTold k st v) : l.SectionTold k st v := by
  obtain ⟨hy, hs, hu, hd, hk⟩ := h
  rw [Plant.askScan_yard] at hy hu hd hk
  exact ⟨hy, hs.trans (Plant.askScan_slots ..), hu, hd, hk⟩

/-- The record of a disturbance, once (R43). -/
theorem Plant.handFaultOnce_disturbed (l : Plant) (k : Nat) (c : Option RouteContext) :
    l.SectionTold k .disturbed (l.handFaultOnce .real .sectionDisturbed (.track k) c) := by
  rw [Plant.handFaultOnce_real]
  split
  · next hopen => exact ⟨rfl, rfl, fun _ => rfl, fun _ => .inl hopen, fun _ hf _ => hf⟩
  · have hreal := l.handFault_real .sectionDisturbed (.track k) c none
    refine ⟨by rw [hreal], Plant.handFault_slots .., fun h => absurd rfl h, fun _ => ?_, fun f hf hc => ?_⟩
    · by_cases hroom : l.yard.faults.records.length < 16
      · refine .inl ?_
        rw [FaultList.holdsOpen, Plant.handFault_records hroom, List.any_append]
        simp [Plant.faultRecord, FaultKind.cls]
      · exact .inr (by omega)
    · rw [hreal]
      exact FaultList.mem_store (l := l.yard.faults.numbered) hf hc

theorem Plant.sectionChange_told (hx : p.yard.track? k = some x) (hne : x.state ≠ st)
    (hun : st ≠ .clear → p.Unthrown env k) :
    (Plant.lockingSection env (p.mapTrack .real k fun y => { y with state := st }) .real k).SectionTold k st
      (Plant.sectionChange env p .real k st).unmarked := by
  have hx' : (p.yardOf .real).track? k = some x := hx
  let q := p.mapTrack .real k fun y => { y with state := st }
  have hover : (if st = .clear then q else Plant.interruptOver env q .real k) = q := by
    split
    · rfl
    · next hc => exact Plant.interruptOver_unthrown (p := q) (hun hc)
  simp only [Plant.sectionChange, hx', if_neg hne, Plant.sectionPassed]
  rw [hover]
  refine .unmarked (.report (.of_askScan (sd := .real) ?_))
  split
  · next hd =>
    subst hd
    exact Plant.handFaultOnce_disturbed ..
  · next hd => exact ⟨rfl, rfl, fun _ => rfl, fun h => absurd h hd, fun _ hf _ => hf⟩

/-- A section that no slot reserves passes its change to none. -/
theorem Plant.lockingSection_unreserved {sd : Side} (hx : (p.yardOf sd).track? k = some x) (hr : x.reservedBy = none) :
    Plant.lockingSection env p sd k = p := by
  unfold Plant.lockingSection
  split
  · next hsd =>
    have hnone : ((p.current.track? k).bind Track.reservedBy).bind p.slot? = none := by
      rw [show p.current.track? k = some x by rw [Plant.current, ← hsd]; exact hx]
      simp [hr]
    rw [hnone]
  · rfl

/-- The section as a report has written it. -/
theorem Plant.mapTrack_written (hx : p.yard.track? k = some x) :
    (p.mapTrack .real k fun y => { y with state := st }).yard.track? k = some { x with state := st } := by
  rw [p.mapTrack_track?_self (f := fun y => { y with state := st }) fun _ => rfl, hx]
  rfl

theorem Plant.report_askScan_unmarked (p : Plant) (sd sd' : Side) (b : ReportBody) :
    ((p.askScan sd).report sd' b).unmarked = (p.report sd' b).unmarked := by
  unfold Plant.askScan
  split <;> rfl

/-- Without a disturbance, a section that no slot reserves is written and reported, and nothing else. -/
theorem Plant.sectionChange_unreserved (hx : p.yard.track? k = some x) (hne : x.state ≠ st)
    (hun : st ≠ .clear → p.Unthrown env k) (hr : x.reservedBy = none) (hd : st ≠ .disturbed) :
    (Plant.sectionChange env p .real k st).unmarked =
      ((p.mapTrack .real k fun y => { y with state := st }).report .real (.sectionChanged k x.state st none)).unmarked := by
  have hx' : (p.yardOf .real).track? k = some x := hx
  let q := p.mapTrack .real k fun y => { y with state := st }
  have hqx : (q.yardOf .real).track? k = some { x with state := st } := Plant.mapTrack_written hx
  have hover : (if st = .clear then q else Plant.interruptOver env q .real k) = q := by
    split
    · rfl
    · next hc => exact Plant.interruptOver_unthrown (p := q) (hun hc)
  simp only [Plant.sectionChange, hx', if_neg hne, Plant.sectionPassed]
  rw [hover, Plant.lockingSection_unreserved hqx hr, if_neg hd, Plant.askScan_yardOf, hqx]
  exact (q.report_askScan_unmarked ..).trans (by rw [Option.bind_some, hr])

end

/-- What a section report makes of the part, taken from the section's own UP link on a quiet plant. -/
theorem exec_sectionReport {s : State} {k link : Nat} {c : Occupancy} (hup : s.plant.linkUp link = true)
    (hlink : s.env.layout.linkOf (.track k) = some link) (hquiet : s.plant.quiet s.env) :
    exec (.sectionReport link k c) s = .next
      { s with plant := (Plant.sectionChange s.env (s.plant.goodFrame link) .real k c.state).unmarked } :=
  congrArg Host.Outcome.next (State.event_of_quiet
    (Plant.fieldReport_taken (fun q => Plant.sectionChange s.env q .real k c.state) hup hlink)
    ((Plant.Cascade.refl _).sectionChange.quiet (Plant.goodFrame_quiet hquiet link)))

end Sys2Proof.Machine
end

section
/-! SUPPORT. What a slot of the real yard makes of a section's change (R66, R69, R71 to R73, R79, R83). -/

namespace Sys2Proof.Machine

open Sys2Proof

section
variable {env : Env} {p q w : Plant} {k n j : Nat} {x : Track} {sl : Slot} {r : RouteRecord} {st : TrackState}

theorem Plant.current_real (hs : p.session = none) : p.current = p.yard := by
  rw [Plant.current, Plant.active_of_none hs]
  rfl

/-! ## The slot that takes the change -/

theorem Plant.lockingSection_reserved (hs : p.session = none) (hx : p.yard.track? k = some x) (hres : x.reservedBy = some n)
    (hsl : p.slot? n = some sl) (hr : env.slotRoute sl = some r) (hnd : r.tracks.Nodup) (hj : r.tracks[j]? = some k)
    (hrel : sl.released ≤ j) : Plant.lockingSection env p .real k = Plant.slotSection env p sl r j x.state := by
  obtain ⟨hlt, hk⟩ := List.getElem?_eq_some_iff.mp hj
  have hidx : r.tracks.idxOf k = j := by rw [← hk]; exact hnd.idxOf_getElem j hlt
  have hcx : p.current.track? k = some x := by rw [Plant.current_real hs]; exact hx
  have hstate : p.current.trackState k = x.state := by rw [Yard.trackState, hcx]
  simp only [Plant.lockingSection, if_pos (Plant.active_of_none hs).symm, hcx, Option.bind_some, hres, hsl, hr, hidx, hstate]
  simp only [Bool.and_eq_true, decide_eq_true_eq, hrel, hlt, and_self, if_true]

/-! ## Entry (R71 to R73) -/

/-- What a section that becomes OCCUPIED or DISTURBED shows. -/
theorem Occupancy.shows {c : Occupancy} (h : c ≠ .clear) : c.state.shows = true := by
  cases c with
  | clear => exact absurd rfl h
  | occupied => rfl
  | disturbed => rfl

theorem Plant.markOccupied_clear {first : Nat} {rest : List Nat} (h : ∀ j ∈ rest, p.current.trackClear j = true) :
    Plant.markOccupied env p n (first :: rest) = p := by
  unfold Plant.markOccupied
  rw [List.zipIdx_cons, List.drop_one, List.tail_cons]
  refine List.foldlRecOn (motive := fun z => z = p) _ _ rfl fun z hz y hy => ?_
  have hclear : p.current.trackState y.1 = .clear := by
    simpa [Yard.trackClear] using h y.1 (List.fst_mem_of_mem_zipIdx hy)
  rw [hz, hclear]
  rfl

/-- A slot of the yard in force that is ENTERED, or reverts: its entry signal is commanded STOP. -/
structure Plant.Stopped (n : Nat) (r : RouteRecord) (f : Slot → Slot) (p q : Plant) : Prop where
  slots : q.slots = (p.mapSlot n f).slots
  current : q.current = { p.current with signals := q.current.signals }
  others : ∀ m, m ≠ r.signal → q.current.signal? m = p.current.signal? m
  commanded : ∀ g, q.current.signal? r.signal = some g → g.commanded = .stop
  active : q.active = p.active

theorem Plant.Stopped.of_commands {f : Slot → Slot} {st : SlotState} {c : RouteCause} {b : FailedCondition} {h : Bool}
    (hc : p.Commands r.signal .stop q) : p.Stopped n r f ((q.mapSlot n f).routeState sl st c b h) := by
  refine ⟨?_, ?_, ?_, ?_, ?_⟩
  · rw [Plant.routeState_slots, Plant.mapSlot, Plant.mapSlot, hc.slots]
  · rw [Plant.routeState, Plant.report_current, Plant.mapSlot_current]
    exact hc.current
  · rw [Plant.routeState, Plant.report_current, Plant.mapSlot_current]
    exact hc.others
  · rw [Plant.routeState, Plant.report_current, Plant.mapSlot_current]
    exact hc.commanded
  · rw [Plant.routeState, Plant.report_active, Plant.mapSlot_active]
    exact hc.active

/-- What the entry of a slot writes of it (R73). -/
def Slot.entered (x : Slot) : Slot := { x with state := .entered, timer := .off, marks := x.marks.set 0 true }

theorem Plant.enter_stopped {c : RouteCause} {first : Nat} {rest : List Nat} (hsl : p.slot? n = some sl) (hr : env.slotRoute sl = some r)
    (htracks : r.tracks = first :: rest) (hclear : ∀ j ∈ rest, p.current.trackClear j = true) :
    p.Stopped n r Slot.entered (Plant.enter env p n c) := by
  have hcommands := Plant.stopEntrySignal_commands hr p
  have hrest : ∀ j ∈ rest, ((Plant.stopEntrySignal env p sl).mapSlot n Slot.entered).current.trackClear j = true := fun j hj => by
    rw [Plant.mapSlot_current, hcommands.current]
    exact hclear j hj
  have henter : Plant.enter env p n c =
      ((Plant.stopEntrySignal env p sl).mapSlot n Slot.entered).routeState sl .entered c .none sl.aspectHeld := by
    simp only [Plant.enter, hsl, hr, Option.map_some, Option.getD_some, htracks]
    exact congrArg (fun z => Plant.routeState z sl .entered c .none sl.aspectHeld) (Plant.markOccupied_clear hrest)
  rw [henter]
  exact .of_commands hcommands

theorem Plant.revert_stopped {c : RouteCause} {b : FailedCondition} (hsl : p.slot? n = some sl) (ho : sl.state = .opened)
    (hr : env.slotRoute sl = some r) : p.Stopped n r (fun x => { x with state := .locked, aspectHeld := sl.aspectHeld || c == .aspectLost })
      (Plant.revert env p n c b) := by
  simp only [Plant.revert, hsl, ho, if_true]
  exact .of_commands (Plant.stopEntrySignal_commands hr p)

/-- PASSED_AT_STOP recorded on the real yard in force (R72). -/
theorem Plant.passedAtStop_real (hs : p.session = none) (hr : env.slotRoute sl = some r) :
    Plant.passedAtStop env p sl = p.handFault .real .passedAtStop (.signal r.signal) sl.context none := by
  rw [Plant.passedAtStop, hr, Plant.active_of_none hs]

/-- The fault list alone of the real yard is written. -/
structure Plant.FaultOnly (p q : Plant) : Prop where
  yard : q.yard = { p.yard with faults := q.yard.faults }
  slots : q.slots = p.slots
  session : q.session = p.session
  freeze : q.freeze = p.freeze

theorem Plant.FaultOnly.refl (p : Plant) : p.FaultOnly p := ⟨rfl, rfl, rfl, rfl⟩

theorem Plant.handFault_faultOnly (p : Plant) (a : FaultKind) (e : FaultElement) (c : Option RouteContext) (d : Option CheckData) :
    p.FaultOnly (p.handFault .real a e c d) := by
  have hreal := p.handFault_real a e c d
  generalize p.handFault .real a e c d = z at hreal
  exact ⟨by rw [hreal], by rw [hreal], by rw [hreal], by rw [hreal]⟩

/-- A fault list that has room for it has gained a record, which is not CLEARED. -/
def FaultList.Gains (l l' : FaultList) (a : FaultKind) (e : FaultElement) (d : Option CheckData) (c : Option RouteContext) : Prop :=
  l.records.length < 16 → ∃ f ∈ l'.records, f.cleared = false ∧ f.number = l.next ∧ f.kind = a ∧ f.element = some e ∧ f.check = d ∧
    f.context = c

theorem Plant.handFault_gains (p : Plant) {a : FaultKind} (e : FaultElement) (c : Option RouteContext) (d : Option CheckData)
    (ha : a.cls = .element) : p.yard.faults.Gains (p.handFault .real a e c d).yard.faults a e d c := fun hroom =>
  ⟨p.faultRecord a e c d, by rw [Plant.handFault_records hroom]; exact List.mem_append_right _ (List.mem_singleton.mpr rfl),
    by rw [Plant.faultRecord, ha]; rfl, rfl, rfl, rfl, rfl, rfl⟩

/-- The slot is ENTERED when its first section shows a tram; PASSED_AT_STOP is recorded unless it was OPEN (R71, R72). -/
theorem Plant.slotSection_enters {first : Nat} {rest : List Nat} (hs : p.session = none) (hf : p.freeze = none) (hsl : p.slot? n = some sl)
    (hr : env.slotRoute sl = some r) (htracks : r.tracks = first :: rest) (hclear : ∀ j ∈ rest, p.yard.trackClear j = true)
    (hst : st.shows = true) (hstate : sl.state = .opened ∨ sl.state = .locked ∨ sl.state = .approachTiming) :
    ∃ w, p.FaultOnly w ∧ w.Stopped n r Slot.entered (Plant.slotSection env p sl r 0 st) ∧
      (sl.state = .opened → w.yard.faults = p.yard.faults) ∧
      (sl.state ≠ .opened → p.yard.faults.Gains w.yard.faults .passedAtStop (.signal r.signal) none sl.context) := by
  have hnumber : sl.number = n := Plant.slot?_number hsl
  have hfrozen : p.frozen = false := by rw [Plant.frozen, hf]; rfl
  have hentering : ((0 : Nat) = 0 && st.shows) = true := by simp [hst]
  have hkept : ∀ w : Plant, p.FaultOnly w → ∀ c, w.Stopped n r Slot.entered (Plant.enter env w n c) := fun w hw c => by
    refine Plant.enter_stopped ((Plant.slot?_congr hw.slots n).trans hsl) hr htracks fun j hj => ?_
    rw [Plant.current_real (hw.session.trans hs), hw.yard]
    exact hclear j hj
  have hpassed := p.handFault_faultOnly .passedAtStop (.signal r.signal) sl.context none
  have hgains := p.handFault_gains (a := .passedAtStop) (.signal r.signal) sl.context none rfl
  rcases hstate with h | h | h
  · refine ⟨p, .refl p, ?_, fun _ => rfl, fun ho => absurd h ho⟩
    simp only [Plant.slotSection, h, hnumber, hst]
    exact hkept p (.refl p) .entered
  · refine ⟨_, hpassed, ?_, fun ho => (nomatch h.symm.trans ho), fun _ => hgains⟩
    simp only [Plant.slotSection, h, hnumber, hst, Plant.passedAtStop_real hs hr, hfrozen]
    exact hkept _ hpassed .passedAtStop
  · refine ⟨_, hpassed, ?_, fun ho => (nomatch h.symm.trans ho), fun _ => hgains⟩
    simp only [Plant.slotSection, h, hnumber, hst, Plant.passedAtStop_real hs hr, hfrozen]
    exact hkept _ hpassed .passedAtStop

/-- A SETTING slot whose first section shows a tram is abandoned, PASSED_AT_STOP recorded (R66). -/
theorem Plant.slotSection_abandons (hs : p.session = none) (hf : p.freeze = none) (hsl : p.slot? n = some sl)
    (hr : env.slotRoute sl = some r) (hst : st.shows = true) (hstate : sl.state = .setting) :
    Plant.slotSection env p sl r 0 st =
      Plant.abandon env (p.handFault .real .passedAtStop (.signal r.signal) sl.context none) n .passedAtStop := by
  have hnumber : sl.number = n := Plant.slot?_number hsl
  have hfrozen : p.frozen = false := by rw [Plant.frozen, hf]; rfl
  simp only [Plant.slotSection, hstate, hnumber, hst, Plant.passedAtStop_real hs hr, hfrozen]
  rfl

/-- An OPEN slot reverts when a later section of its route shows a tram (R69). -/
theorem Plant.slotSection_reverts (hsl : p.slot? n = some sl) (hr : env.slotRoute sl = some r) (hst : st.shows = true)
    (hstate : sl.state = .opened) (hj : j ≠ 0) :
    p.Stopped n r (fun x => { x with state := .locked, aspectHeld := sl.aspectHeld }) (Plant.slotSection env p sl r j st) := by
  have hnumber : sl.number = n := Plant.slot?_number hsl
  have hclear : st ≠ .clear := fun h => by rw [h] at hst; cases hst
  have hrevert := Plant.revert_stopped (env := env) (c := .reverted) (b := .track) hsl hstate hr
  rw [show (sl.aspectHeld || RouteCause.reverted == .aspectLost) = sl.aspectHeld by simp] at hrevert
  have hpass : Plant.slotSection env p sl r j st = Plant.revert env p n .reverted .track := by
    simp only [Plant.slotSection, hstate, hnumber, hj, hclear]
    rfl
  rwa [hpass]

/-! ## A sequence fault (R79, R83) -/

theorem marksInSequence_append (i : Nat) (l : List Bool) : marksInSequence (List.replicate i true ++ l) = marksInSequence l := by
  induction i with
  | zero => rfl
  | succ i ih =>
    rw [List.replicate_succ, List.cons_append]
    exact ih

theorem firstUnmarked_append {ts : List Nat} {i u : Nat} (l : List Bool) (h : ts[i]? = some u) :
    firstUnmarked ts (List.replicate i true ++ false :: l) = u := by
  induction i generalizing ts with
  | zero =>
    cases ts with
    | nil => cases h
    | cons t ts => exact Option.some.inj h
  | succ i ih =>
    cases ts with
    | nil => cases h
    | cons t ts =>
      rw [List.replicate_succ, List.cons_append]
      exact ih h

/-- The marks of a passage up to a section, and a mark set beyond the next one. -/
theorem marks_skip {i j m : Nat} (hij : i < j) (hj : j < i + m) :
    ∃ l, (List.replicate i true ++ List.replicate m false).set j true = List.replicate i true ++ false :: l ∧ l.contains true = true := by
  obtain ⟨m, rfl⟩ : ∃ m', m = m' + 1 := ⟨m - 1, by omega⟩
  refine ⟨(List.replicate m false).set (j - i - 1) true, ?_, ?_⟩
  · rw [List.set_append_right _ _ (by rw [List.length_replicate]; exact Nat.le_of_lt hij), List.length_replicate, List.replicate_succ,
      show j - i = (j - i - 1) + 1 by omega, List.set_cons_succ]
    rfl
  · rw [List.contains_iff_mem]
    exact List.mem_set (by simp; omega) true

theorem marksInSequence_replicate (i m : Nat) : marksInSequence (List.replicate i true ++ List.replicate m false) = true := by
  rw [marksInSequence_append]
  cases m with
  | zero => rfl
  | succ m =>
    rw [List.replicate_succ, marksInSequence]
    simp

theorem Plant.mapSlot_mapSlot (p : Plant) {f g : Slot → Slot} (hf : ∀ x, (f x).number = x.number) :
    (p.mapSlot n f).mapSlot n g = p.mapSlot n fun x => g (f x) :=
  (congrArg (fun l => { p with slots := l }) (updBy_updBy (key := Slot.number) (g := g) hf n p.slots) :)

/-- What a sequence fault writes of its slot: the mark, and an ENTERED slot stops releasing (R83). -/
def Slot.skipped (sl : Slot) (j : Nat) (x : Slot) : Slot :=
  { x with state := if sl.state = .entered then .releaseStopped else x.state, marks := sl.marks.set j true }

/-- A section that shows a tram beyond one not yet marked is a sequence fault (R79, R83). -/
theorem Plant.slotSection_skips {i u : Nat} (hs : p.session = none) (hf : p.freeze = none) (hsl : p.slot? n = some sl)
    (hr : env.slotRoute sl = some r) (hu : r.tracks[i]? = some u) (hj : r.tracks[j]? = some k) (hij : i < j)
    (hmarks : sl.marks = List.replicate i true ++ List.replicate (r.tracks.length - i) false) (hst : st.shows = true)
    (hstate : sl.state = .entered ∨ sl.state = .emergencyTiming) :
    let l := Plant.slotSection env p sl r j st
    l.yard = { p.yard with faults := l.yard.faults } ∧ l.slots = (p.mapSlot n (sl.skipped j)).slots ∧
      p.yard.faults.Gains l.yard.faults .sequence (.track k) (some (.sequence u k)) sl.context := by
  intro l
  have hnumber : sl.number = n := Plant.slot?_number hsl
  obtain ⟨hjlt, hjk⟩ := List.getElem?_eq_some_iff.mp hj
  have hfrozen : p.frozen = false := by rw [Plant.frozen, hf]; rfl
  obtain ⟨rest, hskip, htrue⟩ := marks_skip (m := r.tracks.length - i) hij (by omega)
  rw [← hmarks] at hskip
  have hbefore : marksInSequence sl.marks = true := by rw [hmarks]; exact marksInSequence_replicate _ _
  have hafter : marksInSequence (sl.marks.set j true) = false := by
    rw [hskip, marksInSequence_append, marksInSequence, htrue]
    rfl
  have hfirst : firstUnmarked r.tracks (sl.marks.set j true) = u := by rw [hskip]; exact firstUnmarked_append rest hu
  let q := p.mapSlot n fun x => { x with marks := sl.marks.set j true }
  let w := q.handFault .real .sequence (.track k) sl.context (some (.sequence u k))
  have hw := q.handFault_faultOnly .sequence (.track k) sl.context (some (.sequence u k))
  have hgains := q.handFault_gains (a := .sequence) (.track k) sl.context (some (.sequence u k)) rfl
  have hmark : l = if sl.state = .entered then
      (w.mapSlot n fun x => { x with state := .releaseStopped }).routeState sl .releaseStopped .sequence .none sl.aspectHeld else w := by
    have hpass : l = Plant.markSection env p n j := by
      rcases hstate with h | h
      · simp only [l, Plant.slotSection, h, hnumber, hst, if_true]
      · simp only [l, Plant.slotSection, h, hnumber, hst, if_true, show ¬j = 0 by omega, decide_false, Bool.false_and,
          Bool.false_eq_true, if_false]
    have hk : r.tracks.getD j 0 = k := by rw [List.getD_eq_getElem?_getD, hj]; rfl
    have hset : (sl.state == .entered || sl.state == .emergencyTiming) = true := by simpa using hstate
    rw [hpass]
    simp only [Plant.markSection, hsl, hr, Option.map_some, Option.getD_some, hbefore, hafter, hset, hk, hfirst, hfrozen,
      Plant.mapSlot_active, Plant.active_of_none hs, Bool.not_false, Bool.and_true, decide_eq_true_eq, if_true]
    rfl
  by_cases he : sl.state = .entered
  · rw [if_pos he] at hmark
    have hskipped : sl.skipped j = fun x => { ({ x with marks := sl.marks.set j true } : Slot) with state := .releaseStopped } := by
      funext y
      simp only [Slot.skipped, he, if_true]
    have hslots : (w.mapSlot n fun x => { x with state := .releaseStopped }).slots = (p.mapSlot n (sl.skipped j)).slots := by
      rw [hskipped]
      exact (congrArg (updBy Slot.number n _) hw.slots).trans (congrArg Plant.slots (p.mapSlot_mapSlot (n := n)
        (f := fun x => { x with marks := sl.marks.set j true }) (g := fun x => { x with state := .releaseStopped }) fun _ => rfl))
    have hyard : l.yard = w.yard := by rw [hmark, Plant.routeState, Plant.report_yard]; rfl
    refine ⟨?_, ?_, ?_⟩
    · rw [hyard]; exact hw.yard
    · rw [hmark, Plant.routeState_slots, hslots]
    · rw [hyard]; exact hgains
  · rw [if_neg he] at hmark
    rw [hmark]
    have hskipped : sl.skipped j = fun x => { x with marks := sl.marks.set j true } := by
      funext y
      simp only [Slot.skipped, if_neg he]
    rw [hskipped]
    exact ⟨hw.yard, hw.slots, hgains⟩

end

end Sys2Proof.Machine
end

section
/-! SUPPORT. Sectional release (R80, R82), and the sections' conditions taken (O53). -/

namespace Sys2Proof.Machine

open Sys2Proof

section
variable {env : Env} {p q w : Plant} {k n m : Nat} {x : Track} {sl : Slot} {r : RouteRecord}

/-! ## One section released (R80) -/

/-- A yard of which one section is released by a slot: its reservation and the locks over it are dropped. -/
def Yard.release (env : Env) (y : Yard) (n : Nat) (r : RouteRecord) (t : Nat) : Yard :=
  let onTrack := (r.points.map (·.1)).filter fun pt => (env.layout.point? pt).any fun d => d.track == t
  { y with
    points := y.points.map fun x =>
      if onTrack.contains x.number then { x with locks := x.locks.filter fun k => k.slot != n } else x
    tracks := updBy Track.number t (fun x => { x with reservedBy := none }) y.tracks }

theorem Plant.releaseSection_spec (t : Nat) (hsl : p.slot? n = some sl) :
    (Plant.releaseSection env p sl r t).current.unberthed = (Yard.release env p.current n r t).unberthed ∧
      (Plant.releaseSection env p sl r t).slots = (p.mapSlot n fun x => { x with released := sl.released + 1 }).slots ∧
      (Plant.releaseSection env p sl r t).active = p.active := by
  obtain rfl : sl.number = n := Plant.slot?_number hsl
  let a := (p.mapYard p.active fun y => Yard.release env y sl.number r t).mapSlot sl.number fun x => { x with released := sl.released + 1 }
  have haactive : a.active = p.active := (Plant.mapSlot_active ..).trans (Plant.mapYard_active ..)
  have hacurrent : a.current = Yard.release env p.current sl.number r t :=
    (Plant.mapSlot_current ..).trans (Plant.mapYard_current ..)
  have haslots : a.slots = (p.mapSlot sl.number fun x => { x with released := sl.released + 1 }).slots :=
    congrArg (updBy Slot.number sl.number _) (Plant.mapYard_slots ..)
  have hb : ∃ z, a.BerthsOnly a.active z ∧ Plant.releaseSection env p sl r t =
      z.report p.active (.sectionReleased sl.number r.number t (sl.released + 1)) := by
    refine ⟨if sl.released = 0 then Plant.firstSectionCleared env a sl else a, ?_, rfl⟩
    split
    · exact Plant.firstSectionCleared_berthsOnly ..
    · exact .refl ..
  obtain ⟨z, hz, hrelease⟩ := hb
  have hzactive : z.active = a.active := ((Plant.SameField.refl a).berths hz).active
  rw [hrelease, Plant.report_current, Plant.report_slots, Plant.report_active, hz.slots, hz.unberthed, hacurrent]
  exact ⟨rfl, haslots, hzactive.trans haactive⟩

/-! ## The release of one section and those after it (R80, R82) -/

/-- The points of a route over one of its sections. -/
def OverSection (env : Env) (r : RouteRecord) (k m : Nat) : Prop :=
  (∃ pos, (m, pos) ∈ r.points) ∧ (env.layout.point? m).map PointRecord.track = some k

/-- A section of a route has been released: it is not reserved, no lock of the slot stands over it, and no other slot is written. -/
structure Plant.ReleasedAt (env : Env) (n k : Nat) (r : RouteRecord) (x : Track) (p q : Plant) : Prop where
  others : ∀ m, m ≠ n → q.slot? m = p.slot? m
  track : q.current.track? k = some { x with reservedBy := none }
  points : ∀ y ∈ q.current.points, OverSection env r k y.number → ∀ l ∈ y.locks, l.slot ≠ n
  active : q.active = p.active

theorem Plant.ReleasedAt.of_unberthed {y : Yard} (hslots : ∀ m, m ≠ n → q.slot? m = p.slot? m) (hc : q.current.unberthed = y.unberthed)
    (ha : q.active = p.active) (ht : y.track? k = some { x with reservedBy := none })
    (hp : ∀ z ∈ y.points, OverSection env r k z.number → ∀ l ∈ z.locks, l.slot ≠ n) : p.ReleasedAt env n k r x q where
  others := hslots
  track := by
    rw [Yard.track?, show q.current.tracks = y.tracks from (congrArg Yard.tracks hc :)]
    exact ht
  points := by
    rw [show q.current.points = y.points from (congrArg Yard.points hc :)]
    exact hp
  active := ha

theorem Yard.release_track?_ne {y : Yard} {t : Nat} (h : m ≠ t) : (Yard.release env y n r t).track? m = y.track? m :=
  findBy_updBy_ne Track.number (fun x => { x with reservedBy := none }) y.tracks (fun _ h => h) h

theorem Yard.release_track?_self {y : Yard} (h : y.track? k = some x) :
    (Yard.release env y n r k).track? k = some { x with reservedBy := none } :=
  (findBy_updBy_self Track.number k (fun x => { x with reservedBy := none }) y.tracks fun _ h => h).trans (by
    rw [show findBy Track.number k y.tracks = some x from h]
    rfl)

theorem Yard.release_points {y : Yard} {t : Nat} {z : Point} (h : z ∈ (Yard.release env y n r t).points) :
    ∃ v ∈ y.points, v.number = z.number ∧ (∀ l ∈ z.locks, l ∈ v.locks) ∧ (OverSection env r t z.number → ∀ l ∈ z.locks, l.slot ≠ n) := by
  obtain ⟨v, hv, rfl⟩ := List.mem_map.mp h
  split
  · exact ⟨v, hv, rfl, fun l hl => (List.mem_filter.mp hl).1, fun _ l hl => by simpa using (List.mem_filter.mp hl).2⟩
  · next hnot =>
    refine ⟨v, hv, rfl, fun l hl => hl, fun hover => absurd ?_ hnot⟩
    obtain ⟨⟨pos, hpos⟩, htrack⟩ := hover
    obtain ⟨d, hd, hdt⟩ := Option.map_eq_some_iff.mp htrack
    exact List.contains_iff_mem.mpr (List.mem_filter.mpr ⟨List.mem_map.mpr ⟨_, hpos, rfl⟩, by simp [hd, hdt]⟩)

/-- The release of a section. -/
theorem Plant.releaseSection_released (hsl : p.slot? n = some sl) (hx : p.current.track? k = some x) :
    p.ReleasedAt env n k r x (Plant.releaseSection env p sl r k) := by
  obtain ⟨hc, hs, ha⟩ := Plant.releaseSection_spec (env := env) (r := r) k hsl
  refine .of_unberthed (fun m hm => ?_) hc ha (Yard.release_track?_self hx) fun z hz => ?_
  · exact (Plant.slot?_congr hs m).trans (p.mapSlot_slot?_ne
      (f := fun x => { x with released := sl.released + 1 }) (fun _ h => h) hm)
  · obtain ⟨-, -, -, -, hover⟩ := Yard.release_points hz
    exact hover

/-- The release of a later section leaves what is released. -/
theorem Plant.ReleasedAt.releaseSection (h : p.ReleasedAt env n k r x q) (hsl : q.slot? n = some sl) (t : Nat) :
    p.ReleasedAt env n k r x (Plant.releaseSection env q sl r t) := by
  obtain ⟨hc, hs, ha⟩ := Plant.releaseSection_spec (env := env) (r := r) t hsl
  refine .of_unberthed (fun m hm => ?_) hc (ha.trans h.active) ?_ fun z hz hover l hl => ?_
  · exact ((Plant.slot?_congr hs m).trans (q.mapSlot_slot?_ne
      (f := fun x => { x with released := sl.released + 1 }) (fun _ h => h) hm)).trans (h.others m hm)
  · by_cases ht : k = t
    · subst ht
      exact Yard.release_track?_self (x := { x with reservedBy := none }) h.track
    · rw [Yard.release_track?_ne ht]
      exact h.track
  · obtain ⟨v, hv, hnumber, hlocks, -⟩ := Yard.release_points hz
    exact h.points v hv (hnumber ▸ hover) l (hlocks l hl)

theorem Plant.ReleasedAt.freeSlot {c : RouteCause} (h : p.ReleasedAt env n k r x q) (hsl : q.slot? n = some sl) :
    p.ReleasedAt env n k r x (Plant.freeSlot env q n c) := by
  obtain ⟨hc, ha, -⟩ := Plant.freeSlot_current (env := env) (c := c) hsl
  have hstop := Plant.stopEntrySignal_current env q sl
  refine .of_unberthed (fun m hm => ?_) hc (ha.trans h.active) ?_ fun z hz _ => ((Yard.letGo_points _ n) z hz).2
  · exact ((Plant.slot?_congr (Plant.freeSlot_slots hsl) m).trans (Plant.clearSlot_ne hm)).trans (h.others m hm)
  · have htracks : ((Plant.stopEntrySignal env q sl).current.letGo n).track? k =
        (q.current.track? k).map fun t => if t.reservedBy = some n then { t with reservedBy := none } else t := by
      rw [hstop]
      exact findBy_map Track.number _ (fun t => by split <;> rfl) k q.current.tracks
    rw [htracks, h.track]
    rfl

/-- The sections after it that are released too leave what is released. -/
theorem Plant.ReleasedAt.releaseRun (f : Nat) (h : p.ReleasedAt env n k r x q) (hr : ∀ sl, q.slot? n = some sl → env.slotRoute sl = some r) :
    p.ReleasedAt env n k r x (Plant.releaseRun env n f q) := by
  induction f generalizing q with
  | zero => exact h
  | succ f ih =>
    unfold Plant.releaseRun
    split
    · exact h
    · next sl hsl =>
      rw [hr sl hsl]
      dsimp only
      split
      · exact h
      · next t _ =>
        have hreleased := h.releaseSection hsl t
        obtain ⟨-, hs, -⟩ := Plant.releaseSection_spec (env := env) (r := r) t hsl
        have hself : (Plant.releaseSection env q sl r t).slot? n = some { sl with released := sl.released + 1 } :=
          (Plant.slot?_congr hs n).trans (q.mapSlot_slot?_self
            (f := fun x => { x with released := sl.released + 1 }) (fun _ h => h) hsl)
        split
        · split
          · exact hreleased.freeSlot hself
          · refine ih hreleased fun sl' hsl' => ?_
            rw [hself] at hsl'
            obtain rfl := Option.some.inj hsl'
            exact hr sl hsl
        · exact h

/-- The next section of an ENTERED or EMERGENCY_TIMING slot, marked and found CLEAR, is released; with the last one the slot is freed. -/
theorem Plant.slotSection_releases (hf : p.freeze = none) (hsl : p.slot? n = some sl) (hr : env.slotRoute sl = some r)
    (hk : r.tracks[sl.released]? = some k) (hmark : sl.marks.getD sl.released false = true)
    (hclear : Plant.trackClear env p p.active k = true) (hstate : sl.state = .entered ∨ sl.state = .emergencyTiming) :
    Plant.slotSection env p sl r sl.released .clear =
      if sl.released + 1 = r.tracks.length then Plant.freeSlot env (Plant.releaseSection env p sl r k) n .freed
      else Plant.releaseRun env n (r.tracks.length - 1) (Plant.releaseSection env p sl r k) := by
  have hnumber : sl.number = n := Plant.slot?_number hsl
  obtain ⟨hlt, -⟩ := List.getElem?_eq_some_iff.mp hk
  have hfrozen : p.frozen = false := by rw [Plant.frozen, hf]; rfl
  have hreleasing : p.releasing sl = true := by
    rcases hstate with h | h <;> simp [Plant.releasing, h, hfrozen]
  have hpass : Plant.slotSection env p sl r sl.released .clear = Plant.releaseRun env n r.tracks.length p := by
    rcases hstate with h | h <;> simp only [Plant.slotSection, h, hnumber] <;> rfl
  obtain ⟨l, hl⟩ : ∃ l, r.tracks.length = l + 1 := ⟨r.tracks.length - 1, by omega⟩
  rw [hpass, hl]
  simp only [Plant.releaseRun, hsl, hr, hk, hreleasing, hmark, hclear, Bool.and_self, if_true, hl]
  rfl

theorem Plant.releaseSection_trackClear (hsl : p.slot? n = some sl) (hm : m ≠ k) :
    Plant.trackClear env (Plant.releaseSection env p sl r k) (Plant.releaseSection env p sl r k).active m = Plant.trackClear env p p.active m := by
  obtain ⟨hc, -, ha⟩ := Plant.releaseSection_spec (env := env) (r := r) k hsl
  have htracks : (Plant.releaseSection env p sl r k).current.track? m = p.current.track? m := by
    rw [Yard.track?, show (Plant.releaseSection env p sl r k).current.tracks = _ from (congrArg Yard.tracks hc :)]
    exact Yard.release_track?_ne (env := env) (n := n) (r := r) (y := p.current) hm
  have hclear : (Plant.releaseSection env p sl r k).current.trackClear m = p.current.trackClear m := by
    simp only [Yard.trackClear, Yard.trackState, htracks]
  have hlink := Plant.linkUp_of_links ((Plant.Cascade.refl p).releaseSection (env := env) (sl := sl) (r := r) (t := k)).links
  have hup : ∀ e, (Plant.releaseSection env p sl r k).elementUp env (Plant.releaseSection env p sl r k).active e =
      p.elementUp env p.active e := Plant.elementUp_congr ha hlink
  rw [Plant.trackClear, Plant.trackClear, hup]
  exact congrArg (· && _) hclear

/-- What the release of the next section leaves. -/
theorem Plant.slotSection_released (hf : p.freeze = none) (hsl : p.slot? n = some sl) (hr : env.slotRoute sl = some r)
    (hnd : r.tracks.Nodup) (hx : p.current.track? k = some x)
    (hk : r.tracks[sl.released]? = some k) (hmark : sl.marks.getD sl.released false = true)
    (hclear : Plant.trackClear env p p.active k = true) (hstate : sl.state = .entered ∨ sl.state = .emergencyTiming) :
    let l := Plant.slotSection env p sl r sl.released .clear
    p.ReleasedAt env n k r x l ∧
      (∀ next, r.tracks[sl.released + 1]? = some next → Plant.trackClear env p p.active next = false →
        l.slot? n = some { sl with released := sl.released + 1 } ∧ ∀ m, m ≠ k → l.current.track? m = p.current.track? m) ∧
      (r.tracks[sl.released + 1]? = none → p.Freed n l) := by
  intro l
  have hrelease : l = _ := Plant.slotSection_releases hf hsl hr hk hmark hclear hstate
  obtain ⟨hlt, hkat⟩ := List.getElem?_eq_some_iff.mp hk
  have hreleased := Plant.releaseSection_released (env := env) (r := r) hsl hx
  obtain ⟨hc, hs, ha⟩ := Plant.releaseSection_spec (env := env) (r := r) k hsl
  have hclears := fun m => Plant.releaseSection_trackClear (env := env) (r := r) (m := m) (k := k) hsl
  generalize Plant.releaseSection env p sl r k = q at hrelease hreleased hc hs ha hclears
  have hself : q.slot? n = some { sl with released := sl.released + 1 } :=
    (Plant.slot?_congr hs n).trans (p.mapSlot_slot?_self
      (f := fun x => { x with released := sl.released + 1 }) (fun _ h => h) hsl)
  refine ⟨?_, fun next hnext hnot => ?_, fun hend => ?_⟩
  · rw [hrelease]
    split
    · exact hreleased.freeSlot hself
    · exact hreleased.releaseRun _ fun sl' hsl' => by
        rw [hself] at hsl'
        obtain rfl := Option.some.inj hsl'
        exact hr
  · obtain ⟨hnlt, hnat⟩ := List.getElem?_eq_some_iff.mp hnext
    have hne : next ≠ k := fun h => by
      have := (List.getElem_inj (h₀ := hnlt) (h₁ := hlt) hnd).mp (hnat.trans (h.trans hkat.symm))
      omega
    have hstay : l = q := by
      rw [hrelease, if_neg (by omega)]
      cases r.tracks.length - 1 with
      | zero => rfl
      | succ f =>
        simp only [Plant.releaseRun, hself]
        rw [show env.slotRoute { sl with released := sl.released + 1 } = some r from hr]
        simp only [hnext, hclears next hne, hnot, Bool.and_false, Bool.false_eq_true, if_false]
    rw [hstay]
    refine ⟨hself, fun m hm => ?_⟩
    rw [Yard.track?, show q.current.tracks = _ from (congrArg Yard.tracks hc :)]
    exact Yard.release_track?_ne (env := env) (n := n) (r := r) (y := p.current) hm
  · have hlast : sl.released + 1 = r.tracks.length := by
      have := List.getElem?_eq_none_iff.mp hend
      omega
    rw [hrelease, if_pos hlast]
    have hfreed := Plant.freeSlot_freed (env := env) (c := .freed) hself
    exact ⟨hfreed.slot, hfreed.tracks, hfreed.points, fun m hm => (hfreed.others m hm).trans (hreleased.others m hm)⟩

end

end Sys2Proof.Machine
end

section
/-! SUPPORT. The sections' conditions taken (O53). -/

namespace Sys2Proof.Machine

open Sys2Proof

section
variable {p q v : Plant} {k n : Nat} {r : RouteRecord} {st : TrackState} {f : Slot → Slot}

/-- What a slot that is ENTERED or reverts leaves of the real yard in force. -/
theorem Plant.Stopped.yard (hs : p.session = none) (h : p.Stopped n r f q) : q.yard = { p.yard with signals := q.yard.signals } := by
  have hq : q.current = q.yard := by rw [Plant.current, h.active, Plant.active_of_none hs]; rfl
  have hcurrent := h.current
  rwa [hq, Plant.current_real hs] at hcurrent

theorem Plant.Stopped.signals (hs : p.session = none) (h : p.Stopped n r f q) :
    (∀ m, m ≠ r.signal → q.yard.signal? m = p.yard.signal? m) ∧ ∀ g, q.yard.signal? r.signal = some g → g.commanded = .stop := by
  have hq : q.current = q.yard := by rw [Plant.current, h.active, Plant.active_of_none hs]; rfl
  have hothers := h.others
  have hcommanded := h.commanded
  rw [hq] at hothers hcommanded
  rw [Plant.current_real hs] at hothers
  exact ⟨hothers, hcommanded⟩

end

/-- Settles O53: the section takes its condition, the slot that reserves it takes the change by its state, and a disturbance and the
report follow. -/
theorem sectionTakesCondition : Obligations.SectionTakesCondition := by
  unfold Obligations.SectionTakesCondition
  intro s k link x c hup hlink hx hne hquiet unthrown
  let p := s.plant.goodFrame link
  let q := p.mapTrack .real k fun y => { y with state := c.state }
  let v := (Plant.sectionChange s.env p .real k c.state).unmarked
  have hexec : exec (.sectionReport link k c) s = .next { s with plant := v } := exec_sectionReport hup hlink hquiet
  have hqx : q.yard.track? k = some { x with state := c.state } := Plant.mapTrack_written (p := p) hx
  have hqne : ∀ m, m ≠ k → q.yard.track? m = s.plant.yard.track? m := fun m hm =>
    p.mapTrack_track?_ne (f := fun y => { y with state := c.state }) (fun _ => rfl) hm
  have htold : (c.state ≠ .clear → unthrown) → (Plant.lockingSection s.env q .real k).SectionTold k c.state v := fun hun =>
    Plant.sectionChange_told (p := p) hx hne hun
  have hfreeze : v.freeze = s.plant.freeze := ((Plant.Cascade.refl p).sectionChange (env := s.env) (sd := .real) (t := k) (st := c.state)).freeze
  refine ⟨fun hres hun => ?_, ?_⟩
  · have hv := htold fun _ => hun
    rw [Plant.lockingSection_unreserved (sd := .real) hqx hres] at hv
    have htracks : v.yard.tracks = q.yard.tracks := (congrArg Yard.tracks hv.yard :)
    have htrack : ∀ m, v.yard.track? m = q.yard.track? m := fun m => by rw [Yard.track?, htracks]; rfl
    refine ⟨_, hexec, rfl, (htrack k).trans hqx, fun m hm => (htrack m).trans (hqne m hm), ?_, fun hd => ?_, fun hd => ?_⟩
    · exact hv.yard.trans (congrArg (fun l => { s.plant.yard with tracks := l, faults := v.yard.faults }) htracks.symm :)
    · exact Plant.sectionChange_unreserved (p := p) hx hne (fun _ => hun) hres (by cases c <;> simp_all [Occupancy.state])
    · exact hv.disturbed (by rw [hd]; rfl)
  · intro n sl r hs hf hres hsl hr hnd occurs sectionOnly stopped records
    have hstep : ∀ j, r.tracks[j]? = some k → sl.released ≤ j → (c.state ≠ .clear → unthrown) →
        (Plant.slotSection s.env q sl r j c.state).SectionTold k c.state v := fun j hj hrel hun => by
      rw [← Plant.lockingSection_reserved (p := q) hs hqx hres hsl hr hnd hj hrel]
      exact htold hun
    have hoccurs : ∀ (l : Plant) (f : Slot → Slot) (more : State → Prop), l.SectionTold k c.state v → l.slots = (q.mapSlot n f).slots →
        (∀ y, y.number = n → (f y).number = n) → more { s with plant := v } → occurs (f sl) more := by
      intro l f more hv hslots hnum hmore
      have hvslots : v.slots = (q.mapSlot n f).slots := hv.slots.trans hslots
      exact ⟨_, hexec, rfl, (Plant.slot?_congr hvslots n).trans (q.mapSlot_slot?_self hnum hsl),
        fun m hm => (Plant.slot?_congr hvslots m).trans (q.mapSlot_slot?_ne hnum hm), hfreeze.trans hf, hmore⟩
    have honly : v.yard.tracks = q.yard.tracks → sectionOnly { s with plant := v } := fun htracks => by
      have htrack : ∀ m, v.yard.track? m = q.yard.track? m := fun m => by rw [Yard.track?, htracks]; rfl
      exact ⟨(htrack k).trans hqx, fun m hm => (htrack m).trans (hqne m hm)⟩
    have hstopped : ∀ {w l : Plant} {f : Slot → Slot}, w.session = none → w.Stopped n r f l → l.SectionTold k c.state v →
        (∀ m, m ≠ r.signal → v.yard.signal? m = w.yard.signal? m) ∧ stopped { s with plant := v } := fun hws hstop hv => by
      have hsignal : ∀ m, v.yard.signal? m = _ := fun m => congrArg (findBy Signal.number m) (congrArg Yard.signals hv.yard :)
      obtain ⟨hothers, hcommanded⟩ := hstop.signals hws
      exact ⟨fun m hm => (hsignal m).trans (hothers m hm), fun g hg => hcommanded g ((hsignal _).symm.trans hg)⟩
    have hrecords : ∀ {l : Plant} {a : FaultKind} {e : FaultElement} {d : Option CheckData}, l.SectionTold k c.state v →
        s.plant.yard.faults.Gains l.yard.faults a e d sl.context → records { s with plant := v } a e d := fun hv hgains hroom => by
      obtain ⟨y, hy, hcleared, hrest⟩ := hgains hroom
      exact ⟨y, hv.kept y hy hcleared, hrest⟩
    have hyard : ∀ {w l : Plant} {f : Slot → Slot}, q.FaultOnly w → w.Stopped n r f l → l.SectionTold k c.state v →
        v.yard = { q.yard with signals := v.yard.signals, faults := v.yard.faults } ∧ l.yard.faults = w.yard.faults :=
        fun {w l f} hw hstop hv => by
      have hl := hstop.yard (hw.session.trans hs)
      have hsignals : v.yard.signals = l.yard.signals := (congrArg Yard.signals hv.yard :)
      rw [hsignals]
      exact ⟨hv.yard.trans (congrArg (fun y : Yard => { y with faults := v.yard.faults })
        (hl.trans (congrArg (fun y : Yard => { y with signals := l.yard.signals }) hw.yard)) :), (congrArg Yard.faults hl :)⟩
    refine ⟨?_, ?_, ?_, ?_, ?_⟩
    · intro rest hc htracks hclear hun hrel hst
      have hnk : k ∉ rest := (List.nodup_cons.mp (htracks ▸ hnd)).1
      have hqclear : ∀ j ∈ rest, q.yard.trackClear j = true := fun j hj => by
        rw [Yard.trackClear, Yard.trackState, hqne j fun h => hnk (h ▸ hj)]
        exact hclear j hj
      obtain ⟨w, hw, hstop, hsame, hgains⟩ := Plant.slotSection_enters (env := s.env) (p := q) hs hf hsl hr htracks hqclear
        (Occupancy.shows hc) hst
      have hv := hstep 0 (by rw [htracks]; rfl) (by omega) fun _ => hun
      obtain ⟨hvyard, hlfaults⟩ := hyard hw hstop hv
      refine hoccurs _ _ _ hv (hstop.slots.trans (congrArg (updBy Slot.number n Slot.entered) hw.slots)) (fun _ h => h)
        ⟨honly (congrArg Yard.tracks hvyard :), (hstopped (hw.session.trans hs) hstop hv).2, ?_, fun ho hocc => ?_, fun ho => ?_⟩
      · have htracks' : v.yard.tracks = q.yard.tracks := (congrArg Yard.tracks hvyard :)
        exact hvyard.trans (congrArg (fun l => { s.plant.yard with
          tracks := l, signals := v.yard.signals, faults := v.yard.faults }) htracks'.symm :)
      · exact (hv.undisturbed (by rw [hocc]; decide)).trans (hlfaults.trans (hsame ho))
      · refine hrecords hv ?_
        rw [hlfaults]
        exact hgains ho
    · intro rest hc htracks hun hrel hst
      have hv := hstep 0 (by rw [htracks]; rfl) (by omega) fun _ => hun
      have hw := q.handFault_faultOnly .passedAtStop (.signal r.signal) sl.context none
      have hgains := q.handFault_gains (a := .passedAtStop) (.signal r.signal) sl.context none rfl
      rw [Plant.slotSection_abandons (p := q) hs hf hsl hr (Occupancy.shows hc) hst] at hv
      generalize q.handFault .real .passedAtStop (.signal r.signal) sl.context none = w at hv hw hgains
      have hws : w.session = none := hw.session.trans hs
      have hwsl : w.slot? n = some sl := (Plant.slot?_congr hw.slots n).trans hsl
      obtain ⟨hc, ha⟩ := Plant.abandon_current (env := s.env) (c := .passedAtStop) hwsl
      have hslots := Plant.abandon_slots (env := s.env) (c := .passedAtStop) hwsl
      generalize Plant.abandon s.env w n .passedAtStop = l at hv hc ha hslots
      rw [show l.current = l.yard by rw [Plant.current, ha, Plant.active_of_none hws]; rfl, Plant.current_real hws] at hc
      have hlet : v.yard.tracks = (q.yard.letGo n).tracks ∧ v.yard.points = (q.yard.letGo n).points ∧ v.yard.signals = q.yard.signals ∧
          l.yard.faults = w.yard.faults := by
        rw [hw.yard] at hc
        exact ⟨(congrArg Yard.tracks hv.yard :).trans (congrArg Yard.tracks hc :), (congrArg Yard.points hv.yard :).trans
          (congrArg Yard.points hc :), (congrArg Yard.signals hv.yard :).trans (congrArg Yard.signals hc :), (congrArg Yard.faults hc :)⟩
      obtain ⟨htracks, hpoints, hsignals, hfaults⟩ := hlet
      have htrack : ∀ m, v.yard.track? m = (q.yard.track? m).map fun y =>
          if y.reservedBy = some n then { y with reservedBy := none } else y := fun m => by
        rw [Yard.track?, htracks]
        exact findBy_map Track.number _ (fun t => by split <;> rfl) m q.yard.tracks
      refine hoccurs _ (fun _ => Slot.free n) _ hv (hslots.trans (congrArg (updBy Slot.number n _) hw.slots)) (fun _ _ => rfl)
        ⟨(htrack k).trans ?_, fun m hm => (htrack m).trans (by rw [hqne m hm]), hpoints, hsignals, hrecords hv ?_⟩
      · rw [hqx, Option.map_some, if_pos hres]
      · rw [hfaults]
        exact hgains
    · intro first rest hc htracks hk hun hrel hst
      obtain ⟨j, hj⟩ := List.getElem?_of_mem hk
      have hv := hstep (j + 1) (by rw [htracks]; exact hj) (by omega) fun _ => hun
      have hstop := Plant.slotSection_reverts (env := s.env) (p := q) (j := j + 1) hsl hr (Occupancy.shows hc) hst (by omega)
      obtain ⟨hvyard, hlfaults⟩ := hyard (.refl q) hstop hv
      obtain ⟨hothers, hcommanded⟩ := hstopped (w := q) hs hstop hv
      refine hoccurs _ _ _ hv hstop.slots (fun _ h => h) ⟨honly (congrArg Yard.tracks hvyard :), hcommanded, hothers, ?_, fun hocc => ?_⟩
      · have htracks' : v.yard.tracks = q.yard.tracks := (congrArg Yard.tracks hvyard :)
        exact hvyard.trans (congrArg (fun l => { s.plant.yard with
          tracks := l, signals := v.yard.signals, faults := v.yard.faults }) htracks'.symm :)
      · exact (hv.undisturbed (by rw [hocc]; decide)).trans hlfaults
    · intro i j u hc hu hj hij hmarks hrel hun hst
      have hv := hstep j hj hrel fun _ => hun
      obtain ⟨hlyard, hlslots, hgains⟩ := Plant.slotSection_skips (env := s.env) (p := q) hs hf hsl hr hu hj hij hmarks
        (Occupancy.shows hc) hst
      have hvyard : v.yard = { q.yard with faults := v.yard.faults } :=
        hv.yard.trans (congrArg (fun y : Yard => { y with faults := v.yard.faults }) hlyard :)
      have htracks : v.yard.tracks = q.yard.tracks := (congrArg Yard.tracks hvyard :)
      have hskipped : sl.skipped j sl = { sl with
          state := if sl.state = .entered then .releaseStopped else .emergencyTiming, marks := sl.marks.set j true } := by
        rcases hst with h | h <;> simp [Slot.skipped, h]
      rw [← hskipped]
      refine hoccurs _ _ _ hv hlslots (fun _ h => h) ⟨honly htracks, ?_, hrecords hv hgains⟩
      exact hvyard.trans (congrArg (fun l => { s.plant.yard with tracks := l, faults := v.yard.faults }) htracks.symm :)
    · intro hc hk hmark hst
      have hclear : Plant.trackClear s.env q q.active k = true := by
        have hup : q.elementUp s.env .real (.track k) = true := by
          rw [Plant.elementUp_real hlink]
          exact (s.plant.goodFrame_linkUp link link).trans hup
        rw [Plant.active_of_none (p := q) hs, Plant.trackClear, hup, Plant.yardOf_real, Yard.trackClear, Yard.trackState, hqx, hc]
        rfl
      have hv := hstep sl.released hk (Nat.le_refl _) fun h => absurd (by rw [hc]; rfl) h
      have hqcurrent : q.current = q.yard := Plant.current_real hs
      rw [show c.state = .clear by rw [hc]; rfl] at hv hqx
      obtain ⟨hrel, hnext, hend⟩ := Plant.slotSection_released (env := s.env) (p := q) hf hsl hr hnd (by rw [hqcurrent]; exact hqx)
        hk hmark hclear hst
      generalize Plant.slotSection s.env q sl r sl.released .clear = l at hv hrel hnext hend
      have hlcurrent : l.current = l.yard := by rw [Plant.current, hrel.active, Plant.active_of_none (p := q) hs]; rfl
      have htracks : v.yard.tracks = l.current.tracks := by rw [hlcurrent]; exact (congrArg Yard.tracks hv.yard :)
      have hpoints : v.yard.points = l.current.points := by rw [hlcurrent]; exact (congrArg Yard.points hv.yard :)
      have htrack : ∀ m, v.yard.track? m = l.current.track? m := fun m => congrArg (findBy Track.number m) htracks
      have hslot : ∀ m, v.slot? m = l.slot? m := Plant.slot?_congr hv.slots
      refine ⟨_, hexec, rfl, fun m hm => (hslot m).trans (hrel.others m hm), (htrack k).trans hrel.track, ?_, fun next hn hnot => ?_,
        fun hlast => ?_⟩
      · intro y hy hover htr
        exact hrel.points y (hpoints ▸ hy) ⟨hover, htr⟩
      · have hqnot : Plant.trackClear s.env q q.active next = false := by
          obtain ⟨hnlt, hnat⟩ := List.getElem?_eq_some_iff.mp hn
          obtain ⟨hklt, hkat⟩ := List.getElem?_eq_some_iff.mp hk
          have hnk : next ≠ k := fun h => by
            have := (List.getElem_inj (h₀ := hnlt) (h₁ := hklt) hnd).mp (hnat.trans (h.trans hkat.symm))
            omega
          have hup := Plant.elementUp_real_congr (env := s.env) (q := q) (p := s.plant) (s.plant.goodFrame_linkUp link) (.track next)
          rw [Plant.active_of_none (p := q) hs, Plant.trackClear, hup, Plant.yardOf_real, Yard.trackClear, Yard.trackState, hqne next hnk]
          exact hnot
        obtain ⟨hself, hrest⟩ := hnext next hn hqnot
        exact ⟨(hslot n).trans hself, fun m hm => (htrack m).trans ((hrest m hm).trans (by rw [hqcurrent]; exact hqne m hm))⟩
      · have hfreed := hend hlast
        exact ⟨(hslot n).trans hfreed.slot, fun y hy => hfreed.tracks y (htracks ▸ hy), fun y hy => hfreed.points y (hpoints ▸ hy)⟩

end Sys2Proof.Machine
end

section
/-! SUPPORT. Sections, detections and runs of the copies while no slot is in use (R174, R175). -/

namespace Sys2Proof.Machine

open Sys2Proof

section
variable {env : Env} {p q w : Plant} {c : Session} {n k : Nat} {st : TrackState} {sd : Side}

/-! ## A section's change with no slot in use -/

theorem Slot.state_of_unused {sl : Slot} (h : p.used = []) (hsl : sl ∈ p.slots) : sl.state = .free := by
  refine Classical.byContradiction fun hst => ?_
  have hmem : sl ∈ p.used := List.mem_filter.mpr ⟨hsl, by simpa [Slot.inUse] using hst⟩
  rw [h] at hmem
  cases hmem

/-- With no slot in use, a section passes its change to none. -/
theorem Plant.lockingSection_unused (h : p.used = []) : Plant.lockingSection env p sd k = p := by
  unfold Plant.lockingSection
  split
  · split
    · rfl
    · next sl hsl =>
      split
      · rfl
      · obtain ⟨m, -, hm⟩ := Option.bind_eq_some_iff.mp hsl
        have hfree := Slot.state_of_unused h (findBy_mem _ hm)
        dsimp only
        split
        · simp only [Plant.slotSection, hfree]
        · rfl
  · rfl

theorem Plant.interruptOver_still (h : ∀ x ∈ (p.yardOf sd).points, x.throw = none) : Plant.interruptOver env p sd k = p := by
  unfold Plant.interruptOver
  refine List.foldlRecOn (motive := fun z => z = p) _ _ rfl fun z hz m _ => ?_
  rw [hz]
  split
  · next y hy => exact if_neg (by simp [Point.throwing, h y (findBy_mem _ hy)])
  · rfl

/-! ## The copies written -/

/-- Of the copies the tables of one session are written, and its count of faults; not the real yard, and no slot. -/
structure Plant.OnCopy (c : Session) (y : Yard) (p q : Plant) : Prop where
  session : ∃ f, q.session = some { c with copy := y, faults := f }
  yard : q.yard = p.yard
  slots : q.slots = p.slots

theorem Plant.OnCopy.refl (h : p.session = some c) : p.OnCopy c c.copy p := ⟨⟨c.faults, h⟩, rfl, rfl⟩

theorem Plant.OnCopy.mapYard {y : Yard} (h : p.OnCopy c y q) (f : Yard → Yard) : p.OnCopy c (f y) (q.mapYard .copy f) := by
  obtain ⟨a, ha⟩ := h.session
  rw [Plant.mapYard_copy ha]
  exact ⟨⟨a, rfl⟩, h.yard, h.slots⟩

theorem Plant.OnCopy.report {y : Yard} {b : ReportBody} (h : p.OnCopy c y q) : p.OnCopy c y (q.report sd b) :=
  ⟨by rw [Plant.report_session]; exact h.session, (Plant.report_yard ..).trans h.yard, (Plant.report_slots ..).trans h.slots⟩

theorem Plant.OnCopy.askScan {y : Yard} (h : p.OnCopy c y q) : p.OnCopy c y (q.askScan sd) :=
  ⟨by rw [Plant.askScan_session]; exact h.session, (Plant.askScan_yard ..).trans h.yard, (Plant.askScan_slots ..).trans h.slots⟩

theorem Plant.OnCopy.unmarked {y : Yard} (h : p.OnCopy c y q) : p.OnCopy c y q.unmarked := ⟨h.session, h.yard, h.slots⟩

theorem Plant.OnCopy.yardOf {y : Yard} (h : p.OnCopy c y q) : q.yardOf .copy = y := by
  obtain ⟨a, ha⟩ := h.session
  exact Plant.yardOf_copy ha

theorem Plant.OnCopy.handFault {y : Yard} {a : FaultKind} {e : FaultElement} {x : Option RouteContext} {d : Option CheckData}
    (h : p.OnCopy c y q) : ∃ fs, p.OnCopy c { y with faults := fs } (q.handFault .copy a e x d) := by
  let r : FaultRecord :=
    { number := (q.yardOf .copy).faults.next, kind := a, element := some e, time := q.time .copy, context := x, check := d, further := [],
      more := false, cleared := a.cls == .corrected, marker := true }
  let kept := (q.yardOf .copy).faults.numbered.store r
  have hstored := h.mapYard fun y => { y with faults := kept.1 }
  have hcounted : p.OnCopy c { y with faults := kept.1 }
      ((q.mapYard .copy fun y => { y with faults := kept.1 }).mapSession fun c => { c with faults := c.faults + 1 }) := by
    obtain ⟨b, hb⟩ := hstored.session
    rw [Plant.mapSession_of_some hb]
    exact ⟨⟨b + 1, rfl⟩, hstored.yard, hstored.slots⟩
  refine ⟨kept.1, ?_⟩
  unfold Plant.handFault
  dsimp only
  rw [if_pos rfl]
  split
  · exact hcounted.report.report
  · exact hcounted.report

theorem Plant.OnCopy.handFaultOnce {y : Yard} {a : FaultKind} {e : FaultElement} {x : Option RouteContext}
    (h : p.OnCopy c y q) : ∃ fs, p.OnCopy c { y with faults := fs } (q.handFaultOnce .copy a e x) := by
  unfold Plant.handFaultOnce
  split
  · exact ⟨y.faults, h⟩
  · exact h.handFault

/-- A section of the copies takes a state. -/
structure Yard.SectionTakes (n : Nat) (st : TrackState) (y z : Yard) : Prop where
  rest : z = { y with tracks := z.tracks, faults := z.faults }
  self : z.track? n = (y.track? n).map fun x => { x with state := st }
  others : ∀ m, m ≠ n → z.track? m = y.track? m

/-- A section of the copies changes while no slot is in use and no throw runs (R42, R175). -/
theorem Plant.sectionChange_copy (hs : p.session = some c) (hu : p.used = []) (hthrow : ∀ x ∈ c.copy.points, x.throw = none) :
    ∃ y, c.copy.SectionTakes n st y ∧ p.OnCopy c y (Plant.sectionChange env p .copy n st).unmarked := by
  have hcopy : p.yardOf .copy = c.copy := Plant.yardOf_copy hs
  have hrefl := Plant.OnCopy.refl hs
  unfold Plant.sectionChange
  rw [hcopy]
  cases hx : c.copy.track? n with
  | none => exact ⟨c.copy, ⟨rfl, by rw [hx]; rfl, fun _ _ => rfl⟩, hrefl.unmarked⟩
  | some x =>
    dsimp only
    split
    · next hsame => exact ⟨c.copy, ⟨rfl, by rw [hx, Option.map_some, ← hsame], fun _ _ => rfl⟩, hrefl.unmarked⟩
    · let f : Track → Track := fun x => { x with state := st }
      let q := p.mapTrack .copy n f
      have hq : p.OnCopy c { c.copy with tracks := updBy Track.number n f c.copy.tracks } q :=
        hrefl.mapYard fun y => { y with tracks := updBy Track.number n f y.tracks }
      have htakes : ∀ fs, c.copy.SectionTakes n st { c.copy with tracks := updBy Track.number n f c.copy.tracks, faults := fs } := fun fs =>
        ⟨rfl, findBy_updBy_self Track.number n f c.copy.tracks fun _ h => h,
          fun m hm => findBy_updBy_ne Track.number f c.copy.tracks (fun _ h => h) hm⟩
      have hover : (if st = .clear then q else Plant.interruptOver env q .copy n) = q := by
        split
        · rfl
        · exact Plant.interruptOver_still (by rw [hq.yardOf]; exact hthrow)
      have hlock : Plant.lockingSection env q .copy n = q := Plant.lockingSection_unused ((Plant.used_congr hq.slots).trans hu)
      simp only [Plant.sectionPassed]
      rw [hover, hlock]
      split
      · obtain ⟨fs, hfs⟩ := hq.askScan.handFaultOnce
        exact ⟨_, htakes fs, hfs.report.unmarked⟩
      · exact ⟨_, htakes _, hq.askScan.report.unmarked⟩

end

end Sys2Proof.Machine
end

section
/-! SUPPORT. A section of the copies takes a state by REHEARSAL ACT (R175). -/

namespace Sys2Proof.Machine

open Sys2Proof

section
variable {s : State} {c : Session} {n : Nat}

theorem Plant.simSection_of_not_disturbed {env : Env} {p : Plant} {st : TrackState} (hs : p.session = some c) (h : n ∉ c.disturb) :
    Plant.simSection env p n st = Plant.sectionChange env p .copy n st := by
  simp [Plant.simSection, Plant.disturbed, hs, h]

theorem Plant.injectDisturb_of_not_disturbed {env : Env} {p : Plant} (hs : p.session = some c) (h : n ∉ c.disturb) :
    Plant.injectDisturb env p n =
      Plant.sectionChange env { p with session := some { c with disturb := addOnce n c.disturb } } .copy n .disturbed := by
  simp [Plant.injectDisturb, Plant.disturbed, Plant.mapSession_of_some hs, hs, h]

/-- A disturbance removed where no run stands leaves the section CLEAR. -/
theorem Plant.removeDisturb_of_disturbed {env : Env} {p : Plant} (hs : p.session = some c) (h : n ∈ c.disturb) (hr : c.runs = []) :
    Plant.removeDisturb env p n =
      Plant.sectionChange env { p with session := some { c with disturb := c.disturb.filter fun x => x != n } } .copy n .clear := by
  simp [Plant.removeDisturb, Plant.disturbed, Plant.mapSession_of_some hs, hs, h, hr]

/-- A REHEARSAL ACT that is done and that changes a section of the copies, with another list of disturbances. -/
theorem State.rehearsalAct_section {port : Port} {tag : Byte} {verdict : State → Answer} {f : Env → Plant → Plant} {x : Track}
    {st : TrackState} {l : List Nat} (hears : s.hears port .rehearsalAct) (hc : s.plant.session = some c)
    (hquiet : s.plant.quiet s.env) (hstill : s.plant.still) (hx : c.copy.track? n = some x)
    (ha : verdict (s.dispatch port TelegramKind.rehearsalAct.code tag) = .done)
    (hf : let u := s.answered port TelegramKind.rehearsalAct.code tag .done
      f s.env u.plant = Plant.sectionChange s.env { u.plant with session := some { c with disturb := l } } .copy n st) :
    let u := s.answered port TelegramKind.rehearsalAct.code tag .done
    ∃ t c', s.takeTelegram .rehearsalAct port tag verdict (fun t => t.event f) = t ∧ u.plantOnly t ∧ t.plant.session = some c' ∧
      c'.copy.track? n = some { x with state := st } ∧ (∀ m, m ≠ n → c'.copy.track? m = c.copy.track? m) ∧
      c'.copy = { c.copy with tracks := c'.copy.tracks, faults := c'.copy.faults } ∧
      t.plant.yard = s.plant.yard ∧ t.plant.slots = s.plant.slots := by
  intro u
  have hu : u.plant.session = some c := by simpa [u] using hc
  let p : Plant := { u.plant with session := some { c with disturb := l } }
  have hmap : u.plant.mapSession (fun c => { c with disturb := l }) = p := Plant.mapSession_of_some hu _
  have hp : p.quiet s.env := hmap ▸ (Plant.Cascade.refl u.plant).mapSession.quiet (State.answered_quiet hquiet ..)
  have hthrow : ∀ z ∈ c.copy.points, z.throw = none := by
    have : s.plant.current = c.copy := by simp [Plant.current, Plant.active, Plant.yardOf, hc]
    exact this ▸ hstill.2
  have hused : p.used = [] := by simpa [p, u, Plant.used] using hstill.1
  obtain ⟨y, htakes, hcopy⟩ := Plant.sectionChange_copy (env := s.env) (n := n) (st := st) (p := p) rfl hused hthrow
  obtain ⟨a, ha'⟩ := hcopy.session
  refine ⟨_, _, State.takeTelegram_event_quiet hears ha (by simp) hf ((Plant.Cascade.refl p).sectionChange.quiet hp), rfl, ha', ?_,
    htakes.others, htakes.rest, hcopy.yard.trans ?_, hcopy.slots.trans ?_⟩
  · exact htakes.self.trans (by rw [hx]; rfl)
  · simp [p, u]
  · simp [p, u]

/-- Settles O49: each act comes down to the change of one section of the copies, which no slot and no throw takes further. -/
theorem rehearsalSectionTakesState : Obligations.RehearsalSectionTakesState := by
  unfold Obligations.RehearsalSectionTakesState
  intro s port tag c n x hears hc hquiet hstill hpresent hx u takes
  have hu : u.plant.session = some c := by simpa [u] using hc
  have hself : { u.plant with session := some { c with disturb := c.disturb } } = u.plant := by rw [← hu]
  have hkey : (s.dispatch port TelegramKind.rehearsalAct.code tag).keyPresent (.track n) = true := by
    obtain ⟨d, hd⟩ := Option.isSome_iff_exists.mp hpresent
    simp [State.keyPresent, Layout.record?, hd]
  have hdone : actAnswer (s.dispatch port TelegramKind.rehearsalAct.code tag)
      ((s.dispatch port TelegramKind.rehearsalAct.code tag).keyPresent (.track n)) true = .done :=
    actAnswer_done hkey rfl (by simp [hc])
  have key {i : Instr} {st : TrackState} {verdict : State → Answer} {f : Env → Plant → Plant} (l : List Nat)
      (hi : exec i s = .next (s.takeTelegram .rehearsalAct port tag verdict fun t => t.event f))
      (ha : verdict (s.dispatch port TelegramKind.rehearsalAct.code tag) = .done)
      (hf : f s.env u.plant = Plant.sectionChange s.env { u.plant with session := some { c with disturb := l } } .copy n st) :
      takes i st := by
    obtain ⟨t, c', ht, hrest⟩ := State.rehearsalAct_section hears hc hquiet hstill hx ha hf
    exact ⟨t, c', hi.trans (congrArg _ ht), hrest⟩
  refine ⟨fun hclear => ⟨?_, ?_, ?_⟩, fun hdisturbed hruns => ?_⟩
  · exact key c.disturb rfl hdone ((Plant.simSection_of_not_disturbed hu hclear).trans (by rw [hself]))
  · exact key c.disturb rfl hdone ((Plant.simSection_of_not_disturbed hu hclear).trans (by rw [hself]))
  · exact key _ rfl hdone (Plant.injectDisturb_of_not_disturbed hu hclear)
  · exact key _ rfl hdone (Plant.removeDisturb_of_disturbed hu hdisturbed hruns)

end

end Sys2Proof.Machine
end

section
/-! SUPPORT. The simulated field: the end of a drive and the steps of a run on the copies (R174). -/

namespace Sys2Proof.Machine

open Sys2Proof

section
variable {env : Env} {s : State} {p q w : Plant} {c : Session} {n k due : Nat} {st : TrackState} {sd : Side}

/-! ## The rehearsal time base at a moment already reached -/

/-- Brought to a moment already reached, the copies keep their base; the clocks alone are worked. -/
theorem Plant.advanceTo_reached (hs : p.session = some c) (hrate : 1 ≤ c.rate) (hdue : due ≤ c.base) :
    (∃ clock, (p.advanceTo .copy due).session = some { c with copy := { c.copy with clock := clock } }) ∧
      (∃ clock, (p.advanceTo .copy due).yard = { p.yard with clock := clock }) ∧ (p.advanceTo .copy due).slots = p.slots := by
  have hbase : p.base .copy = c.base := by simp [Plant.base, hs]
  have hown : p.ownTime .copy 0 = 0 := by
    have hzero : (0 + (c.rate - 1)) / c.rate = 0 := Nat.div_eq_of_lt (by omega)
    simp only [Plant.ownTime, hs, hzero, ite_self]
  have hstill : p.advanceTo .copy due = p.advance 0 := by
    unfold Plant.advanceTo
    rw [hbase, Nat.sub_eq_zero_of_le hdue, hown]
  rw [hstill]
  exact ⟨⟨_, by rw [Plant.advance, hs]; rfl⟩, ⟨_, rfl⟩, rfl⟩

/-! ## The end of a simulated drive -/

/-- A point of the copies at the end of its throw. -/
def Point.completed (x : Point) (th : Throw) (base : Nat) : Point :=
  { x with
    state := th.target.state, detected := some th.target, throw := none, lastDuration := (base - th.startedAt) / 100
    lastPeak := th.peak }

theorem Plant.OnCopy.mapPoint {y : Yard} {f : Point → Point} (h : p.OnCopy c y q) :
    p.OnCopy c { y with points := updBy Point.number n f y.points } (q.mapPoint .copy n f) :=
  h.mapYard fun y => { y with points := updBy Point.number n f y.points }

/-- The end of a throw that no slot claims, and that hands no fault on. -/
theorem Plant.throwEnd_unrecorded {x : Point} {th : Throw} (hx : (p.yardOf sd).point? n = some x) (ht : x.throw = some th)
    (hclaim : x.claim = none) (hu : p.used = []) (cause : ThrowCause) (a : PointState) :
    (Plant.throwEnd env p sd n cause a none).unmarked =
      ((p.mapPoint sd n fun y => y.ended a ((p.base sd - th.startedAt) / 100) th.peak).report sd
        (.throwEnded n th.target cause a x.attempts ((p.base sd - th.startedAt) / 100) th.peak)).unmarked := by
  unfold Plant.throwEnd
  rw [hx]
  dsimp only
  rw [ht, hclaim]
  dsimp only
  rw [Plant.askScan_unmarked, Plant.pointChanged_unused (by
    rw [Plant.used_congr (Plant.report_slots ..), Plant.used_congr (Plant.mapPoint_slots ..)]
    exact hu)]
  rfl

/-- A throw of the desk on the copies ends with the detection of its target. -/
theorem Plant.pointDetection_copy {x : Point} {th : Throw} (hs : p.session = some c) (hu : p.used = [])
    (hx : c.copy.point? n = some x) (hst : x.state = .moving) (ht : x.throw = some th) (hclaim : x.claim = none)
    (hattempts : x.attempts = 0) :
    ∃ y, p.OnCopy c y (Plant.pointDetection env p .copy n (some th.target)).unmarked ∧
      y.point? n = some (x.completed th c.base) := by
  have hx' : (p.yardOf .copy).point? n = some x := by rw [Plant.yardOf_copy hs]; exact hx
  let f : Point → Point := fun y => { y with detected := some th.target }
  let w := p.mapPoint .copy n f
  have hw : p.OnCopy c { c.copy with points := updBy Point.number n f c.copy.points } w := (Plant.OnCopy.refl hs).mapPoint
  have hwx : (w.yardOf .copy).point? n = some (f x) := by
    rw [hw.yardOf]
    exact (findBy_updBy_self Point.number n f c.copy.points fun _ h => h).trans (congrArg (Option.map f) hx)
  have hbase : w.base .copy = c.base := by
    obtain ⟨a, ha⟩ := hw.session
    simp [Plant.base, ha]
  have hwu : w.used = [] := (Plant.used_congr (Plant.mapPoint_slots ..)).trans hu
  rw [Plant.pointDetection_completed .copy hx' ht hst, if_pos hattempts,
    Plant.throwEnd_unrecorded hwx ht hclaim hwu, hbase]
  refine ⟨_, hw.mapPoint.report.unmarked, ?_⟩
  exact (findBy_updBy_self Point.number n (fun y => y.ended th.target.state ((c.base - th.startedAt) / 100) th.peak) _
    fun _ h => h).trans
    (congrArg _ ((findBy_updBy_self Point.number n f c.copy.points fun _ h => h).trans (congrArg (Option.map f) hx)))

/-! ## The steps of a simulated run -/

theorem Plant.OnCopy.trans {a y : Yard} {f : Nat} (h : p.OnCopy c a q)
    (h' : q.OnCopy { c with copy := a, faults := f } y w) : p.OnCopy c y w :=
  ⟨h'.session, h'.yard.trans h.yard, h'.slots.trans h.slots⟩

/-- The section that a step of a run is about. -/
def SimRun.trackAt (r : SimRun) : Nat → Option Nat
  | 0 => none
  | j + 1 => r.tracks[j]?

theorem Plant.runSection_eq (r : SimRun) :
    Plant.runSection env p r k st =
      match r.trackAt k with
      | some t => Plant.simSection env p t st
      | none => p := by
  cases k <;> rfl

/-- The sections of a yard after a step of a run: the one of the step takes a state unless it is disturbed. -/
structure Yard.StepTakes (c : Session) (t : Option Nat) (st : TrackState) (y z : Yard) : Prop where
  points : z.points = y.points
  self : ∀ n, t = some n → n ∉ c.disturb → z.track? n = (y.track? n).map fun x => { x with state := st }
  others : ∀ n, t ≠ some n → z.track? n = y.track? n

theorem Plant.runSection_copy (r : SimRun) (hs : p.session = some c) (hu : p.used = []) (hthrow : ∀ x ∈ c.copy.points, x.throw = none)
    (hquiet : p.quiet env) :
    ∃ y, c.copy.StepTakes c (r.trackAt k) st y ∧ p.OnCopy c y (Plant.settled env (Plant.runSection env p r k st)) ∧
      (Plant.settled env (Plant.runSection env p r k st)).quiet env := by
  have hq : (Plant.runSection env p r k st).quiet env := (Plant.Cascade.refl p).runSection.quiet hquiet
  rw [Plant.settled_of_quiet _ hq]
  suffices h : ∃ y, c.copy.StepTakes c (r.trackAt k) st y ∧ p.OnCopy c y (Plant.runSection env p r k st).unmarked by
    obtain ⟨y, htakes, hcopy⟩ := h
    exact ⟨y, htakes, hcopy, Plant.unmarked_quiet hq⟩
  rw [Plant.runSection_eq]
  cases ht : r.trackAt k with
  | none => exact ⟨c.copy, ⟨rfl, fun _ h => (nomatch h), fun _ _ => rfl⟩, (Plant.OnCopy.refl hs).unmarked⟩
  | some t =>
    dsimp only
    by_cases hdisturbed : t ∈ c.disturb
    · have hsame : Plant.simSection env p t st = p := by simp [Plant.simSection, Plant.disturbed, hs, hdisturbed]
      rw [hsame]
      exact ⟨c.copy, ⟨rfl, fun n hn hclear => absurd (Option.some.inj hn ▸ hdisturbed) hclear, fun _ _ => rfl⟩,
        (Plant.OnCopy.refl hs).unmarked⟩
    · rw [Plant.simSection_of_not_disturbed hs hdisturbed]
      obtain ⟨y, htakes, hcopy⟩ := Plant.sectionChange_copy (env := env) (n := t) (st := st) hs hu hthrow
      refine ⟨y, ⟨(congrArg Yard.points htakes.rest :), fun n hn _ => Option.some.inj hn ▸ htakes.self,
        fun n hn => htakes.others n fun h => hn (h ▸ rfl)⟩, hcopy⟩

/-- A section that a run occupies is not the one it leaves by the same step. -/
theorem SimRun.trackAt_ne {r : SimRun} {t : Nat} (h : r.trackAt (k + 1) = some t) (hnodup : r.tracks.Nodup) :
    r.trackAt k ≠ some t := by
  cases k with
  | zero => exact (nomatch ·)
  | succ j =>
    intro hj
    obtain ⟨hlt, hget⟩ := List.getElem?_eq_some_iff.mp h
    obtain ⟨hlt', hget'⟩ := List.getElem?_eq_some_iff.mp hj
    have := (List.getElem_inj (h₀ := hlt) (h₁ := hlt') hnodup).mp (hget.trans hget'.symm)
    omega

/-- A step of a run before its last: the run counts it, occupies the next section and clears the one before. -/
theorem Plant.runStep_copy {r : SimRun} (hs : p.session = some c) (hu : p.used = [])
    (hthrow : ∀ x ∈ c.copy.points, x.throw = none) (hquiet : p.quiet env) (hstep : r.step + 1 < r.lastStep) :
    ∃ y, (∀ t, r.tracks[r.step]? = some t → t ∉ c.disturb → r.tracks.Nodup →
        (y.track? t).map Track.state = (c.copy.track? t).map fun _ => TrackState.occupied) ∧
      p.OnCopy
        { c with runs := updBy SimRun.number r.number (fun x => { x with step := r.step + 1, due := some (c.base + 5000) }) c.runs }
        y (Plant.runStep env p r) ∧ (Plant.runStep env p r).quiet env := by
  have hbase : p.base .copy = c.base := by simp [Plant.base, hs]
  have hlast : ¬ r.step + 1 = r.tracks.length + 2 := by
    unfold SimRun.lastStep at hstep
    split at hstep <;> omega
  let c₁ : Session :=
    { c with runs := updBy SimRun.number r.number (fun x => { x with step := r.step + 1, due := some (c.base + 5000) }) c.runs }
  let p₁ : Plant := { p with session := some c₁ }
  have hcounted : (p.mapSession fun c =>
      { c with
        runs :=
          if r.step + 1 < r.lastStep then
            updBy SimRun.number r.number (fun x => { x with step := r.step + 1, due := some (p.base .copy + Config.simStepTime) })
              c.runs
          else delBy SimRun.number r.number c.runs }) = p₁ := by
    rw [Plant.mapSession_of_some hs, if_pos hstep, hbase]
    rfl
  obtain ⟨y, htakes, hcopy, hq⟩ := Plant.runSection_copy (env := env) (k := r.step + 1) (st := .occupied) (p := p₁) (c := c₁) r rfl
    hu hthrow (Plant.quiet_congr hquiet rfl rfl rfl rfl rfl)
  obtain ⟨a, ha⟩ := hcopy.session
  obtain ⟨z, hclears, hcopy', hq'⟩ := Plant.runSection_copy (env := env) (k := r.step) (st := .clear) r ha
    ((Plant.used_congr hcopy.slots).trans hu) (fun x hx => hthrow x ((htakes.points :) ▸ hx)) hq
  have hresult : Plant.runStep env p r = Plant.settled env
      (Plant.runSection env (Plant.settled env (Plant.runSection env p₁ r (r.step + 1) .occupied)) r r.step .clear) := by
    unfold Plant.runStep
    dsimp only
    rw [hcounted, if_neg hlast]
    rfl
  rw [hresult]
  have hall := hcopy.trans hcopy'
  refine ⟨z, fun t ht hclear hnodup => ?_, ⟨hall.session, hall.yard, hall.slots⟩, hq'⟩
  have hz : z.track? t = y.track? t := hclears.others t (SimRun.trackAt_ne ht hnodup)
  rw [hz, htakes.self t ht hclear, Option.map_map]
  rfl

end

end Sys2Proof.Machine
end

section
/-! SUPPORT. The commands of the simulated field (R174). -/

namespace Sys2Proof.Machine

open Sys2Proof

section
variable {s : State} {c : Session} {n k due : Nat}

theorem Yard.clocked {y z : Yard} {clock : Clock} (h : z = { y with clock := clock }) : z = { y with clock := z.clock } := by
  subst h
  rfl

/-- A drive of the copies neither obstructed nor undetected falls due 3 s after its start (R174). -/
theorem SimDrive.detectionDue_eq {d : SimDrive} (ho : d.obstructed = false) (hd : d.undetected = false) :
    d.detectionDue = some (d.startedAt + 3000) := by
  simp [SimDrive.detectionDue, ho, hd, Config.simDriveTime]

theorem exec_simDriveDetection {d : SimDrive} (hs : s.plant.session = some c) (hd : findBy SimDrive.point n c.drives = some d)
    (hdue : d.detectionDue = some due) (hq : (Plant.simDetect s.env (s.plant.advanceTo .copy due) d).quiet s.env) :
    exec (.simDriveDetection n) s =
      .next { s with plant := (Plant.simDetect s.env (s.plant.advanceTo .copy due) d).unmarked } := by
  refine congrArg Host.Outcome.next (State.event_of_quiet ?_ hq)
  have hfound : s.plant.simDrive? n = some d := by simp [Plant.simDrive?, hs, hd]
  rw [hfound]
  dsimp only
  rw [hdue]

theorem exec_simTramStep {r : SimRun} (hs : s.plant.session = some c) (hr : findBy SimRun.number k c.runs = some r)
    (hdue : r.due = some due) (hq : (Plant.runStep s.env (s.plant.advanceTo .copy due) r).quiet s.env) :
    exec (.simTramStep k) s =
      .next { s with plant := (Plant.runStep s.env (s.plant.advanceTo .copy due) r).unmarked } := by
  refine congrArg Host.Outcome.next (State.event_of_quiet ?_ hq)
  have hfound : s.plant.run? k = some r := by simp [Plant.run?, hs, hr]
  rw [hfound]
  dsimp only
  rw [hdue]

/-- Settles O50: the base stays at a moment already reached, and detection and step write the copies alone. -/
theorem simulatedField : Obligations.SimulatedField := by
  unfold Obligations.SimulatedField
  intro s c hs hquiet hu hrate
  refine ⟨fun n d x th hd ho hnd hpoint hdue hx hst hth htarget hclaim hattempts => ?_,
    fun k r due hr hdue hreached hstep hthrow => ?_⟩
  · have hadvanced : (s.plant.advanceTo .copy (d.startedAt + 3000)).quiet s.env := Plant.advance_quiet hquiet _
    obtain ⟨⟨clock, hsession⟩, ⟨clock', hyard⟩, hslots⟩ := Plant.advanceTo_reached hs hrate hdue
    let p := s.plant.advanceTo .copy (d.startedAt + 3000)
    let c₁ : Session := { c with copy := { c.copy with clock := clock }, drives := delBy SimDrive.point n c.drives }
    let p₁ : Plant := { p with session := some c₁ }
    have hmap : p.mapSession (fun c => { c with drives := delBy SimDrive.point d.point c.drives }) = p₁ := by
      rw [Plant.mapSession_of_some hsession, hpoint]
    have hdetect : Plant.simDetect s.env p d = Plant.pointDetection s.env p₁ .copy n (some th.target) := by
      unfold Plant.simDetect
      dsimp only
      rw [hmap, hpoint, htarget]
    have hu₁ : p₁.used = [] := (Plant.used_congr hslots).trans hu
    have hx₁ : (p₁.yardOf .copy).point? n = some x := hx
    have hq : (Plant.simDetect s.env p d).quiet s.env := by
      rw [hdetect, Plant.pointDetection_completed .copy hx₁ hth hst]
      exact (Plant.Cascade.refl p₁).mapPoint.throwEnd.quiet
        (Plant.quiet_congr hadvanced rfl rfl rfl rfl rfl)
    obtain ⟨y, hcopy, hy⟩ := Plant.pointDetection_copy (env := s.env) (p := p₁) (c := c₁) rfl hu₁ hx hst hth hclaim hattempts
    rw [← hdetect] at hcopy
    obtain ⟨a, ha⟩ := hcopy.session
    refine ⟨_, _, exec_simDriveDetection hs hd (SimDrive.detectionDue_eq ho hnd) hq, rfl, ha, hy, findBy_delBy_self _ _ _, ?_⟩
    exact Yard.clocked (hcopy.yard.trans hyard)
  · have hadvanced : (s.plant.advanceTo .copy due).quiet s.env := Plant.advance_quiet hquiet _
    obtain ⟨⟨clock, hsession⟩, ⟨clock', hyard⟩, hslots⟩ := Plant.advanceTo_reached hs hrate hreached
    obtain ⟨y, htaken, hcopy, hq⟩ := Plant.runStep_copy (r := r) hsession ((Plant.used_congr hslots).trans hu) hthrow hadvanced hstep
    have hnumber : r.number = k := findBy_key _ hr
    obtain ⟨a, ha⟩ := hcopy.session
    refine ⟨_, _, exec_simTramStep hs hr hdue hq, rfl, ha, ?_, htaken, ?_⟩
    · exact hnumber ▸ (findBy_updBy_self SimRun.number k (fun x => { x with step := r.step + 1, due := some (c.base + 5000) })
        c.runs fun _ h => h).trans (congrArg _ hr)
    · exact Yard.clocked (hcopy.unmarked.yard.trans hyard)

end

end Sys2Proof.Machine
end

section
/-! SUPPORT. The points of a route that is taken: each is locked where it lies, or claimed with a throw (R60). -/

namespace Sys2Proof.Machine

open Sys2Proof

section
variable {env : Env} {p q w : Plant} {n m k : Nat} {f g : Point → Point} {r : RouteRecord}

/-! ## One point of the yard in force written -/

theorem Plant.base_congr (hn : q.now = p.now) (hs : q.session.map Session.base = p.session.map Session.base) (sd : Side) :
    q.base sd = p.base sd := by
  cases sd with
  | real => exact hn
  | copy => cases hp : p.session <;> cases hq : q.session <;> simp_all [Plant.base]

theorem Plant.mapYard_base (p : Plant) (sd : Side) (f : Yard → Yard) (sd' : Side) : (p.mapYard sd f).base sd' = p.base sd' := by
  refine Plant.base_congr (Plant.mapYard_now ..) ?_ sd'
  cases sd with
  | real => rfl
  | copy =>
    cases hs : p.session with
    | none => simp [Plant.mapYard, Plant.setYard, hs]
    | some c => simp [Plant.mapYard_copy hs]

/-- One point of the yard in force is written, and neither a slot nor a request. -/
structure Plant.PointWritten (m : Nat) (f : Point → Point) (p q : Plant) : Prop extends p.Cascade q where
  current : q.current = { p.current with points := updBy Point.number m f p.current.points }
  slots : q.slots = p.slots
  requests : q.queue = p.queue
  base : ∀ sd, q.base sd = p.base sd

theorem Plant.mapPoint_written (p : Plant) (m : Nat) (f : Point → Point) : p.PointWritten m f (p.mapPoint p.active m f) where
  toCascade := (Plant.Cascade.refl p).mapPoint
  current := Plant.mapYard_current p fun y => { y with points := updBy Point.number m f y.points }
  slots := Plant.mapPoint_slots ..
  requests := Plant.mapPoint_queue ..
  base sd := Plant.mapYard_base p p.active (fun y => { y with points := updBy Point.number m f y.points }) sd

theorem Plant.PointWritten.trans (h : p.PointWritten m f q) (h' : q.PointWritten m g w) (hf : ∀ x, (f x).number = x.number) :
    p.PointWritten m (g ∘ f) w where
  toCascade := h.toCascade.trans h'.toCascade
  current := by
    rw [h'.current, h.current]
    exact congrArg (fun l => { p.current with points := l }) (updBy_updBy hf m p.current.points)
  slots := h'.slots.trans h.slots
  requests := h'.requests.trans h.requests
  base sd := (h'.base sd).trans (h.base sd)

theorem Plant.PointWritten.report {sd : Side} {b : ReportBody} (h : p.PointWritten m f q) : p.PointWritten m f (q.report sd b) where
  toCascade := h.toCascade.report
  current := (Plant.report_current ..).trans h.current
  slots := (Plant.report_slots ..).trans h.slots
  requests := (Plant.report_queue ..).trans h.requests
  base sd := (Plant.base_congr (Plant.report_now ..) (congrArg _ (Plant.report_session ..)) sd).trans (h.base sd)

/-- A drive that is commanded leaves the point, but for what a simulated one takes its detection from. -/
theorem Plant.sendDrive_written (env : Env) (p : Plant) (m : Nat) (pos : Position) (b : Bool) :
    ∃ g : Point → Point, (∀ x, g x = { x with detected := (g x).detected }) ∧
      p.PointWritten m g (Plant.sendDrive env p p.active m pos b) := by
  have hcascade : p.Cascade (Plant.sendDrive env p p.active m pos b) := (Plant.Cascade.refl p).sendDrive
  have hsame : p.current = { p.current with points := updBy Point.number m (fun x => x) p.current.points } := by simp [updBy]
  cases hs : p.session with
  | none =>
    have hactive := Plant.active_of_none hs
    rw [hactive] at hcascade ⊢
    refine ⟨fun x => x, fun _ => rfl, hcascade, ?_, ?_, ?_, ?_⟩
    · refine Eq.trans ?_ hsame
      exact Plant.current_congr (by simp only [Plant.sendDrive]; split <;> simp) (by simp only [Plant.sendDrive]; split <;> simp)
    · simp only [Plant.sendDrive]; split <;> simp
    · simp only [Plant.sendDrive]; split <;> simp
    · exact Plant.base_congr hcascade.now (by simp only [Plant.sendDrive]; split <;> simp)
  | some c =>
    have hactive := Plant.active_of_some hs
    have hpoint := p.mapPoint_written m fun x => { x with detected := none }
    rw [hactive] at hcascade hpoint ⊢
    refine ⟨fun x => { x with detected := none }, fun _ => rfl, hcascade, ?_, ?_, ?_, ?_⟩
    · refine Eq.trans ?_ hpoint.current
      simp only [Plant.sendDrive, Plant.current, Plant.mapSession_active]
      exact Plant.mapSession_yardOf _ (fun _ => by rfl) _
    · exact hpoint.slots
    · exact hpoint.requests
    · intro sd
      refine (Plant.base_congr (q := Plant.sendDrive env p .copy m pos b) (p := p.mapPoint .copy m fun x => { x with detected := none }) rfl ?_ sd).trans (hpoint.base sd)
      cases h : (p.mapPoint .copy m fun x => { x with detected := none }).session <;> simp [Plant.sendDrive, Plant.mapSession, h]

/-- A throw that begins: the point is MOVING toward its target. -/
theorem Plant.beginThrow_written (env : Env) (p : Plant) (m : Nat) (pos : Position) (o : ThrowOrigin) :
    ∃ f : Point → Point, ∃ th : Throw, th.target = pos ∧
      (∀ x, f x = { x with state := .moving, attempts := 0, throw := some th, detected := (f x).detected }) ∧
      p.PointWritten m f (Plant.beginThrow env p p.active m pos o) := by
  let th : Throw :=
    { target := pos, origin := o, timeLimit := env.params.throwTimeLimit, obstruction := env.params.obstruction,
      openCircuit := env.params.openCircuit, retries := env.params.retries, peak := 0, startedAt := p.base p.active,
      driveAt := p.base p.active, samples := 0, obstructionRun := 0, openRun := 0, pauseEnd := none }
  let h : Point → Point := fun x => { x with state := .moving, attempts := 0, throw := some th }
  have hpoint := p.mapPoint_written m h
  have hactive : (p.mapPoint p.active m h).active = p.active := hpoint.active
  obtain ⟨g, hg, hsent⟩ := Plant.sendDrive_written env (p.mapPoint p.active m h) m pos false
  rw [hactive] at hsent
  exact ⟨g ∘ h, th, rfl, fun x => hg (h x), (hpoint.trans hsent fun _ => rfl).report⟩

end

end Sys2Proof.Machine
end

section
/-! SUPPORT. The points of a route that is taken, one after the other (R60). -/

namespace Sys2Proof.Machine

open Sys2Proof

section
variable {env : Env} {p q w : Plant} {n m k : Nat} {f g : Point → Point} {r : RouteRecord} {z : Nat × Position} {x : Point}

/-! ## One required point -/

/-- A required point lies as the route requires it. -/
def Plant.right (p : Plant) (z : Nat × Position) : Bool := (p.current.point? z.1).any fun y => y.lies z.2

/-- A required point after the take: locked where it lay, or claimed with a throw toward its position. -/
def Point.TakenFor (n : Nat) (z : Nat × Position) (right : Bool) (y : Point) : Prop :=
  (right = true → y.state = z.2.state ∧ ∃ k ∈ y.locks, k.slot = n ∧ k.position = z.2) ∧
    (right = false → y.claim = some n ∧ ∃ th, y.throw = some th ∧ th.target = z.2)

/-- A point that the take test lets move, and that no throw moves already, may be driven. -/
theorem Plant.mayDrive_of_movable {pos : Position} (h : Plant.movable env p x pos = true) (hf : p.freeze = none) :
    Plant.mayDrive env p p.active x = true := by
  have hside : (p.active == Side.copy || p.session.isNone) = true := by
    cases hs : p.session with
    | none => simp
    | some c => simp [Plant.active_of_some hs]
  simp only [Plant.movable, Bool.and_eq_true] at h
  obtain ⟨⟨⟨⟨⟨⟨hout, _⟩, _⟩, hlocks⟩, hclear⟩, hup⟩, _⟩ := h
  simp [Plant.mayDrive, hout, hlocks, hclear, hup, hside, Plant.frozen, hf]

theorem Plant.movable_throw {pos : Position} {th : Throw} (h : Plant.movable env p x pos = true) (ht : x.throw = some th) :
    th.target = pos := by
  simp only [Plant.movable, Bool.and_eq_true, ht, Option.all_some, Throw.adoptable, beq_iff_eq] at h
  exact h.2.2

theorem Plant.pointReady_iff : Plant.pointReady env p z = true ↔ ∃ x, p.current.point? z.1 = some x ∧
    (Plant.pointLies env p p.active x z.2 = true ∨ Plant.movable env p x z.2 = true) := by
  cases hx : p.current.point? z.1 <;> simp [Plant.pointReady, hx]

theorem Plant.takePoint_spec {acc : Plant × List (Nat × Position) × List Nat} (hready : Plant.pointReady env acc.1 z = true)
    (hf : acc.1.freeze = none) :
    ∃ f : Point → Point, (∀ x, (f x).number = x.number) ∧ acc.1.PointWritten z.1 f (Plant.takePoint env r n acc z).1 ∧
      (Plant.takePoint env r n acc z).2 = (acc.2.1 ++ (if acc.1.right z = true then [] else [z]), acc.2.2) ∧
      ∀ x, acc.1.current.point? z.1 = some x → (f x).TakenFor n z (acc.1.right z) := by
  obtain ⟨x, hx, hlies⟩ := Plant.pointReady_iff.mp hready
  have hright : acc.1.right z = x.lies z.2 := by simp [Plant.right, hx]
  unfold Plant.takePoint
  dsimp only
  rw [hx]
  dsimp only
  by_cases hl : x.lies z.2 = true
  · rw [if_pos hl, hright, if_pos hl, List.append_nil]
    refine ⟨fun y => { y with locks := y.locks ++ [⟨n, markOf r z.1, z.2⟩] }, fun _ => rfl, acc.1.mapPoint_written .., rfl,
      fun y hy => ?_⟩
    obtain rfl := Option.some.inj hy
    refine ⟨fun _ => ⟨beq_iff_eq.mp hl, _, List.mem_append_right _ (List.mem_singleton_self _), rfl, rfl⟩,
      fun h => absurd (hl.symm.trans h) (by decide)⟩
  · have hmovable : Plant.movable env acc.1 x z.2 = true := by
      simpa [Plant.pointLies, hl] using hlies
    rw [if_neg hl, hright, if_neg hl]
    let claim : Point → Point := fun y => { y with claim := some n }
    have hclaim := acc.1.mapPoint_written z.1 claim
    cases ht : x.throw with
    | some th =>
      dsimp only
      refine ⟨claim, fun _ => rfl, hclaim, rfl, fun y hy => ?_⟩
      obtain rfl := Option.some.inj hy
      exact ⟨fun h => absurd h hl, fun _ => ⟨rfl, th, ht, Plant.movable_throw hmovable ht⟩⟩
    | none =>
      dsimp only
      rw [if_pos (Plant.mayDrive_of_movable hmovable hf)]
      obtain ⟨g, th, htarget, hg, hbegun⟩ := Plant.beginThrow_written env (acc.1.mapPoint acc.1.active z.1 claim) z.1 z.2 (.slot n)
      rw [hclaim.active] at hbegun
      refine ⟨_, fun y => ?_, hclaim.trans hbegun fun _ => rfl, rfl, fun y hy => ?_⟩
      · exact (congrArg Point.number (hg (claim y)) :)
      · exact ⟨fun h => absurd h hl, fun _ => ⟨(congrArg Point.claim (hg (claim y)) :), th,
          (congrArg Point.throw (hg (claim y)) :), htarget⟩⟩

/-! ## All of them -/

/-- Of the yard in force only points are written, and neither a slot nor a request. -/
structure Plant.PointsTaken (p q : Plant) : Prop extends p.Cascade q where
  current : q.current = { p.current with points := q.current.points }
  slots : q.slots = p.slots
  requests : q.queue = p.queue
  base : ∀ sd, q.base sd = p.base sd

theorem Plant.PointsTaken.refl (p : Plant) : p.PointsTaken p := ⟨.refl p, rfl, rfl, rfl, fun _ => rfl⟩

theorem Plant.PointsTaken.trans (h : p.PointsTaken q) (h' : q.PointsTaken w) : p.PointsTaken w where
  toCascade := h.toCascade.trans h'.toCascade
  current := h'.current.trans (congrArg (fun y : Yard => { y with points := w.current.points }) h.current)
  slots := h'.slots.trans h.slots
  requests := h'.requests.trans h.requests
  base sd := (h'.base sd).trans (h.base sd)

theorem Plant.PointWritten.taken (h : p.PointWritten m f q) : p.PointsTaken q where
  toCascade := h.toCascade
  current := h.current.trans (congrArg (fun l => { p.current with points := l }) (congrArg Yard.points h.current :).symm)
  slots := h.slots
  requests := h.requests
  base := h.base

theorem Plant.PointWritten.point?_self (h : p.PointWritten m f q) (hf : ∀ x, (f x).number = x.number) :
    q.current.point? m = (p.current.point? m).map f := by
  rw [h.current]
  exact findBy_updBy_self Point.number m f p.current.points fun x hx => (hf x).trans hx

theorem Plant.PointWritten.point?_ne (h : p.PointWritten m f q) (hf : ∀ x, (f x).number = x.number) (hk : k ≠ m) :
    q.current.point? k = p.current.point? k := by
  rw [h.current]
  exact findBy_updBy_ne Point.number f p.current.points (fun x hx => (hf x).trans hx) hk

/-- A required point is ready as before when it is the same and the sections and the links are. -/
theorem Plant.pointReady_congr (htracks : ∀ k, q.current.trackState k = p.current.trackState k) (hactive : q.active = p.active)
    (hlink : ∀ k, q.linkUp k = p.linkUp k) (hpoint : q.current.point? z.1 = p.current.point? z.1) :
    Plant.pointReady env q z = Plant.pointReady env p z := by
  have hup : ∀ e, q.elementUp env q.active e = p.elementUp env p.active e := Plant.elementUp_congr hactive hlink
  have hclear : ∀ k, Plant.trackClear env q q.active k = Plant.trackClear env p p.active k := fun k => by
    rw [Plant.trackClear, Plant.trackClear, hup]
    refine congrArg (· && _) ?_
    show q.current.trackClear k = p.current.trackClear k
    simp only [Yard.trackClear, htracks]
  simp only [Plant.pointReady, hpoint, Plant.pointLies, Plant.movable, Plant.pointClear, hclear, hup]

theorem Plant.PointWritten.pointReady (h : p.PointWritten m f q) (hf : ∀ x, (f x).number = x.number) (hz : z.1 ≠ m) :
    Plant.pointReady env q z = Plant.pointReady env p z :=
  Plant.pointReady_congr (fun k => by rw [h.current]; rfl) h.active (Plant.linkUp_of_links h.links) (h.point?_ne hf hz)

theorem Plant.PointWritten.right (h : p.PointWritten m f q) (hf : ∀ x, (f x).number = x.number) (hz : z.1 ≠ m) :
    q.right z = p.right z := by
  rw [Plant.right, h.point?_ne hf hz]
  rfl

/-- What the take makes of the required points: those that do not lie right are claimed, the others are locked. -/
structure Plant.RouteTaken (n : Nat) (l : List (Nat × Position)) (p q : Plant) : Prop extends p.PointsTaken q where
  others : ∀ k, k ∉ l.map (·.1) → q.current.point? k = p.current.point? k
  each : ∀ z ∈ l, ∃ y, q.current.point? z.1 = some y ∧ y.TakenFor n z (p.right z)

theorem Plant.takePoints_spec (l : List (Nat × Position)) (acc : Plant × List (Nat × Position) × List Nat)
    (hnodup : (l.map (·.1)).Nodup) (hready : ∀ z ∈ l, Plant.pointReady env acc.1 z = true) (hf : acc.1.freeze = none) :
    acc.1.RouteTaken n l (l.foldl (Plant.takePoint env r n) acc).1 ∧
      (l.foldl (Plant.takePoint env r n) acc).2 = (acc.2.1 ++ l.filter fun z => !acc.1.right z, acc.2.2) := by
  induction l generalizing acc with
  | nil => exact ⟨⟨.refl _, fun _ _ => rfl, fun _ h => (nomatch h)⟩, by simp⟩
  | cons z l ih =>
    obtain ⟨hz, hl⟩ := List.nodup_cons.mp (List.map_cons ▸ hnodup)
    obtain ⟨g, hg, hwritten, hlists, htaken⟩ := Plant.takePoint_spec (r := r) (n := n) (hready z (.head _)) hf
    have hne : ∀ y ∈ l, y.1 ≠ z.1 := fun y hy h => hz (h ▸ List.mem_map_of_mem hy)
    obtain ⟨hrest, hrestlists⟩ := ih (Plant.takePoint env r n acc z) hl
      (fun y hy => (hwritten.pointReady hg (hne y hy)).trans (hready y (.tail _ hy))) (hwritten.freeze.trans hf)
    rw [List.foldl_cons]
    refine ⟨⟨hwritten.taken.trans hrest.toPointsTaken, fun k hk => ?_, fun y hy => ?_⟩, ?_⟩
    · have hkz : k ≠ z.1 := fun h => hk (h ▸ .head _)
      have hkl : k ∉ l.map (·.1) := fun h => hk (.tail _ h)
      exact (hrest.others k hkl).trans (hwritten.point?_ne hg hkz)
    · rcases List.mem_cons.mp hy with rfl | hy
      · obtain ⟨x, hx, -⟩ := Plant.pointReady_iff.mp (hready y (.head _))
        exact ⟨g x, (hrest.others y.1 hz).trans ((hwritten.point?_self hg).trans (congrArg (Option.map g) hx)), htaken x hx⟩
      · obtain ⟨x, hx, hxt⟩ := hrest.each y hy
        exact ⟨x, hx, hwritten.right hg (hne y hy) ▸ hxt⟩
    · have hfilter : l.filter (fun y => !(Plant.takePoint env r n acc z).1.right y) = l.filter fun y => !acc.1.right y :=
        List.filter_congr fun y hy => by rw [hwritten.right hg (hne y hy)]
      rw [hrestlists, hlists, hfilter, List.filter_cons, List.append_assoc]
      cases acc.1.right z <;> rfl

end

end Sys2Proof.Machine
end

section
/-! SUPPORT. A route taken into a slot (R57 to R61, R67, R68). -/

namespace Sys2Proof.Machine

open Sys2Proof

section
variable {env : Env} {p q w : Plant} {n m k t : Nat} {r : RouteRecord} {z : Nat × Position} {sl x : Slot} {o : Origin}

/-! ## What the take test has found -/

theorem Plant.takes_spec {tram : Option Nat} (h : Plant.takeTest env p r tram = .takes t) :
    p.freeze = none ∧ (∀ k ∈ r.tracks, Plant.trackClear env p p.active k = true) ∧
      ∀ z ∈ r.required, Plant.pointReady env p z = true := by
  unfold Plant.takeTest at h
  split at h
  · cases h
  next hcalm =>
  split at h
  · cases h
  split at h
  · cases h
  split at h
  · cases h
  next hclear =>
  split at h
  · cases h
  next hready =>
  simp only [Bool.not_eq_true', Bool.not_eq_false, List.all_eq_true] at hclear hready
  refine ⟨?_, hclear, hready⟩
  cases hf : p.freeze with
  | none => rfl
  | some a => exact absurd (by simp [Plant.frozen, hf]) hcalm

theorem Plant.pointReady_up (h : Plant.pointReady env p z = true) : p.elementUp env p.active (.point z.1) = true := by
  obtain ⟨x, hx, hready⟩ := Plant.pointReady_iff.mp h
  have hnumber : x.number = z.1 := findBy_key _ hx
  rw [← hnumber]
  rcases hready with hlies | hmovable
  · exact (Bool.and_eq_true_iff.mp hlies).2
  · simp only [Plant.movable, Bool.and_eq_true] at hmovable
    exact hmovable.1.2

/-! ## The slot started -/

/-- The slot started and the sections of its route reserved, before the required points are taken (R58, R59). -/
def Plant.takeStart (env : Env) (p : Plant) (n : Nat) (r : RouteRecord) (o : Origin) (t : Nat) : Plant :=
  (p.mapSlot n fun _ => Plant.takenSlot env p n r o t).reserve n r

/-- The sections of a yard with those of a route reserved by a slot. -/
def Yard.reservedTracks (y : Yard) (n : Nat) (r : RouteRecord) : List Track :=
  y.tracks.map fun t => if t.number ∈ r.tracks then { t with reservedBy := some n } else t

theorem Plant.takeStart_current : (Plant.takeStart env p n r o t).current =
    { p.current with tracks := p.current.reservedTracks n r } := by
  let q := p.mapSlot n fun _ => Plant.takenSlot env p n r o t
  have hreserved := q.mapYard_current fun y =>
    { y with tracks := y.tracks.map fun t => if r.tracks.contains t.number then { t with reservedBy := some n } else t }
  rw [Plant.mapSlot_current] at hreserved
  refine hreserved.trans ?_
  simp only [List.contains_iff_mem]
  rfl

theorem Plant.takeStart_cascade : p.Cascade (Plant.takeStart env p n r o t) := (Plant.Cascade.refl p).mapSlot.reserve

theorem Plant.takeStart_slots : (Plant.takeStart env p n r o t).slots = (p.mapSlot n fun _ => Plant.takenSlot env p n r o t).slots :=
  Plant.mapYard_slots ..

theorem Plant.takeStart_queue : (Plant.takeStart env p n r o t).queue = p.queue := Plant.mapYard_queue ..

theorem Plant.takeStart_base (sd : Side) : (Plant.takeStart env p n r o t).base sd = p.base sd := Plant.mapYard_base ..

theorem Plant.takeStart_trackState (k : Nat) : (Plant.takeStart env p n r o t).current.trackState k = p.current.trackState k := by
  have hfind : (Plant.takeStart env p n r o t).current.track? k = (p.current.track? k).map fun t =>
      if t.number ∈ r.tracks then { t with reservedBy := some n } else t := by
    rw [Plant.takeStart_current]
    exact findBy_map Track.number (fun t => if t.number ∈ r.tracks then { t with reservedBy := some n } else t)
      (fun t => by split <;> rfl) k p.current.tracks
  rw [Yard.trackState, hfind, Yard.trackState]
  cases p.current.track? k with
  | none => rfl
  | some t =>
    by_cases ht : t.number ∈ r.tracks <;> simp [ht]

theorem Plant.takeStart_pointReady : Plant.pointReady env (Plant.takeStart env p n r o t) z = Plant.pointReady env p z :=
  Plant.pointReady_congr Plant.takeStart_trackState Plant.takeStart_cascade.active
    (Plant.linkUp_of_links Plant.takeStart_cascade.links) (by rw [Plant.takeStart_current]; rfl)

theorem Plant.takeStart_right : (Plant.takeStart env p n r o t).right z = p.right z := by
  rw [Plant.right, Plant.takeStart_current]
  rfl

/-! ## The slot SETTING (R61) -/

theorem Plant.enterSetting_spec {l : List (Nat × Position)} (hsl : q.slot? n = some sl) :
    (q.enterSetting n l).slot? n = some { sl with claimed := l, timer := .running (q.base q.active + 1000 * sl.settingLimit) } ∧
      (∀ m, m ≠ n → (q.enterSetting n l).slot? m = q.slot? m) ∧ (q.enterSetting n l).current = q.current ∧
      (q.enterSetting n l).queue = q.queue := by
  let f : Slot → Slot := fun x => { x with claimed := l, timer := .running (q.base q.active + 1000 * x.settingLimit) }
  have hself : (q.mapSlot n f).slot? n = some (f sl) := q.mapSlot_slot?_self (f := f) (fun _ h => h) hsl
  have hreport : ∃ b, q.enterSetting n l = (q.mapSlot n f).report q.active b := by
    simp only [f] at hself
    simp only [Plant.enterSetting, hself]
    exact ⟨_, rfl⟩
  obtain ⟨b, hb⟩ := hreport
  rw [hb]
  have hslots : ∀ k, ((q.mapSlot n f).report q.active b).slot? k = (q.mapSlot n f).slot? k :=
    Plant.slot?_congr (Plant.report_slots ..)
  refine ⟨(hslots n).trans hself, fun m hm => (hslots m).trans (q.mapSlot_slot?_ne (f := f) (fun _ h => h) hm), ?_, ?_⟩
  · rw [Plant.report_current, Plant.mapSlot_current]
  · rw [Plant.report_queue]
    rfl

/-! ## The take -/

/-- The entry signal's link is UP and its lamp OK. -/
def Plant.entryLit (env : Env) (p : Plant) (r : RouteRecord) : Prop :=
  p.elementUp env p.active (.signal r.signal) = true ∧ (p.current.signal? r.signal).any (fun g => g.lamp == some .ok) = true

/-- A route taken into a slot: `x` is the slot, SETTING while a point is claimed, and else LOCKED or OPEN. -/
structure Plant.Taken (env : Env) (n : Nat) (r : RouteRecord) (o : Origin) (t : Nat) (x : Slot) (p w : Plant) : Prop extends
    p.Cascade w where
  slot : w.slot? n = some x
  kept : x = { Plant.takenSlot env p n r o t with
    state := x.state, openedOnce := x.openedOnce, claimed := x.claimed, timer := x.timer }
  others : ∀ m, m ≠ n → w.slot? m = p.slot? m
  requests : w.queue = p.queue
  tracks : w.current.tracks = p.current.reservedTracks n r
  points : ∀ z ∈ r.required, ∃ y, w.current.point? z.1 = some y ∧ y.TakenFor n z (p.right z)
  setting : r.required.all p.right = false → x.state = .setting ∧ x.claimed = r.required.filter (fun z => !p.right z) ∧
    x.timer = .running (p.base p.active + 1000 * env.params.settingLimit)
  locked : r.required.all p.right = true → x.claimed = [] ∧ x.timer = .off ∧
    (p.entryLit env r → x.state = .opened ∧ ∀ g, w.current.signal? r.signal = some g → g.commanded = .proceed) ∧
    (¬p.entryLit env r → x.state = .locked)

/-- The opening conditions of a slot whose required points all lay right come down to its entry signal. -/
theorem Plant.RouteTaken.mayOpen_iff {tram : Option Nat} (h : (Plant.takeStart env p n r o t).RouteTaken n r.required q)
    (htest : Plant.takeTest env p r tram = .takes t) (hroute : env.layout.route? r.number = some r)
    (hall : r.required.all p.right = true) :
    Plant.mayOpen env q { Plant.takenSlot env p n r o t with state := .locked, claimed := [], timer := .off } = true ↔
      p.entryLit env r := by
  obtain ⟨hfreeze, hclear, hready⟩ := Plant.takes_spec htest
  have hcascade := Plant.takeStart_cascade.trans h.toCascade
  have hup : ∀ e, q.elementUp env q.active e = p.elementUp env p.active e :=
    Plant.elementUp_congr hcascade.active (Plant.linkUp_of_links hcascade.links)
  have hsignals : q.current.signal? r.signal = p.current.signal? r.signal := by
    rw [h.current, Plant.takeStart_current]
    rfl
  have htracks : ∀ k, q.current.trackState k = p.current.trackState k := fun k => by
    rw [← Plant.takeStart_trackState (p := p) (env := env) (n := n) (r := r) (o := o) (t := t), h.current]
    rfl
  rw [Plant.mayOpen_iff (r := r) (by simpa [Env.slotRoute, Plant.takenSlot] using hroute) rfl, hup, hsignals]
  refine ⟨fun ⟨_, _, hsignal, hlamp, _⟩ => ⟨hsignal, hlamp⟩, fun ⟨hsignal, hlamp⟩ =>
    ⟨fun z hz => ?_, fun k hk => ?_, hsignal, hlamp, hcascade.freeze.trans hfreeze, rfl⟩⟩
  · obtain ⟨y, hy, htaken⟩ := h.each z hz
    have hright : (Plant.takeStart env p n r o t).right z = true :=
      Plant.takeStart_right.trans (List.all_eq_true.mp hall z hz)
    obtain ⟨hstate, k, hk, hslot, -⟩ := htaken.1 hright
    exact ⟨y, hy, hstate, ⟨k, hk, hslot⟩, (hup _).trans (Plant.pointReady_up (hready z hz))⟩
  · have hkept := hclear k hk
    rw [Plant.trackClear] at hkept ⊢
    rw [hup]
    refine Eq.trans (congrArg (· && _) ?_) hkept
    show q.current.trackClear k = p.current.trackClear k
    rw [Yard.trackClear, htracks]
    rfl

/-- The slot after the required points have been taken. -/
theorem Plant.RouteTaken.slot? {l : List (Nat × Position)} (h : (Plant.takeStart env p n r o t).RouteTaken n l q)
    (hsl : p.slot? n = some sl) :
    q.slot? n = some (Plant.takenSlot env p n r o t) ∧ ∀ m, m ≠ n → q.slot? m = p.slot? m := by
  have hslots := h.slots.trans Plant.takeStart_slots
  exact ⟨(Plant.slot?_congr hslots n).trans (p.mapSlot_slot?_self (f := fun _ => Plant.takenSlot env p n r o t) (fun _ _ => rfl) hsl),
    fun m hm => (Plant.slot?_congr hslots m).trans
      (p.mapSlot_slot?_ne (f := fun _ => Plant.takenSlot env p n r o t) (fun _ _ => rfl) hm)⟩

/-- The points, the sections and the requests of the plant in which the required points have been taken. -/
theorem Plant.RouteTaken.tables {l : List (Nat × Position)} (h : (Plant.takeStart env p n r o t).RouteTaken n l q) :
    q.current.tracks = p.current.reservedTracks n r ∧
      (∀ z ∈ l, ∃ y, q.current.point? z.1 = some y ∧ y.TakenFor n z (p.right z)) ∧ q.queue = p.queue := by
  refine ⟨?_, fun z hz => ?_, h.requests.trans Plant.takeStart_queue⟩
  · rw [h.current, Plant.takeStart_current]
  · obtain ⟨y, hy, htaken⟩ := h.each z hz
    exact ⟨y, hy, Plant.takeStart_right (env := env) ▸ htaken⟩

/-- A slot that takes a route with a point to be thrown is SETTING (R61). -/
theorem Plant.RouteTaken.enterSetting (h : (Plant.takeStart env p n r o t).RouteTaken n r.required q) (hsl : p.slot? n = some sl)
    (hall : r.required.all p.right = false) :
    Plant.Taken env n r o t { Plant.takenSlot env p n r o t with
        claimed := r.required.filter fun z => !p.right z
        timer := .running (p.base p.active + 1000 * env.params.settingLimit) }
      p (q.enterSetting n (r.required.filter fun z => !p.right z)) := by
  obtain ⟨hslot, hothers⟩ := h.slot? hsl
  obtain ⟨htracks, hpoints, hrequests⟩ := h.tables
  obtain ⟨hself, hrest, hcurrent, hqueue⟩ := Plant.enterSetting_spec (l := r.required.filter fun z => !p.right z) hslot
  have hcascade := Plant.takeStart_cascade.trans h.toCascade
  have hbase : q.base q.active = p.base p.active := by rw [hcascade.active, h.base, Plant.takeStart_base]
  rw [hbase] at hself
  exact ⟨hcascade.enterSetting, hself, rfl, fun m hm => (hrest m hm).trans (hothers m hm), hqueue.trans hrequests,
    hcurrent ▸ htracks, hcurrent ▸ hpoints, fun _ => ⟨rfl, rfl, rfl⟩, fun h => absurd (h.symm.trans hall) (by decide)⟩

/-- A slot that takes a route whose points all lie right is LOCKED, and OPEN when its entry signal can show PROCEED. -/
theorem Plant.RouteTaken.enterLocked {tram : Option Nat} (h : (Plant.takeStart env p n r o t).RouteTaken n r.required q)
    (hsl : p.slot? n = some sl) (htest : Plant.takeTest env p r tram = .takes t) (hroute : env.layout.route? r.number = some r)
    (hall : r.required.all p.right = true) : ∃ x, Plant.Taken env n r o t x p (Plant.enterLocked env q n .taken) := by
  obtain ⟨hslot, hothers⟩ := h.slot? hsl
  obtain ⟨htracks, hpoints, hrequests⟩ := h.tables
  have hcascade := (Plant.takeStart_cascade.trans h.toCascade).enterLocked (env := env) (n := n) (c := .taken)
  let y : Slot := { Plant.takenSlot env p n r o t with state := .locked, claimed := [], timer := .off }
  let v := Plant.lockedSlot env q n (Plant.takenSlot env p n r o t) .taken
  have hfield := Plant.lockedSlot_field env q n (Plant.takenSlot env p n r o t) .taken
  have hvself : v.slot? n = some y := Plant.lockedSlot_self hslot
  have hvrest : ∀ m, m ≠ n → v.slot? m = q.slot? m := fun m hm =>
    (Plant.slot?_congr (Plant.lockedSlot_slots ..) m).trans
      (q.mapSlot_slot?_ne (f := fun x => { x with state := .locked, claimed := [], timer := .off }) (fun _ hx => hx) hm)
  have hvqueue : v.queue = q.queue :=
    (Plant.report_queue ..).trans (congrArg Plant.queue (Plant.routeLocked_berthsOnly ..).rest :)
  have hmay := h.mayOpen_iff htest hroute hall
  obtain ⟨hopens, hcloses⟩ := Plant.enterLocked_spec (env := env) (r := r) (c := .taken) hslot
    (by simpa [Env.slotRoute, Plant.takenSlot] using hroute)
  cases hm : Plant.mayOpen env q y with
  | true =>
    have hopened := hopens hm
    let f : Slot → Slot := fun x => { x with state := .opened, openedOnce := true }
    have hslots : ∀ k, (Plant.enterLocked env q n .taken).slot? k = (v.mapSlot n f).slot? k := Plant.slot?_congr hopened.slots
    refine ⟨{ y with state := .opened, openedOnce := true }, hcascade,
      (hslots n).trans (v.mapSlot_slot?_self (f := f) (fun _ hx => hx) hvself), rfl,
      fun m hm => ?_, hopened.queue.trans (hvqueue.trans hrequests), (hopened.tracks.trans hfield.tracks).trans htracks,
      fun z hz => ?_, fun hno => absurd (hall.symm.trans hno) (by decide),
      fun _ => ⟨rfl, rfl, fun _ => ⟨rfl, hopened.commanded⟩, fun hno => absurd (hmay.mp hm) hno⟩⟩
    · exact (hslots m).trans ((v.mapSlot_slot?_ne (f := f) (fun _ hx => hx) hm).trans ((hvrest m hm).trans (hothers m hm)))
    · rw [Yard.point?, hopened.points.trans hfield.points]
      exact hpoints z hz
  | false =>
    rw [hcloses hm] at hcascade ⊢
    refine ⟨y, hcascade, hvself, rfl, fun m hm => (hvrest m hm).trans (hothers m hm), hvqueue.trans hrequests,
      hfield.tracks.trans htracks, fun z hz => hfield.point? z.1 ▸ hpoints z hz, fun hno => absurd (hall.symm.trans hno) (by decide),
      fun _ => ⟨rfl, rfl, fun hlit => absurd ((hmay.mpr hlit).symm.trans hm) (by decide), fun _ => rfl⟩⟩

/-- A route that the take test passes is taken into the first FREE slot (R58). -/
theorem Plant.take_spec {tram : Option Nat} (hfind : p.slots.find? (fun x => !x.inUse) = some sl) (hsl : p.slot? sl.number = some sl)
    (htest : Plant.takeTest env p r tram = .takes t) (hroute : env.layout.route? r.number = some r)
    (hnodup : (r.required.map (·.1)).Nodup) : ∃ x, Plant.Taken env sl.number r o t x p (Plant.take env p r o t) := by
  obtain ⟨hfreeze, -, hready⟩ := Plant.takes_spec htest
  let q := Plant.takeStart env p sl.number r o t
  obtain ⟨htaken, hlists⟩ := Plant.takePoints_spec (env := env) (r := r) (n := sl.number) r.required (q, [], []) hnodup
    (fun z hz => Plant.takeStart_pointReady.trans (hready z hz)) (Plant.takeStart_cascade.freeze.trans hfreeze)
  have hclaimed : (r.required.filter fun z => !q.right z) = r.required.filter fun z => !p.right z :=
    List.filter_congr fun z _ => by rw [Plant.takeStart_right]
  rw [hclaimed, List.nil_append] at hlists
  have htake : ∀ done, r.required.foldl (Plant.takePoint env r sl.number) (q, [], []) = done → Plant.take env p r o t =
      if done.2.1.isEmpty then Plant.enterLocked env done.1 sl.number .taken
      else done.2.2.foldl (fun q pt => Plant.slotThrowEnd env q sl.number pt .notDriven) (done.1.enterSetting sl.number done.2.1) := by
    intro done hdone
    subst hdone
    unfold Plant.take
    rw [hfind]
    rfl
  rw [htake _ rfl, hlists]
  cases hall : r.required.all p.right with
  | true =>
    have hnone : (r.required.filter fun z => !p.right z) = [] :=
      List.filter_eq_nil_iff.mpr fun z hz => by simp [List.all_eq_true.mp hall z hz]
    rw [hnone]
    exact htaken.enterLocked hsl htest hroute hall
  | false =>
    have hsome : (r.required.filter fun z => !p.right z).isEmpty = false := by
      obtain ⟨z, hz, hwrong⟩ := List.all_eq_false.mp hall
      exact List.isEmpty_eq_false_iff_exists_mem.mpr ⟨z, List.mem_filter.mpr ⟨hz, by simpa using hwrong⟩⟩
    rw [hsome]
    exact ⟨_, htaken.enterSetting hsl hall⟩

end

end Sys2Proof.Machine
end

section
/-! SUPPORT. The scan that follows a request: who waits, who is offered a slot, and who is overtaken (R98 to R100). -/

namespace Sys2Proof.Machine

open Sys2Proof

section
variable {env : Env} {p q w : Plant} {n k t : Nat} {r : RouteRecord} {x y : Request} {sl : Slot} {o : Origin}

/-! ## Two plants that differ in the queue and the reports -/

/-- The yards, the slots, the links and the modes are the same. -/
structure Plant.AsBefore (p q : Plant) : Prop where
  yard : q.yard = p.yard
  session : q.session = p.session
  slots : q.slots = p.slots
  links : q.links = p.links
  now : q.now = p.now
  mode : q.mode = p.mode
  freeze : q.freeze = p.freeze
  hold : q.hold = p.hold
  silence : q.silence = p.silence

theorem Plant.AsBefore.trans (h : p.AsBefore q) (h' : q.AsBefore w) : p.AsBefore w :=
  ⟨h'.yard.trans h.yard, h'.session.trans h.session, h'.slots.trans h.slots, h'.links.trans h.links, h'.now.trans h.now,
    h'.mode.trans h.mode, h'.freeze.trans h.freeze, h'.hold.trans h.hold, h'.silence.trans h.silence⟩

theorem Plant.report_asBefore (p : Plant) (sd : Side) (b : ReportBody) : p.AsBefore (p.report sd b) := by
  refine ⟨?_, ?_, ?_, ?_, ?_, ?_, ?_, ?_, ?_⟩ <;> simp

theorem State.answered_asBefore (s : State) (port : Port) (kind tag : Byte) (a : Answer) :
    s.plant.AsBefore (s.answered port kind tag a).plant := by
  refine ⟨?_, ?_, ?_, ?_, ?_, ?_, ?_, ?_, ?_⟩ <;> simp

theorem Plant.withQueue_asBefore (p : Plant) (l : List Request) : p.AsBefore { p with queue := l } :=
  ⟨rfl, rfl, rfl, rfl, rfl, rfl, rfl, rfl, rfl⟩

theorem Plant.unscanned_asBefore (p : Plant) : p.AsBefore { p with wantScan := false } :=
  ⟨rfl, rfl, rfl, rfl, rfl, rfl, rfl, rfl, rfl⟩

theorem Plant.AsBefore.current (h : p.AsBefore q) : q.current = p.current := Plant.current_congr h.yard h.session

theorem Plant.AsBefore.active (h : p.AsBefore q) : q.active = p.active := Plant.active_congr h.session

theorem Plant.AsBefore.base (h : p.AsBefore q) (sd : Side) : q.base sd = p.base sd := Plant.base_congr h.now (by rw [h.session]) sd

theorem Plant.AsBefore.time (h : p.AsBefore q) (sd : Side) : q.time sd = p.time sd := by
  rw [Plant.time, Plant.yardOf_congr h.yard h.session]
  rfl

theorem Plant.AsBefore.sameTake (h : p.AsBefore q) : p.SameTake q :=
  ⟨h.freeze, h.hold, h.slots, h.links, by rw [h.session], by rw [h.current], by rw [h.current], by rw [h.current],
    by rw [Plant.headAnswer, h.current]; rfl⟩

theorem Plant.AsBefore.takeTest (h : p.AsBefore q) (r : RouteRecord) (tram : Option Nat) :
    Plant.takeTest env q r tram = Plant.takeTest env p r tram := congrFun (congrFun (h.sameTake.takeTest env) r) tram

theorem Plant.AsBefore.automatic (h : p.AsBefore q) : Plant.automatic env q = Plant.automatic env p := by
  simp only [Plant.automatic, Plant.frozen, Plant.holding, h.mode, h.freeze, h.hold, h.silence]

theorem Plant.AsBefore.right (h : p.AsBefore q) : q.right = p.right := by
  funext z
  rw [Plant.right, h.current]
  rfl

theorem Plant.AsBefore.entryLit (h : p.AsBefore q) (r : RouteRecord) : q.entryLit env r ↔ p.entryLit env r := by
  have hup : q.elementUp env q.active (.signal r.signal) = p.elementUp env p.active (.signal r.signal) :=
    Plant.elementUp_congr h.active (fun k => by simp only [Plant.linkUp, Plant.link?, h.links]) _
  rw [Plant.entryLit, hup, h.current]
  rfl

theorem Plant.Cascade.automatic (h : p.Cascade q) : Plant.automatic env q = Plant.automatic env p := by
  simp only [Plant.automatic, Plant.frozen, Plant.holding, h.mode, h.freeze, h.hold, h.silence]

/-! ## Scans that change nothing -/

/-- What a scan leaves as it is, events after it leave as it is. -/
theorem Plant.settle_of_scan (hauto : Plant.automatic env p = false)
    (hscan : Plant.scan env { p with wantScan := false } = { p with wantScan := false }) (k : Nat) :
    Plant.settle env (k + 2) p = p.unmarked := by
  have hrest : ∀ k, ∀ q : Plant, q.wantScan = false → Plant.automatic env q = false → Plant.settle env (k + 1) q = q.unmarked := by
    intro k q hs ha
    cases hr : q.wantRound with
    | false => rw [Plant.settle_of_settled env _ ⟨hs, hr⟩, Plant.unmarked_of_settled ⟨hs, hr⟩]
    | true =>
      have hround : Plant.round env { q with wantRound := false } = { q with wantRound := false } := Plant.round_of_idle env ha
      have hdone : ({ q with wantRound := false } : Plant).settledAlready := ⟨hs, rfl⟩
      rw [Plant.settle, if_neg (by simp [hs]), if_pos hr, hround, Plant.settle_of_settled env _ hdone,
        ← Plant.unmarked_of_settled hdone]
      rfl
  cases hs : p.wantScan with
  | false => exact hrest (k + 1) p hs hauto
  | true =>
    rw [Plant.settle, if_pos hs, hscan]
    exact hrest k { p with wantScan := false } rfl hauto

/-- A scan that has been asked for is made, and what it asks for follows. -/
theorem Plant.settled_askScan (env : Env) (p : Plant) :
    Plant.settled env (p.askScan p.active) = Plant.settle env 399 (Plant.scan env { p with wantScan := false }) := by
  have hask : p.askScan p.active = { p with wantScan := true } := if_pos (beq_self_eq_true _)
  rw [hask]
  show Plant.settle env (399 + 1) _ = _
  rw [Plant.settle, if_pos rfl]

/-- A request that is HELD, or not yet bypassed to the limit, is not made HELD. -/
theorem Plant.promote_fixed (hx : p.request? n = some x) (h : x.held = true ∨ ¬env.params.bypassLimit ≤ x.bypass) :
    Plant.promote env p n = p := by
  simp only [Plant.promote, hx]
  refine if_neg fun hall => ?_
  simp only [Bool.and_eq_true, Bool.not_eq_true', decide_eq_true_eq] at hall
  rcases h with h | h
  · rw [h] at hall
    exact absurd hall.1 (by decide)
  · exact h hall.2

theorem Plant.offer_of_wait (hx : p.request? n = some x) (hr : env.layout.route? n = some r)
    (hwait : Plant.takeTest env p r x.tram = .wait) : Plant.offer env p n = p := by
  simp only [Plant.offer, hx, hr, hwait, ite_self]

/-- Behind a HELD request of a conflicting route nothing is offered (R100). -/
theorem Plant.offer_of_held (hx : p.request? n = some x) (hr : env.layout.route? n = some r)
    (hheld : ((p.olderThan n).filter fun y => env.conflict y.route n).any Request.held = true) : Plant.offer env p n = p := by
  simp only [Plant.offer, hx, hr, if_pos hheld]

/-- A request that the take test passes is taken, and those it overtakes are bypassed (R99, R100). -/
theorem Plant.offer_of_takes {older : List Request} (hx : p.request? n = some x) (hr : env.layout.route? n = some r)
    (holder : ((p.olderThan n).filter fun y => env.conflict y.route n) = older) (hheld : older.any Request.held = false)
    (htakes : Plant.takeTest env p r x.tram = .takes t) (ho : x.origin ≠ .automatic) :
    Plant.offer env p n = (older.map Request.route).foldl (fun s n => Plant.bypass env s n)
      (Plant.take env { p with queue := p.queue.filter fun y => y.route != n } r x.origin t) := by
  have hfate : ∀ z : Plant, Plant.handFate env z z.active (some x.origin) n x.tram .taken = z := fun z =>
    if_neg fun h => ho (Option.some.inj h)
  simp only [Plant.offer, hx, hr, holder, hheld, htakes, hfate]
  rfl

/-- The one request of the queue waits. -/
theorem Plant.scan_waits (hqueue : p.queue = [x]) (hp : x.held = true ∨ ¬env.params.bypassLimit ≤ x.bypass)
    (hr : env.layout.route? x.route = some r) (hwait : Plant.takeTest env p r x.tram = .wait) : Plant.scan env p = p := by
  have hx : p.request? x.route = some x := by simp [Plant.request?, hqueue, findBy_cons]
  have hpromote : Plant.promote env p x.route = p := Plant.promote_fixed hx hp
  simp only [Plant.scan, hqueue, List.map_cons, List.map_nil, List.foldl_cons, List.foldl_nil, hpromote,
    Plant.offer_of_wait hx hr hwait]

/-- The one request of the queue is taken. -/
theorem Plant.scan_takes (hqueue : p.queue = [x]) (hp : x.held = true ∨ ¬env.params.bypassLimit ≤ x.bypass)
    (hr : env.layout.route? x.route = some r) (htakes : Plant.takeTest env p r x.tram = .takes t) (ho : x.origin ≠ .automatic) :
    Plant.scan env p = Plant.take env { p with queue := [] } r x.origin t := by
  have hx : p.request? x.route = some x := by simp [Plant.request?, hqueue, findBy_cons]
  have hpromote : Plant.promote env p x.route = p := Plant.promote_fixed hx hp
  have holder : ((p.olderThan x.route).filter fun y => env.conflict y.route x.route) = [] := by
    simp [Plant.olderThan, hqueue]
  have hoffer := Plant.offer_of_takes hx hr holder rfl htakes ho
  have hempty : (p.queue.filter fun y => y.route != x.route) = [] := by simp [hqueue]
  rw [hempty] at hoffer
  simp only [Plant.scan, hqueue, List.map_cons, List.map_nil, List.foldl_cons, List.foldl_nil, hpromote]
  exact hoffer

/-- Of two requests of conflicting routes the older waits; the scan comes to what the younger is offered. -/
theorem Plant.scan_behind {r' : RouteRecord} (hqueue : p.queue = [y, x]) (hne : y.route ≠ x.route)
    (hpy : y.held = true ∨ ¬env.params.bypassLimit ≤ y.bypass) (hpx : x.held = true ∨ ¬env.params.bypassLimit ≤ x.bypass)
    (hr' : env.layout.route? y.route = some r') (hwait : Plant.takeTest env p r' y.tram = .wait) :
    Plant.scan env p = Plant.offer env p x.route ∧ p.request? x.route = some x ∧ p.olderThan x.route = [y] := by
  have hy : p.request? y.route = some y := by simp [Plant.request?, hqueue, findBy_cons]
  have hx : p.request? x.route = some x := by simp [Plant.request?, hqueue, findBy_cons, hne]
  have hpromotey : Plant.promote env p y.route = p := Plant.promote_fixed hy hpy
  have hpromotex : Plant.promote env p x.route = p := Plant.promote_fixed hx hpx
  refine ⟨?_, hx, by simp [Plant.olderThan, hqueue, hne]⟩
  simp only [Plant.scan, hqueue, List.map_cons, List.map_nil, List.foldl_cons, List.foldl_nil, hpromotey, hpromotex,
    Plant.offer_of_wait hy hr' hwait]

/-! ## Overtaken -/

/-- A request with one bypass more. -/
def Request.overtaken (limit : Nat) (y : Request) : Request :=
  { y with bypass := y.bypass + 1, held := decide (limit ≤ y.bypass + 1) }

/-- The one request of the queue that is bypassed counts it, and is HELD at the limit (R100). -/
theorem Plant.bypass_spec (hqueue : p.queue = [y]) (hheld : y.held = false) :
    (Plant.bypass env p y.route).queue = [y.overtaken env.params.bypassLimit] ∧ p.AsBefore (Plant.bypass env p y.route) := by
  let z : Request := { y with bypass := y.bypass + 1 }
  let q := p.mapRequest y.route fun x => if x.held then x else { x with bypass := x.bypass + 1 }
  have hq : q.queue = [z] := by simp [q, Plant.mapRequest, hqueue, updBy, hheld, z]
  have hz : q.request? y.route = some z := by simp [Plant.request?, hq, findBy_cons, z]
  have hkept : p.AsBefore q := p.withQueue_asBefore _
  have hbypass : Plant.bypass env p y.route = Plant.promote env q y.route := rfl
  rw [hbypass]
  unfold Plant.promote
  rw [hz]
  dsimp only
  by_cases hlimit : env.params.bypassLimit ≤ y.bypass + 1
  · have hdue : (!z.held && decide (env.params.bypassLimit ≤ z.bypass)) = true := by simp [z, hheld, hlimit]
    rw [if_pos hdue]
    refine ⟨?_, (hkept.trans (q.withQueue_asBefore _)).trans (Plant.report_asBefore ..)⟩
    simp [Plant.mapRequest, hq, updBy, z, Request.overtaken, hlimit]
  · have hnot : ¬(!z.held && decide (env.params.bypassLimit ≤ z.bypass)) = true := by simp [z, hlimit]
    rw [if_neg hnot]
    refine ⟨hq.trans ?_, hkept⟩
    simp [z, Request.overtaken, hlimit, hheld]

/-- A route that conflicts with one that a slot holds has to wait (R57). -/
theorem Plant.takeTest_of_conflict {tram : Option Nat} (hmem : sl ∈ p.used) (hroute : sl.route = some n)
    (hconflict : env.conflict r.number n = true) : Plant.takeTest env p r tram = .wait := by
  have hany : (p.used.any fun sl => sl.route.any fun n => env.conflict r.number n) = true :=
    List.any_eq_true.mpr ⟨sl, hmem, by simp [hroute, hconflict]⟩
  unfold Plant.takeTest
  rw [if_pos hany]
  simp only [ite_self]

end

end Sys2Proof.Machine
end

section
/-! SUPPORT. REQUEST ROUTE: a request queued, taken, or taken past an older one (R57 to R61, R95 to R100). -/

namespace Sys2Proof.Machine

open Sys2Proof

section
variable {env : Env} {s : State} {p q w : Plant} {n k t route tram : Nat} {port : Port} {tag : Byte} {r : RouteRecord}
  {x y : Request} {sl : Slot} {o : Origin}

/-! ## The request queued -/

theorem Plant.requestRefusal_none {a : Bool} {given : Option Nat} (h : Plant.requestRefusal env p a route given = none) :
    p.freeze = none ∧ p.routeHeld route = false := by
  unfold Plant.requestRefusal at h
  split at h
  · cases h
  next hfrozen =>
  have hfreeze : p.freeze = none := by
    cases hf : p.freeze with
    | none => rfl
    | some a => exact absurd (by simp [Plant.frozen, hf]) hfrozen
  split at h
  · cases h
  split at h
  · cases h
  split at h
  · cases h
  split at h
  · cases h
  · split at h
    · cases h
    · split at h
      · cases h
      · next hheld => exact ⟨hfreeze, by simpa using hheld⟩

/-- The youngest request of the queue, as it joins it, with its report. -/
def Plant.queuedWith (p : Plant) (x : Request) : Plant :=
  ({ p with queue := p.queue ++ [x] } : Plant).report p.active
    (.requestQueued x.route x.origin x.tram (p.queue.length + 1) x.queuedAt x.queuedTime)

theorem Plant.enqueue_eq (given : Option Nat) :
    Plant.enqueue env p route o given = p.queuedWith (Plant.newRequest env p route o given) := by
  simp only [Plant.enqueue, Plant.queuedWith, List.length_append, List.length_singleton]
  rfl

theorem Plant.queuedWith_queue (p : Plant) (x : Request) : (p.queuedWith x).queue = p.queue ++ [x] := Plant.report_queue ..

theorem Plant.queuedWith_asBefore (p : Plant) (x : Request) : p.AsBefore (p.queuedWith x) :=
  (p.withQueue_asBefore _).trans (Plant.report_asBefore ..)

/-- REQUEST ROUTE that nothing refuses: the request is queued, and the queue is scanned. -/
theorem exec_requestRoute (hwaits : s.portWaits port = false)
    (hallowed : Plant.requestRefusal s.env s.plant (s.plant.hasAuthority port) route (tramField tram) = none) :
    let u := s.answered port TelegramKind.requestRoute.code tag .accepted
    let p := u.plant.queuedWith (Plant.newRequest s.env s.plant route (originOf port) (tramField tram))
    exec (.requestRoute port tag route tram) s =
      .next { u with plant := Plant.settle s.env 399 (Plant.scan s.env { p with wantScan := false }) } := by
  intro u p
  have hfree := (Plant.requestRefusal_none hallowed).1
  let v := s.dispatch port TelegramKind.requestRoute.code tag
  have hanswer : (match Plant.requestRefusal v.env v.plant (v.plant.hasAuthority port) route (tramField tram) with
      | some r => Answer.refused r
      | none => .accepted) = .accepted := by
    have hsame : Plant.requestRefusal v.env v.plant (v.plant.hasAuthority port) route (tramField tram) = none := by
      rw [State.dispatch_env, (s.dispatch_sameTake port TelegramKind.requestRoute.code tag).requestRefusal (by cases port <;> rfl),
        State.dispatch_hasAuthority, hallowed]
    rw [hsame]
  have hbefore : s.plant.AsBefore u.plant := s.answered_asBefore ..
  have hnew : Plant.newRequest s.env u.plant route (originOf port) (tramField tram) =
      Plant.newRequest s.env s.plant route (originOf port) (tramField tram) := by
    simp only [Plant.newRequest, hbefore.active, hbefore.base, hbefore.time]
  have hactive : p.active = u.plant.active := (u.plant.queuedWith_asBefore _).active
  refine congrArg Host.Outcome.next ((State.takeTelegram_of_hears ⟨hwaits, .inl hfree⟩ (a := .accepted) hanswer (by decide)).trans ?_)
  refine (State.event_of (p := p.askScan p.active) ?_).trans ?_
  · rw [State.answered_env, Plant.enqueue_eq, hnew, hactive]
  · rw [State.answered_env, Plant.settled_askScan]

/-! ## The three outcomes -/

/-- A scan that leaves the queue as it is leaves the request queued. -/
theorem Plant.queued_waits (hauto : Plant.automatic env p = false)
    (hscan : Plant.scan env { p with wantScan := false } = { p with wantScan := false }) :
    Plant.settle env 399 (Plant.scan env { p with wantScan := false }) = p.unmarked := by
  rw [hscan]
  exact Plant.settle_of_scan (p := { p with wantScan := false }) hauto hscan 397

theorem Plant.Taken.automatic {a : Slot} (h : Plant.Taken env n r o t a p w) : Plant.automatic env w = Plant.automatic env p :=
  h.toCascade.automatic

/-- The slot that takes a route is in use for it. -/
theorem Plant.Taken.used {a : Slot} (h : Plant.Taken env n r o t a p w) : a ∈ w.used ∧ a.route = some r.number := by
  have hroute : a.route = some r.number := by rw [h.kept]; rfl
  refine ⟨List.mem_filter.mpr ⟨findBy_mem _ h.slot, ?_⟩, hroute⟩
  have hstate : a.state ≠ .free := by
    cases hall : r.required.all p.right with
    | false => rw [(h.setting hall).1]; decide
    | true =>
      obtain ⟨-, -, hopen, hclosed⟩ := h.locked hall
      by_cases hlit : p.entryLit env r
      · rw [(hopen hlit).1]; decide
      · rw [hclosed hlit]; decide
  simpa [Slot.inUse] using hstate

/-- Alone in the queue, a request that the take test passes is taken, and nothing follows (R98). -/
theorem Plant.queued_taken (hauto : Plant.automatic env p = false) (hqueue : p.queue = [x]) (hbypass : x.bypass < env.params.bypassLimit)
    (hroute : env.layout.route? x.route = some r) (htakes : Plant.takeTest env p r x.tram = .takes t) (ho : x.origin ≠ .automatic)
    (hfind : p.slots.find? (fun x => !x.inUse) = some sl) (hsl : p.slot? sl.number = some sl)
    (hnodup : (r.required.map (·.1)).Nodup) :
    ∃ a v w, Plant.Taken env sl.number r x.origin t a v w ∧ p.AsBefore v ∧ w.queue = [] ∧
      Plant.settle env 399 (Plant.scan env { p with wantScan := false }) = w.unmarked := by
  let v : Plant := { p with wantScan := false, queue := [] }
  have hbefore : p.AsBefore { p with wantScan := false } := p.unscanned_asBefore
  have hv : p.AsBefore v := hbefore.trans (Plant.withQueue_asBefore _ [])
  have hnumber : r.number = x.route := findBy_key _ hroute
  obtain ⟨a, htaken⟩ := Plant.take_spec (env := env) (p := v) (o := x.origin) hfind hsl ((hv.takeTest _ _).trans htakes)
    (hnumber ▸ hroute) hnodup
  refine ⟨a, v, _, htaken, hv, htaken.requests, ?_⟩
  rw [Plant.scan_takes (p := { p with wantScan := false }) hqueue (.inr (Nat.not_le.mpr hbypass)) hroute
    ((hbefore.takeTest _ _).trans htakes) ho]
  exact Plant.settle_of_scan (htaken.automatic.trans (hv.automatic.trans hauto))
    (Plant.scan_of_empty env htaken.requests) 397

/-- Behind an older request of a conflicting route that waits: a HELD one is not overtaken (R100). -/
theorem Plant.queued_behind_held {r' : RouteRecord} (hqueue : p.queue = [y, x]) (hne : y.route ≠ x.route)
    (hbypass : x.bypass < env.params.bypassLimit) (hroute : env.layout.route? x.route = some r)
    (hroute' : env.layout.route? y.route = some r') (hconflict : env.conflict y.route x.route = true)
    (hwait : Plant.takeTest env p r' y.tram = .wait) (hheld : y.held = true) :
    Plant.scan env { p with wantScan := false } = { p with wantScan := false } := by
  obtain ⟨hscan, hx, holder⟩ := Plant.scan_behind (p := { p with wantScan := false }) hqueue hne (.inl hheld)
    (.inr (Nat.not_le.mpr hbypass)) hroute' ((p.unscanned_asBefore.takeTest _ _).trans hwait)
  rw [hscan]
  exact Plant.offer_of_held hx hroute (by simp [holder, hconflict, hheld])

/-- A WAITING one is overtaken by a request that the take test passes, and then waits for the slot that took it (R99, R100). -/
theorem Plant.queued_overtakes {r' : RouteRecord} (hauto : Plant.automatic env p = false) (hqueue : p.queue = [y, x])
    (hne : y.route ≠ x.route) (hbypass : x.bypass < env.params.bypassLimit) (hroute : env.layout.route? x.route = some r)
    (hroute' : env.layout.route? y.route = some r') (hconflict : env.conflict y.route x.route = true)
    (hwait : Plant.takeTest env p r' y.tram = .wait) (hheld : y.held = false) (hunder : y.bypass < env.params.bypassLimit)
    (htakes : Plant.takeTest env p r x.tram = .takes t) (ho : x.origin ≠ .automatic)
    (hfind : p.slots.find? (fun x => !x.inUse) = some sl) (hsl : p.slot? sl.number = some sl)
    (hnodup : (r.required.map (·.1)).Nodup) :
    ∃ a v w z, Plant.Taken env sl.number r x.origin t a v w ∧ p.AsBefore v ∧ w.AsBefore z ∧
      z.queue = [y.overtaken env.params.bypassLimit] ∧
      Plant.settle env 399 (Plant.scan env { p with wantScan := false }) = z.unmarked := by
  let v : Plant := { p with wantScan := false, queue := [y] }
  have hbefore : p.AsBefore { p with wantScan := false } := p.unscanned_asBefore
  have hv : p.AsBefore v := hbefore.trans (Plant.withQueue_asBefore _ [y])
  have hnumber : r.number = x.route := findBy_key _ hroute
  have hnumber' : r'.number = y.route := findBy_key _ hroute'
  obtain ⟨a, htaken⟩ := Plant.take_spec (env := env) (p := v) (o := x.origin) hfind hsl ((hv.takeTest _ _).trans htakes)
    (hnumber ▸ hroute) hnodup
  have hrequests : (Plant.take env v r x.origin t).queue = [y] := htaken.requests
  obtain ⟨hafter, hkept⟩ := Plant.bypass_spec (env := env) hrequests hheld
  obtain ⟨hscan, hx, holder⟩ := Plant.scan_behind (p := { p with wantScan := false }) hqueue hne (.inr (Nat.not_le.mpr hunder))
    (.inr (Nat.not_le.mpr hbypass)) hroute' ((hbefore.takeTest _ _).trans hwait)
  have holder' : (({ p with wantScan := false } : Plant).olderThan x.route).filter (fun y => env.conflict y.route x.route) = [y] := by
    simp [holder, hconflict]
  have hrest : (({ p with wantScan := false } : Plant).queue.filter fun y => y.route != x.route) = [y] := by simp [hqueue, hne]
  have hoffer := Plant.offer_of_takes hx hroute holder' (by simp [hheld]) ((hbefore.takeTest _ _).trans htakes) ho
  rw [hrest] at hoffer
  let z := Plant.bypass env (Plant.take env v r x.origin t) y.route
  have hresult : Plant.scan env { p with wantScan := false } = z := hscan.trans hoffer
  obtain ⟨hused, haroute⟩ := htaken.used
  have hblocked : Plant.takeTest env z r' (y.overtaken env.params.bypassLimit).tram = .wait := by
    rw [hkept.takeTest]
    exact Plant.takeTest_of_conflict hused haroute (by rw [hnumber, hnumber']; exact hconflict)
  refine ⟨a, v, _, z, htaken, hv, hkept, hafter, ?_⟩
  rw [hresult]
  refine Plant.settle_of_scan (hkept.automatic.trans (htaken.automatic.trans (hv.automatic.trans hauto))) ?_ 397
  refine Plant.scan_waits (p := { z with wantScan := false }) hafter ?_ hroute'
    ((z.unscanned_asBefore.takeTest _ _).trans hblocked)
  by_cases hlimit : env.params.bypassLimit ≤ y.bypass + 1
  · exact .inl (decide_eq_true hlimit)
  · exact .inr hlimit

/-- Settles O24: the request joins the queue, and the scan leaves it there, takes it, or lets it overtake. -/
theorem requestRouteQueues : Obligations.RequestRouteQueues := by
  unfold Obligations.RequestRouteQueues
  intro s port tag route tram r hwaits hallowed hroute hauto hlimit u now origin q waits
  obtain ⟨-, hnotheld⟩ := Plant.requestRefusal_none hallowed
  have horigin : originOf port = origin := by cases port <;> rfl
  have hnew : Plant.newRequest s.env s.plant route (originOf port) (tramField tram) = q := by rw [horigin]; rfl
  have hexec := exec_requestRoute (tag := tag) hwaits hallowed
  rw [hnew] at hexec
  let p := u.plant.queuedWith q
  have hp : s.plant.AsBefore p := (s.answered_asBefore ..).trans (Plant.queuedWith_asBefore ..)
  have hqueue : p.queue = s.plant.queue ++ [q] := (Plant.queuedWith_queue ..).trans (by simp [u])
  have hpauto : Plant.automatic s.env p = false := hp.automatic.trans hauto
  have ho : q.origin ≠ .automatic := by
    show origin ≠ .automatic
    cases port <;> decide
  have hbypass : q.bypass < s.env.params.bypassLimit := hlimit
  have hwaiting : Plant.scan s.env { p with wantScan := false } = { p with wantScan := false } → waits := fun hscan => by
    refine hexec.trans (congrArg (fun z => Host.Outcome.next ({ u with plant := z } : State)) ((Plant.queued_waits hpauto hscan).trans ?_))
    have hactive : u.plant.active = s.plant.active := (s.answered_asBefore ..).active
    have hold : u.plant.queue = s.plant.queue := by simp [u]
    simp only [p, Plant.queuedWith, hactive, hold]
    rfl
  have hfresh : ∀ older : Request, s.plant.queue = [older] → older.route ≠ route := fun older hq h => by
    simp [Plant.routeHeld, hq, h] at hnotheld
  refine ⟨fun hempty hwait => hwaiting ?_, fun older r' hq hroute' hconflict hwait => ⟨fun hheld => hwaiting ?_,
    fun named sl hheld hunder htakes hfind hsl hnodup => ?_⟩, fun named sl hempty htakes hfind hsl hnodup => ?_⟩
  · exact Plant.scan_waits (p := { p with wantScan := false }) (hqueue.trans (by rw [hempty]; rfl)) (.inr (Nat.not_le.mpr hbypass)) hroute
      (((hp.trans p.unscanned_asBefore).takeTest _ _).trans hwait)
  · exact Plant.queued_behind_held (hqueue.trans (by rw [hq]; rfl)) (hfresh older hq) hbypass hroute hroute' hconflict
      ((hp.takeTest _ _).trans hwait) hheld
  · obtain ⟨a, v, w, z, htaken, hv, hz, hafter, hsettled⟩ := Plant.queued_overtakes hpauto (hqueue.trans (by rw [hq]; rfl))
      (hfresh older hq) hbypass hroute hroute' hconflict ((hp.takeTest _ _).trans hwait) hheld hunder
      ((hp.takeTest _ _).trans htakes) ho (by rw [hp.slots]; exact hfind) ((Plant.slot?_congr hp.slots _).trans hsl) hnodup
    have hnumber : r.number = route := findBy_key _ hroute
    refine ⟨_, a, hexec.trans (congrArg (fun z => Host.Outcome.next ({ u with plant := z } : State)) hsettled), rfl, hafter,
      (Plant.slot?_congr hz.slots _).trans htaken.slot, htaken.used.2.trans (congrArg some hnumber),
      (congrArg Slot.origin htaken.kept :), (congrArg Slot.tram htaken.kept :), fun m hm => ?_⟩
    · exact (Plant.slot?_congr hz.slots m).trans ((htaken.others m hm).trans (Plant.slot?_congr (hp.trans hv).slots m))
  · intro n right
    obtain ⟨a, v, w, htaken, hv, hnone, hsettled⟩ := Plant.queued_taken hpauto (hqueue.trans (by rw [hempty]; rfl)) hbypass hroute
      ((hp.takeTest _ _).trans htakes) ho (by rw [hp.slots]; exact hfind) ((Plant.slot?_congr hp.slots _).trans hsl) hnodup
    have hnumber : r.number = route := findBy_key _ hroute
    have hold := hp.trans hv
    have hright : v.right = right := hold.right
    have hcurrent : w.unmarked.current = w.current := Plant.unmarked_current w
    refine ⟨_, a, hexec.trans (congrArg (fun z => Host.Outcome.next ({ u with plant := z } : State)) hsettled), rfl, hnone,
      htaken.slot, htaken.used.2.trans (congrArg some hnumber), (congrArg Slot.kind htaken.kept :), (congrArg Slot.origin htaken.kept :),
      (congrArg Slot.tram htaken.kept :), (congrArg Slot.marks htaken.kept :), (congrArg Slot.released htaken.kept :),
      (congrArg Slot.aspectHeld htaken.kept :), (congrArg Slot.settingLimit htaken.kept :), ?_, fun m hm => ?_, ?_, fun z hz => ?_,
      fun hall => ?_, fun hall => ?_⟩
    · rw [htaken.kept]
      show v.time v.active = _
      rw [hold.time, hold.active]
    · exact (htaken.others m hm).trans (Plant.slot?_congr hold.slots m)
    · rw [hcurrent, htaken.tracks, hold.current]
      rfl
    · obtain ⟨y, hy, hpoint⟩ := htaken.points z hz
      rw [hright] at hpoint
      exact ⟨y, hcurrent ▸ hy, hpoint⟩
    · obtain ⟨hstate, hclaimed, htimer⟩ := htaken.setting (hright ▸ hall)
      rw [hright] at hclaimed
      rw [hold.active, hold.base] at htimer
      exact ⟨hstate, hclaimed, htimer⟩
    · obtain ⟨hclaimed, htimer, hopen, hclosed⟩ := htaken.locked (hright ▸ hall)
      rw [hold.entryLit] at hopen hclosed
      exact ⟨hclaimed, htimer, fun hlit => ⟨(hopen hlit).1, hcurrent ▸ (hopen hlit).2⟩, hclosed⟩

end

end Sys2Proof.Machine
end
